-- ==== Sys2Proof/Word.lean ====
section
/-! DEFINITION. The plainest types of the model: bytes, byte strings, and the sparse table that every
indexed store of the machine uses. -/

namespace Sys2Proof

/-- One byte (R6). -/
abbrev Byte := BitVec 8

/-- A byte string, byte 0 first (R6). -/
abbrev Bytes := List (BitVec 8)

/-- A sparse table: pairs of a key and a value, keys strictly rising; a key that is not listed holds the
table's default. -/
abbrev Tbl (α : Type) := List (Nat × α)

end Sys2Proof
end

