-- ==== Sys2Proof/Syntax.lean ====
section
/-! DEFINITION. The commands of the block: one constructor of `Instr` for each row of opcode_table.json, with the
operand types that the rows need. What a command carries is what the step cannot find in the engine's own state: the
context, unit or request it is about, and the bytes that the surroundings supply. -/

namespace Sys2Proof

/-- A path by which a requester reaches the dictionary (R417, R419). -/
inductive Path where
  /-- MCTP, either binding. -/
  | mctp
  /-- The host window of HA module `m`, 0 to 7. -/
  | host (m : Nat)
  /-- Alanel VC0 from node `n`. -/
  | vc0 (n : Nat)
deriving DecidableEq, Repr

/-- The two MCTP bindings, each with an endpoint ID of its own (R420). -/
inductive Binding where
  | i3c
  | smbus
deriving DecidableEq, Repr

/-- A copy entry of a record header (R110). -/
structure CopyRef where
  replica : Nat
  slot : Nat
  expert : Nat
deriving DecidableEq, Repr

/-- The header of a token record or of a return record (R107), its FORMAT byte (R108), FLAGS byte (R109) and copy
entries (R110) as numbers. `tscale` is bytes [15:12]: TENSOR_SCALE, or the gate gradient in KIND 11b (R234). -/
structure RecHeader where
  tag : Nat
  srcNode : Nat
  srcCtx : Nat
  token : Nat
  format : Nat
  flags : Nat
  tscale : Nat
  copies : List CopyRef
deriving DecidableEq, Repr

/-- A record on the wire: header and payload (R107, R112). -/
structure Record where
  hdr : RecHeader
  payload : Bytes
deriving DecidableEq, Repr

/-- An end-of-send marker (R132). `kind` is MARKER_KIND: 1 from the source, 2 forwarded by a relay. -/
structure Marker where
  tag : Nat
  srcNode : Nat
  srcCtx : Nat
  flags : Nat
  count : Nat
  kind : Nat
  relayNode : Nat
deriving DecidableEq, Repr

/-- Types of a remote atomic and of a reduction (R331, R355). -/
inductive NumType where
  | int32
  | int64
  | fp32
  | bf16
deriving DecidableEq, Repr

/-- The remote operations (R331). -/
inductive RemoteOp where
  | load
  | store
  | flaggedStore
  | add
  | min
  | max
  | cas
  | copyChunk
  | copyGet
deriving DecidableEq, Repr

/-- A remote request as it arrives at its home (R330, R331). The order of the commands is the order of arrival (R335);
`counter` is the arrival counter of a copy chunk, 0 none (R339). -/
structure RemoteReq where
  id : Nat
  srcNode : Nat
  srcCtx : Nat
  op : RemoteOp
  addr : Nat
  size : Nat
  ty : NumType
  fetch : Bool
  data : Bytes
  cmp : Bytes
  counter : Nat
deriving DecidableEq, Repr

/-- The entry message of a collective (R353). -/
structure CollEntry where
  digest : Nat
  seq : Nat
  op : Nat
  ty : Nat
  redOp : Nat
  count : Nat
  root : Nat
deriving DecidableEq, Repr

/-- What the partner engine reports when pairing is requested (R465). -/
structure PartnerInfo where
  holdsPair : Bool
  partnerNode : Nat
  release : Nat
  firmware : Nat
  role : Nat
  solo : Bool
  claimed : List Nat
  claimedPages : List (Nat × Nat)
  claimedExtents : List (Nat × Nat)
  freePages : List Nat
  freeExtents : List Nat
deriving DecidableEq, Repr

/-- The outcome that a start step found (R481, R482): whether it passed at the first try, whether its alternate passed, the
units of the step that failed (lowest number in bit 0), the event code of the failure, and its duration. `detail` is what
the step reports beyond that: step 8 the pages that failed; steps 9 to 13 the tiles of the region that failed (0 to 63);
steps 14 to 17 the identity of the stack (1 HBM4, 2 HBM3E), its capacity in GiB and the trained pin rate in Mb/s; step 19
the extents that failed; step 21 the state of each HA module as HA_MODULE_STATE codes it; step 22 after a VAON power-on
the bytes of this engine's journal that the partner holds. -/
structure StepResult where
  ok : Bool
  altOk : Bool
  unitsFailed : Nat
  code : Nat
  durationUs : Nat
  detail : List Nat
deriving DecidableEq, Repr

/-- What a link control frame carries (R313, R315): a cumulative acknowledgement, a replay request, and cumulative
credit returns of pools. -/
structure CtrlFrame where
  ack : Option Nat
  replayFrom : Option Nat
  credits : List (Nat × Nat)
deriving DecidableEq, Repr

/-- A beat flit (R242) as it arrives, with the two figures that its arrival fixes: the placement error of the local tick
0 in picoseconds, and the residence time until it is forwarded. -/
structure BeatFlit where
  beat : Nat
  origin : Nat
  hops : Nat
  pathDelay : Nat
  errorPs : Int
  residence : Nat
deriving DecidableEq, Repr

/-- An announcement on VC0 (R328): a node entering bypass, or a spine link of a node going down or coming back. -/
inductive Announcement where
  | bypass (node : Nat) (serial : Nat)
  | spineDown (node : Nat) (dir : Nat) (serial : Nat)
  | spineUp (node : Nat) (dir : Nat) (serial : Nat)
deriving DecidableEq, Repr

/-- A ledger copy entry (R119). `origin`: 0 unused, 1 kept, 2 dropped, 3 spilled. `gate` and `score` are FP32. -/
structure LedgerCopy where
  expert : Nat
  node : Nat
  origin : Nat
  returned : Bool
  late : Bool
  pos : Nat
  record : Nat
  gate : Nat
  score : Nat
  replica : Nat
deriving DecidableEq, Repr

/-- A ledger token block (R119): token header and copy entries. -/
structure LedgerToken where
  d : Nat
  choices : Nat
  empty : Bool
  short : Bool
  copies : List LedgerCopy
deriving DecidableEq, Repr

/-- A routing ledger (R119): window header and token blocks. -/
structure Ledger where
  tag : Nat
  layerSlot : Nat
  mb : Nat
  step : Nat
  tokens : Nat
  topK : Nat
  slot : Nat
  closed : Bool
  bwdDone : Bool
  toks : List LedgerToken
deriving DecidableEq, Repr

/-- A mirror record between twins (R467): what kind of state it carries, for which context, and the bytes of it. -/
inductive MirrorKind where
  | config
  | routerWeights
  | ctxState
  | caramel
  | windowState
  | ledger
  | crumb
  | ringIndices
  | handback
  /-- A step record of the start journal, with its attempt (R485). -/
  | journal
deriving DecidableEq, Repr

/-- A mirror record as it arrives from the partner. `vals` are object values (key, value), `images` byte images (key,
bytes), `nums` the numbers that the kind calls for. -/
structure MirrorRec where
  seq : Nat
  kind : MirrorKind
  ctx : Nat
  vals : List (Nat × Nat)
  nums : List Nat
  images : List (Nat × Bytes)
  ledger : Option Ledger
deriving DecidableEq, Repr

/-- What a cell fault was (R449 to R453). -/
inductive CellFaultKind where
  | residue
  | registerSingle
  | registerDouble
  | tileParity
  | regionParity
  | spineUncorrectable
deriving DecidableEq, Repr

/-- What a scrub pass found at a line (R456, R457). -/
inductive ScrubFinding where
  | corrected (addr : Nat)
  | uncorrectable (addr : Nat)
deriving DecidableEq, Repr

/-- The commands (opcode_table.json). Each constructor names its row and the rule that the table cites for it. -/
inductive Instr where
  /-- NOP (R396). -/
  | nop (c : Nat)
  /-- LAYER_FWD (R398). -/
  | layerFwd (c : Nat)
  /-- LAYER_BWD (R122). -/
  | layerBwd (c : Nat)
  /-- GROUPED_OP (R164). -/
  | groupedOp (c : Nat)
  /-- COPY (R294). -/
  | copy (c : Nat)
  /-- COPY_GATHER (R296). -/
  | copyGather (c : Nat)
  /-- COPY_SCATTER (R296). -/
  | copyScatter (c : Nat)
  /-- COPY_EXPAND_1D (R297). -/
  | copyExpand1d (c : Nat)
  /-- COPY_EXPAND_2D (R298). -/
  | copyExpand2d (c : Nat)
  /-- LAYOUT (R294). -/
  | layout (c : Nat)
  /-- FABRIC_COPY (R339). -/
  | fabricCopy (c : Nat)
  /-- ALL_REDUCE (R356). -/
  | allReduce (c : Nat)
  /-- REDUCE_SCATTER (R354). -/
  | reduceScatter (c : Nat)
  /-- ALL_GATHER (R354). -/
  | allGather (c : Nat)
  /-- BROADCAST (R354). -/
  | broadcast (c : Nat)
  /-- BARRIER (R354). -/
  | barrier (c : Nat)
  /-- COLLECTIVE_ENTRY (R360). -/
  | collectiveEntry (c : Nat)
  /-- WEIGHT_INTAKE_GATE_UP (R368). -/
  | weightIntakeGateUp (c : Nat) (src : Bytes) (src2 : Bytes)
  /-- WEIGHT_INTAKE_DOWN (R368). -/
  | weightIntakeDown (c : Nat) (src : Bytes)
  /-- WEIGHT_INTAKE_ROUTER (R368). -/
  | weightIntakeRouter (c : Nat) (src : Bytes)
  /-- WEIGHT_INTAKE_PACK (R370). -/
  | weightIntakePack (c : Nat) (src : Bytes)
  /-- INTAKE_COMPLETE (R372). -/
  | intakeComplete (c : Nat) (idx : Nat)
  /-- SLOT_SWITCH (R376). -/
  | slotSwitch (c : Nat)
  /-- SLOT_SWITCH_EFFECT (R375). -/
  | slotSwitchEffect (c : Nat)
  /-- GRAD_EXPORT (R377). -/
  | gradExport (c : Nat)
  /-- STEP_MARK (R252). -/
  | stepMark (c : Nat)
  /-- STEP_MARK_EFFECT (R253). -/
  | stepMarkEffect (c : Nat)
  /-- WAIT_BEAT_ABSOLUTE (R403). -/
  | waitBeatAbsolute (c : Nat)
  /-- WAIT_BEAT_RELATIVE (R403). -/
  | waitBeatRelative (c : Nat)
  /-- WAIT_BEAT_RELEASE (R403). -/
  | waitBeatRelease (c : Nat)
  /-- LAUNCH_AT (R255). -/
  | launchAt (c : Nat)
  /-- LAUNCH_AT_RELEASE (R255). -/
  | launchAtRelease (c : Nat)
  /-- LOOP_MEM (R187). -/
  | loopMem (c : Nat)
  /-- END_LOOP (R406). -/
  | endLoop (c : Nat)
  /-- FENCE (R404). -/
  | fence (c : Nat)
  /-- FENCE_RELEASE (R404). -/
  | fenceRelease (c : Nat)
  /-- CANCEL_BATCH (R405). -/
  | cancelBatch (c : Nat)
  /-- CHECKPOINT (R498). -/
  | checkpoint (c : Nat)
  /-- CHECKPOINT_CUT (R499). -/
  | checkpointCut (c : Nat)
  /-- CHECKPOINT_STAGE1_END (R499). -/
  | checkpointStage1End (c : Nat)
  /-- BACKGROUND_CHUNK_COPY (R500). -/
  | backgroundChunkCopy (c : Nat)
  /-- CHECKPOINT_SEAL (R502). -/
  | checkpointSeal (c : Nat)
  /-- CHECKPOINT_DRAIN (R503). -/
  | checkpointDrain (c : Nat) (delivered : Bool)
  /-- CHECKPOINT_ABORT (R504). -/
  | checkpointAbort (slot : Nat)
  /-- DIGEST_SNAP (R265). -/
  | digestSnap (c : Nat)
  /-- DIGEST_SNAP_CAPTURE (R265). -/
  | digestSnapCapture (c : Nat)
  /-- HELD_COMMAND_ISSUE (R142). -/
  | heldCommandIssue (c : Nat)
  /-- RING_POLL (R390). -/
  | ringPoll (c : Nat) (tick : Nat)
  /-- CLAIM (R408). -/
  | claim (p : Path) (c : Nat)
  /-- ARM (R537). -/
  | arm (p : Path) (c : Nat)
  /-- DISARM (R408). -/
  | disarm (p : Path) (c : Nat)
  /-- DRAIN (R408). -/
  | drain (p : Path) (c : Nat)
  /-- HALT (R409). -/
  | halt (p : Path) (c : Nat)
  /-- RESUME (R408). -/
  | resume (p : Path) (c : Nat)
  /-- RELEASE (R408). -/
  | release (p : Path) (c : Nat)
  /-- CONTINUE (R402). -/
  | ringContinue (p : Path) (c : Nat)
  /-- SKIP (R402). -/
  | ringSkip (p : Path) (c : Nat)
  /-- FLUSH (R402). -/
  | ringFlush (p : Path) (c : Nat)
  /-- POOL_CREATE (R284). -/
  | poolCreate (p : Path) (pool : Nat)
  /-- POOL_ACTIVE (R284). -/
  | poolActive (pool : Nat)
  /-- POOL_DELETE (R290). -/
  | poolDelete (p : Path) (pool : Nat)
  /-- GROUP_CREATE (R352). -/
  | groupCreate (p : Path)
  /-- GROUP_DELETE (R352). -/
  | groupDelete (p : Path)
  /-- PAIR (R465). -/
  | pair (p : Path) (info : PartnerInfo)
  /-- PAIRING_COMPLETE (R465). -/
  | pairingComplete
  /-- UNPAIR (R473). -/
  | unpair (p : Path) (info : PartnerInfo)
  /-- HANDBACK (R473). -/
  | handback (p : Path)
  /-- HANDBACK_TRANSFER (R473). -/
  | handbackTransfer
  /-- UNIT_QUARANTINE (R453). -/
  | unitQuarantine (p : Path)
  /-- UNIT_RETURN (R462). -/
  | unitReturn (p : Path)
  /-- UNIT_RETURNED (R462). -/
  | unitReturned (unit : Nat) (passed : Bool)
  /-- UNIT_SLEEP (R464). -/
  | unitSleep (p : Path)
  /-- SLOT_DISCARD (R486). -/
  | slotDiscard (p : Path) (slot : Nat)
  /-- SLOT_VERIFY (R502). -/
  | slotVerify (p : Path) (slot : Nat)
  /-- RESTORE (R505). -/
  | restore (p : Path) (image : Bytes)
  /-- RESTORE_FINISH (R506). -/
  | restoreFinish
  /-- DEBUG_CLOSE (R492). -/
  | debugClose (p : Path)
  /-- WARM_RESET (R479). -/
  | warmReset (p : Path)
  /-- ENGINE_QUARANTINE (R454). -/
  | engineQuarantine (p : Path)
  /-- LATCH_CTRL (R439). -/
  | latchCtrl (p : Path)
  /-- LATCH_CAPTURE (R439). -/
  | latchCapture
  /-- DESC_WRITE (R292). -/
  | descWrite (p : Path) (c : Nat) (data : Bytes)
  /-- SLOT_ENTRY_WRITE (R366). -/
  | slotEntryWrite (p : Path) (c : Nat) (data : Bytes)
  /-- DEBUG_REQUEST (R490). -/
  | debugRequest (p : Path) (data : Bytes)
  /-- DEBUG_RESPONSE (R491). -/
  | debugResponse (p : Path) (data : Bytes)
  /-- DEBUG_CHALLENGE_EXPIRY (R491). -/
  | debugChallengeExpiry (p : Path)
  /-- DEBUG_TIMEOUT (R492). -/
  | debugTimeout (p : Path)
  /-- EXPERT_MAP (R77). -/
  | expertMap (p : Path) (c : Nat) (data : Bytes)
  /-- EXPERT_COUNT (R95). -/
  | expertCount (p : Path) (c : Nat) (data : Bytes)
  /-- BIAS (R94). -/
  | bias (p : Path) (c : Nat) (data : Bytes)
  /-- MODEL_WIDTH_WRITE (R96). -/
  | modelWidthWrite (p : Path) (c : Nat) (inner : Bool) (data : Bytes)
  /-- LS_PAGES (R280). -/
  | lsPages (p : Path) (c : Nat) (extents : Bool) (data : Bytes)
  /-- REGIONS (R281). -/
  | regions (p : Path) (c : Nat) (data : Bytes)
  /-- DESC_AREA (R308). -/
  | descArea (p : Path) (c : Nat) (data : Bytes)
  /-- SRC_WINDOWS (R340). -/
  | srcWindows (p : Path) (c : Nat) (data : Bytes)
  /-- DET_LEVEL (R25). -/
  | detLevel (p : Path) (c : Nat) (data : Bytes)
  /-- DEADLINE_BEATS (R12). -/
  | deadlineBeats (p : Path) (c : Nat) (data : Bytes)
  /-- BEAT_ROLE (R249). -/
  | beatRole (p : Path) (data : Bytes)
  /-- FABRIC_ENABLE (R318). -/
  | fabricEnable (p : Path) (data : Bytes)
  /-- MCTP_GRANT (R436). -/
  | mctpGrant (p : Path) (data : Bytes)
  /-- APERTURES (R513). -/
  | apertures (p : Path) (data : Bytes)
  /-- START_POLICY (R483). -/
  | startPolicy (p : Path) (data : Bytes)
  /-- OWNER_KEY_HASH (R508). -/
  | ownerKeyHash (p : Path) (data : Bytes)
  /-- FLAG_WRITE_CLEAR (R441). -/
  | flagWriteClear (p : Path) (index : Nat) (sub : Nat) (data : Bytes)
  /-- READ (R425). -/
  | read (p : Path) (ver : Nat) (index : Nat) (sub : Nat)
  /-- WRITE (R426). -/
  | write (p : Path) (ver : Nat) (index : Nat) (sub : Nat) (data : Bytes)
  /-- READ_SEG (R425). -/
  | readSeg (p : Path) (ver : Nat) (index : Nat) (sub : Nat) (off : Nat) (len : Nat)
  /-- WRITE_SEG (R430). -/
  | writeSeg (p : Path) (ver : Nat) (index : Nat) (sub : Nat) (off : Nat) (final : Bool) (data : Bytes)
  /-- DICT_SEGMENT_ABANDONED (R430). -/
  | dictSegmentAbandoned (index : Nat) (sub : Nat)
  /-- ENUMERATE (R425). -/
  | enumerate (p : Path) (ver : Nat) (index : Nat) (off : Nat)
  /-- FLAG_COUNTS (R442). -/
  | flagCounts (p : Path) (ver : Nat) (index : Nat) (sub : Nat)
  /-- FLAG_CLEAR (R444). -/
  | flagClear (p : Path) (ver : Nat) (index : Nat) (sub : Nat) (mask : Nat)
  /-- READ_BATCH (R425). -/
  | readBatch (p : Path) (ver : Nat) (entries : List (Nat × Nat))
  /-- MAILBOX_POLL (R422). -/
  | mailboxPoll (m : Nat)
  /-- ENTDAA (R419). -/
  | entdaa (addr : Nat)
  /-- SET_ENDPOINT_ID (R420). -/
  | setEndpointId (b : Binding) (eid : Nat)
  /-- GET_ENDPOINT_ID (R420). -/
  | getEndpointId (b : Binding)
  /-- GET_MCTP_VERSION_SUPPORT (R420). -/
  | getMctpVersionSupport (b : Binding)
  /-- GET_MESSAGE_TYPE_SUPPORT (R420). -/
  | getMessageTypeSupport (b : Binding)
  /-- GET_VENDOR_DEFINED_MESSAGE_SUPPORT (R420). -/
  | getVendorDefinedMessageSupport (b : Binding)
  /-- GET_VERSION (R494). -/
  | getVersion
  /-- GET_CAPABILITIES (R494). -/
  | getCapabilities
  /-- NEGOTIATE_ALGORITHMS (R494). -/
  | negotiateAlgorithms
  /-- GET_DIGESTS (R494). -/
  | getDigests
  /-- GET_CERTIFICATE (R494). -/
  | getCertificate (slot : Nat) (off : Nat) (len : Nat)
  /-- CHALLENGE (R494). -/
  | challenge (slot : Nat) (nonce : Bytes)
  /-- GET_MEASUREMENTS (R495). -/
  | getMeasurements (index : Nat) (signed : Bool) (nonce : Bytes)
  /-- WINDOW_LAUNCH (R11). -/
  | windowLaunch (c : Nat) (tag : Nat)
  /-- ADMISSION_RETRY (R21). -/
  | admissionRetry (c : Nat) (tag : Nat)
  /-- STAGING_FILL_DONE (R168). -/
  | stagingFillDone (c : Nat) (set : Nat) (cold : Bytes)
  /-- SCORE (R62). -/
  | score (c : Nat) (tag : Nat) (rows : Bytes)
  /-- SELECT (R74). -/
  | select (c : Nat) (tag : Nat) (mask : Bytes)
  /-- SORT_AND_PACK (R118). -/
  | sortAndPack (c : Nat) (tag : Nat)
  /-- BUFFER_GRANT (R286). -/
  | bufferGrant (pool : Nat)
  /-- SEND (R131). -/
  | send (c : Nat) (tag : Nat)
  /-- LANDING_CREDIT_GRANT (R137). -/
  | landingCreditGrant (c : Nat) (node : Nat) (flits : Nat)
  /-- DISPATCH_RECORD (R137). -/
  | dispatchRecord (rec : Record) (sender : Nat)
  /-- RELAY_RECORD (R129). -/
  | relayRecord (rec : Record) (sender : Nat)
  /-- FORWARDED_MARKER (R133). -/
  | forwardedMarker (c : Nat) (tag : Nat) (src : Nat)
  /-- END_OF_SEND_MARKER_RX (R134). -/
  | endOfSendMarkerRx (mk : Marker)
  /-- REMOTE_REFUSED (R152). -/
  | remoteRefused (c : Nat) (tag : Nat) (node : Nat)
  /-- CLOSE_NOTICE (R148). -/
  | closeNotice (c : Nat) (tag : Nat) (src : Nat) (toRelay : Bool)
  /-- HORIZON (R148). -/
  | horizon (c : Nat) (tag : Nat)
  /-- WORK_ITEM_START (R158). -/
  | workItemStart (tile : Nat)
  /-- WORK_ITEM_COMMIT (R159). -/
  | workItemCommit (tile : Nat)
  /-- WEIGHT_GRAD_ADD (R185). -/
  | weightGradAdd (c : Nat) (item : Nat)
  /-- RETURN_RECORD (R216). -/
  | returnRecord (rec : Record)
  /-- WINDOW_OUTPUT_DELIVERED (R398). -/
  | windowOutputDelivered (c : Nat) (tag : Nat)
  /-- DEADLINE_BEAT (R15). -/
  | deadlineBeat (c : Nat) (tag : Nat) (rows : Bytes)
  /-- COMBINE_TAIL (R229). -/
  | combineTail (c : Nat) (tag : Nat)
  /-- CARAMEL_UPDATE (R88). -/
  | caramelUpdate (c : Nat)
  /-- COUNTER_PUBLICATION (R86). -/
  | counterPublication (c : Nat)
  /-- COLL_ENTRY_MESSAGE (R353). -/
  | collEntryMessage (c : Nat) (rank : Nat) (entry : CollEntry)
  /-- COLL_DATA (R359). -/
  | collData (c : Nat) (rank : Nat) (data : Bytes)
  /-- COLL_DONE_REPORT (R361). -/
  | collDoneReport (c : Nat) (rank : Nat)
  /-- COLLECTIVE_COMPLETE (R361). -/
  | collectiveComplete (c : Nat)
  /-- ABORT_NOTICE (R362). -/
  | abortNotice (c : Nat) (rank : Nat) (code : Nat) (seq : Nat) (candidate : Nat)
  /-- COLL_TIMEOUT (R362). -/
  | collTimeout (c : Nat)
  /-- ABORT_SETTLE (R362). -/
  | abortSettle (c : Nat)
  /-- LOAD (R331). -/
  | load (req : RemoteReq)
  /-- STORE (R333). -/
  | store (req : RemoteReq)
  /-- FLAGGED_STORE (R334). -/
  | flaggedStore (c : Nat) (addr : Nat) (data : Bytes)
  /-- FLAGGED_STORE_RELEASE (R334). -/
  | flaggedStoreRelease (c : Nat) (id : Nat)
  /-- ADD (R337). -/
  | add (req : RemoteReq) (recent : Bool)
  /-- MIN (R331). -/
  | min (req : RemoteReq)
  /-- MAX (R331). -/
  | max (req : RemoteReq)
  /-- CAS (R331). -/
  | cas (req : RemoteReq)
  /-- COPY_CHUNK (R339). -/
  | copyChunk (req : RemoteReq)
  /-- LINE_QUEUE_SERVICE (R335). -/
  | lineQueueService (line : Nat)
  /-- REMOTE_RESPONSE (R330). -/
  | remoteResponse (id : Nat) (status : Nat) (data : Bytes)
  /-- HOST_APERTURE_ACCESS (R514). -/
  | hostApertureAccess (m : Nat) (off : Nat) (write : Bool) (size : Nat) (data : Bytes)
  /-- REMOTE_TIMEOUT (R342). -/
  | remoteTimeout (id : Nat)
  /-- DEAD_NODE_NOTICE (R342). -/
  | deadNodeNotice (node : Nat)
  /-- ROUTE_BLOCKED (R342). -/
  | routeBlocked (id : Nat)
  /-- TRANSIT_FORWARD (R323). -/
  | transitForward (link : Nat) (tag : Nat) (flit : Bytes) (src : Nat)
  /-- BYPASS_FRAME (R326). -/
  | bypassFrame (link : Nat) (tag : Nat) (flit : Bytes) (src : Nat)
  /-- FRAME_RX (R313). -/
  | frameRx (link : Nat) (fecOk : Bool) (corrected : Nat) (tag : Nat) (flit : Bytes)
  /-- CTRL_FRAME (R315). -/
  | ctrlFrame (link : Nat) (frame : CtrlFrame)
  /-- LANE_FAILED (R314). -/
  | laneFailed (link : Nat) (lane : Nat)
  /-- LINK_RETRAIN (R314). -/
  | linkRetrain (link : Nat)
  /-- LINK_TRAINED (R310). -/
  | linkTrained (link : Nat) (gen : Nat) (peer : Nat) (delayPs : Nat)
  /-- LINK_DELAY_MEASURE (R244). -/
  | linkDelayMeasure (link : Nat) (delayPs : Nat)
  /-- BYPASS_ANNOUNCEMENT (R328). -/
  | bypassAnnouncement (a : Announcement)
  /-- RETURN_ANNOUNCEMENT (R329). -/
  | returnAnnouncement (node : Nat)
  /-- TAKEOVER_ANNOUNCEMENT (R469). -/
  | takeoverAnnouncement (lost : Nat) (serving : Nat)
  /-- BEAT_BOUNDARY (R240). -/
  | beatBoundary
  /-- BEAT_FLIT (R243). -/
  | beatFlit (link : Nat) (flit : BeatFlit)
  /-- BEAT_LOST (R248). -/
  | beatLost
  /-- HOLDOVER_LIMIT_PASSED (R248). -/
  | holdoverLimitPassed
  /-- BEAT_SKEW (R247). -/
  | beatSkew (errorPs : Int)
  /-- BEAT_IN_FRAME (R525). -/
  | beatInFrame (count : Nat) (crc : Nat) (errorPs : Int)
  /-- HEARTBEAT (R468). -/
  | heartbeat (beat : Nat) (words : List Nat)
  /-- HEARTBEAT_LOSS (R468). -/
  | heartbeatLoss
  /-- PROBE (R469). -/
  | probe (node : Nat)
  /-- PROBE_TIMEOUT (R469). -/
  | probeTimeout
  /-- YIELD_MESSAGE (R468). -/
  | yieldMessage
  /-- TAKEOVER_COMPLETE (R469). -/
  | takeoverComplete
  /-- MIRROR_RECORD (R467). -/
  | mirrorRecord (rec : MirrorRec)
  /-- MIRROR_LAG (R467). -/
  | mirrorLag
  /-- CELL_FAULT (R451). -/
  | cellFault (tile : Nat) (cell : Nat) (kind : CellFaultKind)
  /-- SCRUB_PASS (R456). -/
  | scrubPass (hbm : Bool) (ms : Nat) (findings : List ScrubFinding)
  /-- WIPE_COMPLETE (R303). -/
  | wipeComplete (extent : Bool) (unit : Nat) (ok : Bool)
  /-- SQ_CORE_FAULT (R460). -/
  | sqCoreFault (core : Nat)
  /-- PROGRESS_WORD_ALARM (R459). -/
  | progressWordAlarm (core : Nat)
  /-- SQ_CORE_RESTART (R460). -/
  | sqCoreRestart (core : Nat)
  /-- PROFILE_CHANGE (R447). -/
  | profileChange
  /-- NOTICE_INTERVAL_END (R446). -/
  | noticeIntervalEnd
  /-- CRUMB_EXPIRY (R220). -/
  | crumbExpiry (c : Nat) (tag : Nat)
  /-- VAON_POWER_ON (R478). -/
  | vaonPowerOn
  /-- RESET_N_LOW (R529). -/
  | resetNLow
  /-- RESET_N_HIGH (R529). -/
  | resetNHigh
  /-- CORE_PG_FALL (R529). -/
  | corePgFall
  /-- PWR_ALERT_N_LOW (R529). -/
  | pwrAlertNLow
  /-- PWR_ALERT_N_RELEASE (R529). -/
  | pwrAlertNRelease
  /-- POWER_CONTROL (R530). -/
  | powerControl (beatMw : Nat) (meanMw : Nat)
  /-- THERMAL_CONTROL (R531). -/
  | thermalControl (temps : List Int)
  /-- START_STEP (R481). -/
  | startStep (result : StepResult)
  /-- CORE_PG_RISE (R529). -/
  | corePgRise
  /-- PROBE_ANSWER (R469). -/
  | probeAnswer
  /-- MIRROR_ACKNOWLEDGEMENT (R467). -/
  | mirrorAcknowledgement (seq : Nat)
  /-- TENSOR_MOVER_DONE (R395). -/
  | tensorMoverDone (c : Nat) (idx : Nat)
  /-- SLOT_VERIFY_END (R509). -/
  | slotVerifyEnd
deriving DecidableEq, Repr

end Sys2Proof
end

