-- ==== Sys2Proof/Config.lean ====
section
/-! DEFINITION. The free values of the model: what the manual leaves open, as constants with no body, so that no proof
can see a number. A value that may differ from one use to the next is applied to the operands it depends on or to
the counter `freeCtr` of the state. -/

namespace Sys2Proof.Config

/-- 1000h:04 FIRMWARE_RELEASE, fixed by the signed image and not by the manual (R435). -/
opaque firmwareRelease : Nat → BitVec 32

/-- 1000h:05 DIE_NUMBER, fused at manufacture (R435). -/
opaque dieNumber : BitVec 64

/-- 1100h:06 VENDOR_PEN, the vendor's enterprise number (R436). -/
opaque vendorPen : BitVec 32

/-- Byte `i` of the fused vendor key hash (R490, R508). -/
opaque vendorKeyHash : Nat → BitVec 8

/-- Sign and payload of a NaN that an FP32 operation on these operands produces: IEEE 754 leaves them open (R35). -/
opaque nanPick : List Nat → Nat

/-- Which of the two bracketing FP32 values a faithful function-unit result takes, by function and input (R195). -/
opaque faithfulUp : Nat → Nat → Bool

/-- Where a monotone function in FP32 passes from one bracketing value to the next, by function, bracket and side of its
minimum: the order of an FP32 input (R195, R202). -/
opaque faithfulCut : Nat → Nat → Bool → Int

/-- How many of a set of function-unit results take the slow path (R200): the data decide, by an error test whose
inner values the manual does not give. -/
opaque slowPath : Nat → Nat

/-- Waiting cycles of function units and of tiles, and other counts of cycles that only the timing inside a beat fixes. -/
opaque cycles : Nat → Nat

/-- The tick within a beat at which an object is read (R268). -/
opaque tickNow : Nat → BitVec 8

/-- Power readings (R440): POWER_MW, POWER_PEAK_MW, CORE_MV, CORE_CURRENT_A, VAON_MW and their like, by object key. -/
opaque sensor : Nat → Nat → Nat

/-- The dispatch unit's choice where the manual allows several orders at D0 (R160, R172). -/
opaque order : Nat → Nat

/-- Random bytes: nonces and challenges (R490, R494). -/
opaque random : Nat → BitVec 8

/-- Bytes that the manual calls unspecified: the destination of an aborted collective (R357). -/
opaque openByte : Nat → BitVec 8

/-- Bytes of certificates, by slot and position (R493, R494). -/
opaque certificate : Nat → Nat → BitVec 8

/-- Length of a certificate chain (R494). -/
opaque certificateLen : Nat → Nat

/-- Bytes of a signature by the attestation key over a message (R493, R494). -/
opaque signature : List (BitVec 8) → Nat → BitVec 8

/-- Digest bytes of firmware and ROM images (R495). -/
opaque imageDigest : Nat → Nat → BitVec 8

/-- Block 3 of the measurements: the security version of a firmware image, by its release (R495). -/
opaque securityVersion : Nat → BitVec 32

/-- Durations that the manual does not fix, in the unit of the object that holds them. -/
opaque duration : Nat → Nat

end Sys2Proof.Config
end

