-- ==== Sys2Proof/Machine/Num.lean ====
section
/-! DEFINITION. The number formats of the engine and the arithmetic on them (R34 to R57, R540): exact values, rounding to
nearest even and stochastic rounding, FP32 operations, quantisation into blocks and escape channels, dot products.
An FP32, BF16, ... number is its code, a natural number. -/

namespace Sys2Proof.Machine

open Sys2Proof

/-- A floating format (R34): exponent and mantissa bits, bias, the largest finite code and whether infinities exist. -/
structure Fmt where
  eb : Nat
  mb : Nat
  bias : Nat
  maxCode : Nat
  hasInf : Bool
  hasNan : Bool
deriving DecidableEq, Repr

/-- FP32 (R34). -/
def fFP32 : Fmt := ⟨8, 23, 127, 0x7F7FFFFF, true, true⟩
/-- BF16 (R34). -/
def fBF16 : Fmt := ⟨8, 7, 127, 0x7F7F, true, true⟩
/-- FP16 (R34). -/
def fFP16 : Fmt := ⟨5, 10, 15, 0x7BFF, true, true⟩
/-- FP8 E4M3 (R34, R35). -/
def fE4M3 : Fmt := ⟨4, 3, 7, 0x7E, false, true⟩
/-- FP8 E5M2 (R34, R35). -/
def fE5M2 : Fmt := ⟨5, 2, 15, 0x7B, true, true⟩
/-- FP6 E3M2 (R34). -/
def fE3M2 : Fmt := ⟨3, 2, 3, 0x1F, false, false⟩
/-- FP6 E2M3 (R34). -/
def fE2M3 : Fmt := ⟨2, 3, 1, 0x1F, false, false⟩
/-- FP4 E2M1 (R34, R36). -/
def fE2M1 : Fmt := ⟨2, 1, 1, 0x7, false, false⟩

/-- The exponent of the smallest normal number (R34, EMIN of R53). -/
def Fmt.emin (f : Fmt) : Int := 1 - (f.bias : Int)

/-- The weight of the sign bit. -/
def Fmt.signBit (f : Fmt) : Nat := 2 ^ (f.eb + f.mb)

/-- BF16 and FP32 keep infinities and NaNs on conversion (R44). -/
def Fmt.keeps (f : Fmt) : Bool := f.eb == 8

/-- A number: NaN, an infinity, or (−1)^neg · m · 2^e exactly. -/
inductive Val where
  | nan
  | inf (neg : Bool)
  | fin (neg : Bool) (m : Nat) (e : Int)
deriving DecidableEq, Repr

/-- The value of a code (R34 to R36). -/
def Fmt.dec (f : Fmt) (code : Nat) : Val :=
  let neg := code / f.signBit % 2 == 1
  let mag := code % f.signBit
  let ex := mag / 2 ^ f.mb
  let mant := mag % 2 ^ f.mb
  if mag > f.maxCode then
    if f.hasInf && mant == 0 then .inf neg else .nan
  else if ex == 0 then .fin neg mant (f.emin - f.mb)
  else .fin neg (mant + 2 ^ f.mb) ((ex : Int) - f.bias - f.mb)

/-- A dyadic number m · 2^e. -/
structure Dy where
  m : Int
  e : Int
deriving DecidableEq, Repr

/-- Exact sum. -/
def Dy.add (a b : Dy) : Dy :=
  if a.m == 0 then b else if b.m == 0 then a
  else if a.e ≤ b.e then ⟨a.m + b.m * 2 ^ (b.e - a.e).toNat, a.e⟩
  else ⟨a.m * 2 ^ (a.e - b.e).toNat + b.m, b.e⟩

/-- Exact product. -/
def Dy.mul (a b : Dy) : Dy := ⟨a.m * b.m, a.e + b.e⟩

/-- Zero. -/
def Dy.zero : Dy := ⟨0, 0⟩

/-- Exact comparison: a < b. -/
def Dy.lt (a b : Dy) : Bool := decide ((Dy.add b ⟨-a.m, a.e⟩).m > 0)

/-- The finite value of a number; NaN and infinities give zero. -/
def Val.dy : Val → Dy
  | .fin neg m e => ⟨if neg then -(m : Int) else m, e⟩
  | _ => Dy.zero

/-- Floor of the base-2 logarithm of n/d, both positive. -/
def flog2 (n d : Nat) : Int :=
  let e0 : Int := (Nat.log2 n : Int) - Nat.log2 d
  let ge := if e0 ≥ 0 then decide (n ≥ d * 2 ^ e0.toNat) else decide (n * 2 ^ (-e0).toNat ≥ d)
  if ge then e0 else e0 - 1

/-- n/d over 2^u as a fraction. -/
def scaleFrac (n d : Nat) (u : Int) : Nat × Nat :=
  if u ≥ 0 then (n, d * 2 ^ u.toNat) else (n * 2 ^ (-u).toNat, d)

/-- The exponent of the last place of a format at n/d. -/
def Fmt.ulpExp (f : Fmt) (n d : Nat) : Int :=
  (if n == 0 then f.emin else max (flog2 n d) f.emin) - f.mb

/-- The magnitude code of k · 2^u, with an unbounded exponent. -/
def Fmt.pack (f : Fmt) (k : Nat) (u : Int) : Nat :=
  (u - (f.emin - f.mb)).toNat * 2 ^ f.mb + k

/-- The magnitude code of n/d rounded to nearest, ties to even, with an unbounded exponent (R44). -/
def Fmt.rne (f : Fmt) (n d : Nat) : Nat :=
  let u := f.ulpExp n d
  let (a, b) := scaleFrac n d u
  let k := a / b
  let r := a % b
  f.pack (if 2 * r > b || (2 * r == b && k % 2 == 1) then k + 1 else k) u

/-- The magnitude code of n/d rounded down, and whether it is exact. -/
def Fmt.floor (f : Fmt) (n d : Nat) : Nat × Bool :=
  let u := f.ulpExp n d
  let (a, b) := scaleFrac n d u
  (f.pack (a / b) u, a % b == 0)

/-- What conversions count (R56, R57): saturations, NaNs, scale faults, ternary faults, slabs with too many escapes; and
the largest magnitude seen, as an FP32 magnitude code. -/
structure Tally where
  sat : Nat
  nan : Nat
  scale : Nat
  tern : Nat
  capped : Nat
  amax : Nat
  /-- Tensors read whose TENSOR_SCALE cannot be used: once for each work item that reads the tensor (R41). -/
  tens : Nat
deriving DecidableEq, Repr

/-- Nothing counted. -/
def Tally.zero : Tally := ⟨0, 0, 0, 0, 0, 0, 0⟩

/-- Counts of two sets of conversions together. -/
def Tally.add (a b : Tally) : Tally :=
  ⟨a.sat + b.sat, a.nan + b.nan, a.scale + b.scale, a.tern + b.tern, a.capped + b.capped, max a.amax b.amax,
    a.tens + b.tens⟩

/-- The rows of one tensor: a scale that cannot be used counts once for the tensor (R41). -/
def Tally.oneTensor (t : Tally) : Tally := { t with tens := min t.tens 1 }

/-- What a further work item over the same operands counts: the unusable TENSOR_SCALEs alone (R41). -/
def Tally.rereads (t : Tally) : Tally := { Tally.zero with tens := t.tens }

/-- The sum of a list of tallies. -/
def Tally.sum (l : List Tally) : Tally := l.foldl Tally.add Tally.zero

/-- A NaN code of a format that has NaNs: sign and payload are open (R35). -/
def Fmt.nanCode (f : Fmt) (pick : Nat) : Nat :=
  if f.hasInf then
    (f.maxCode + 1) + 1 + pick / 2 % (2 ^ f.mb - 1) + (if pick % 2 == 1 then f.signBit else 0)
  else f.maxCode + 1 + (if pick % 2 == 1 then f.signBit else 0)

/-- The code of an infinity. -/
def Fmt.infCode (f : Fmt) (neg : Bool) : Nat := f.maxCode + 1 + (if neg then f.signBit else 0)

/-- Conversion of a magnitude n/d with a sign, rounded to nearest even, with saturation (R44). -/
def Fmt.convRat (f : Fmt) (neg : Bool) (n d : Nat) : Nat × Tally :=
  let c := f.rne n d
  let s := if neg then f.signBit else 0
  if c > f.maxCode then
    (if f.keeps then f.infCode neg else f.maxCode + s, { Tally.zero with sat := 1 })
  else (c + s, Tally.zero)

/-- The fraction n/d of a dyadic magnitude. -/
def dyFrac (m : Nat) (e : Int) : Nat × Nat := scaleFrac m 1 (-e)

/-- Conversion of a value (R44). `pick` fixes the bits of a NaN that survives. -/
def Fmt.conv (f : Fmt) (v : Val) (pick : Nat) : Nat × Tally :=
  match v with
  | .nan => (if f.keeps then f.nanCode pick else 0, { Tally.zero with nan := 1 })
  | .inf neg =>
    (if f.keeps then f.infCode neg else f.maxCode + (if neg then f.signBit else 0), { Tally.zero with sat := 1 })
  | .fin neg m e => let (n, d) := dyFrac m e; f.convRat neg n d

/-! ### FP32 operations, each rounded once (IEEE 754) -/

/-- An FP32 NaN produced from these operands. -/
def nan32 (ops : List Nat) : Nat := fFP32.nanCode (Config.nanPick ops)

/-- FP32 code of a signed fraction, rounded to nearest even; overflow is infinite. -/
def f32Rat (neg : Bool) (n d : Nat) : Nat := (fFP32.convRat neg n d).1

/-- FP32 code of a dyadic number; an exact zero is +0 unless `zneg`. -/
def f32Dy (x : Dy) (zneg : Bool) : Nat :=
  if x.m == 0 then (if zneg then 0x80000000 else 0)
  else let (n, d) := dyFrac x.m.natAbs x.e; f32Rat (x.m < 0) n d

/-- The value of an FP32 code. -/
def f32 (a : Nat) : Val := fFP32.dec a

/-- Is the sign bit of an FP32 code set? -/
def f32Neg (a : Nat) : Bool := a / 0x80000000 % 2 == 1

/-- Is the FP32 code a NaN? -/
def f32IsNan (a : Nat) : Bool := a % 0x80000000 > 0x7F800000

/-- Is the FP32 code an infinity? -/
def f32IsInf (a : Nat) : Bool := a % 0x80000000 == 0x7F800000

/-- Is the FP32 code finite? -/
def f32Finite (a : Nat) : Bool := a % 0x80000000 < 0x7F800000

/-- The negation of an FP32 code. -/
def f32Negate (a : Nat) : Nat := if f32Neg a then a - 0x80000000 else a + 0x80000000

/-- FP32 addition. -/
def f32Add (a b : Nat) : Nat :=
  match f32 a, f32 b with
  | .nan, _ => nan32 [a, b]
  | _, .nan => nan32 [a, b]
  | .inf x, .inf y => if x == y then a else nan32 [a, b]
  | .inf _, _ => a
  | _, .inf _ => b
  | .fin x m e, .fin y m' e' =>
    f32Dy (Dy.add (Val.fin x m e).dy (Val.fin y m' e').dy) (m == 0 && m' == 0 && x && y)

/-- FP32 subtraction. -/
def f32Sub (a b : Nat) : Nat := if f32IsNan b then nan32 [a, b] else f32Add a (f32Negate b)

/-- FP32 multiplication. -/
def f32Mul (a b : Nat) : Nat :=
  match f32 a, f32 b with
  | .nan, _ => nan32 [a, b]
  | _, .nan => nan32 [a, b]
  | .inf x, .inf y => fFP32.infCode (xor x y)
  | .inf x, .fin y m _ => if m == 0 then nan32 [a, b] else fFP32.infCode (xor x y)
  | .fin x m _, .inf y => if m == 0 then nan32 [a, b] else fFP32.infCode (xor x y)
  | .fin x m e, .fin y m' e' => let (n, d) := dyFrac (m * m') (e + e'); f32Rat (xor x y) n d

/-- FP32 division. -/
def f32Div (a b : Nat) : Nat :=
  match f32 a, f32 b with
  | .nan, _ => nan32 [a, b]
  | _, .nan => nan32 [a, b]
  | .inf _, .inf _ => nan32 [a, b]
  | .inf x, .fin y _ _ => fFP32.infCode (xor x y)
  | .fin x _ _, .inf y => f32Rat (xor x y) 0 1
  | .fin x m e, .fin y m' e' =>
    if m' == 0 then (if m == 0 then nan32 [a, b] else fFP32.infCode (xor x y))
    else
      let (n, d) := dyFrac m e
      let (n', d') := dyFrac m' e'
      f32Rat (xor x y) (n * d') (d * n')

/-- a − b·c with one rounding (R205), for finite operands; otherwise as the separate operations. -/
def f32Fnma (a b c : Nat) : Nat :=
  match f32 a, f32 b, f32 c with
  | .fin x m e, .fin y m' e', .fin z m'' e'' =>
    let p := Dy.mul (Val.fin y m' e').dy (Val.fin z m'' e'').dy
    f32Dy (Dy.add (Val.fin x m e).dy ⟨-p.m, p.e⟩) (m == 0 && (m' == 0 || m'' == 0) && x && (y == z))
  | _, _, _ => f32Sub a (f32Mul b c)

/-- a · b · c with one rounding. -/
def f32Mul3 (a b c : Nat) : Nat :=
  match f32 a, f32 b, f32 c with
  | .fin x m e, .fin y m' e', .fin z m'' e'' =>
    let (n, d) := dyFrac (m * m' * m'') (e + e' + e''); f32Rat (xor (xor x y) z) n d
  | _, _, _ => f32Mul (f32Mul a b) c

/-- The place of an FP32 code among the numbers, −0 with +0. -/
def f32Order (c : Nat) : Int := if f32Neg c then -((c % 0x80000000 : Nat) : Int) else (c : Int)

/-- Order of two FP32 codes that are not NaN: a < b, with −0 equal to +0. -/
def f32Lt (a b : Nat) : Bool := decide (f32Order a < f32Order b)

/-- The larger of two FP32 codes. -/
def f32Max (a b : Nat) : Nat := if f32Lt a b then b else a

/-- The FP32 code of a natural number, rounded to nearest even. -/
def f32Nat (n : Nat) : Nat := f32Rat false n 1

/-- FP32 magnitude (sign dropped). -/
def f32Abs (a : Nat) : Nat := a % 0x80000000

/-- One compensated step (R203). -/
def compAdd (sc : Nat × Nat) (y : Nat) : Nat × Nat :=
  let (s, c) := sc
  let u := f32Add s y
  let w := f32Sub u s
  (u, f32Add c (f32Add (f32Sub s (f32Sub u w)) (f32Sub y w)))

/-- A BF16 code as an FP32 code, exactly. -/
def bf16To32 (b : Nat) : Nat := b * 65536

/-! ### Stochastic rounding (R53) -/

/-- MBITS and EMIN are those of the format; `r` is the 32-bit random word. Non-finite inputs as R44. -/
def Fmt.roundSr (f : Fmt) (y r : Nat) : Nat × Tally :=
  match f32 y with
  | .fin neg m e =>
    let (n, d) := dyFrac m e
    let u := f.ulpExp n d
    let (a, b) := scaleFrac n d u
    let k := a / b
    let f24 := (a % b) * 2 ^ 24 / b
    let c := f.pack (if r / 256 < f24 then k + 1 else k) u
    let s := if neg then f.signBit else 0
    if c > f.maxCode then (f.maxCode + s, { Tally.zero with sat := 1 }) else (c + s, Tally.zero)
  | v => f.conv v (Config.nanPick [y])

/-- Round to nearest even from an FP32 code. -/
def Fmt.of32 (f : Fmt) (y : Nat) : Nat × Tally := f.conv (f32 y) (Config.nanPick [y])

/-- The larger of two natural numbers of a list, 0 for none. -/
def listMax (l : List Nat) : Nat := l.foldl max 0

/-- Cut a list into pieces of `k`; `fuel` bounds the number of pieces. -/
def chunksAux {α : Type} : Nat → Nat → List α → List (List α)
  | 0, _, _ => []
  | _ + 1, _, [] => []
  | fuel + 1, k, l => l.take k :: chunksAux fuel k (l.drop k)

/-- Cut a list into pieces of `k` elements, `k` positive. -/
def chunks {α : Type} (k : Nat) (l : List α) : List (List α) := chunksAux l.length k l

/-! ### Element formats of FORMAT bytes (R34, R38, R108, R162) -/

/-- Element formats as tensors carry them. -/
inductive Elem where
  | e4m3
  | e5m2
  | e3m2
  | e2m3
  | e2m1
  | t2
  | bf16
  | fp32
  | fp16
deriving DecidableEq, Repr

/-- The floating format of an element format; T2 has none of its own. -/
def Elem.fmt : Elem → Fmt
  | .e4m3 => fE4M3
  | .e5m2 => fE5M2
  | .e3m2 => fE3M2
  | .e2m3 => fE2M3
  | .e2m1 => fE2M1
  | .t2 => fE2M1
  | .bf16 => fBF16
  | .fp32 => fFP32
  | .fp16 => fFP16

/-- Bits per element (R34, R37). -/
def Elem.bits : Elem → Nat
  | .e4m3 => 8
  | .e5m2 => 8
  | .e3m2 => 6
  | .e2m3 => 6
  | .e2m1 => 4
  | .t2 => 2
  | .bf16 => 16
  | .fp32 => 32
  | .fp16 => 16

/-- emax of R46. -/
def Elem.emax : Elem → Int
  | .e4m3 => 8
  | .e5m2 => 15
  | .e3m2 => 4
  | _ => 2

/-- Little-endian number of a byte string (R6). -/
def leNat : Bytes → Nat
  | [] => 0
  | b :: bs => b.toNat + 256 * leNat bs

/-- `n` bytes of a number, little-endian (R6). -/
def leBytes : Nat → Nat → Bytes
  | 0, _ => []
  | n + 1, v => BitVec.ofNat 8 v :: leBytes n (v / 256)

/-- The elements of a packed row (R38): element j occupies bits [bits·j + bits − 1 : bits·j] of the little-endian string. -/
def unpackElems (e : Elem) (n : Nat) (bs : Bytes) : List Nat :=
  let per := if e.bits == 6 then 4 else if e.bits == 4 then 2 else if e.bits == 2 then 4 else 1
  let grp := e.bits * per / 8
  (((chunks grp bs).map fun g =>
    let v := leNat g
    (List.range per).map fun i => v / 2 ^ (e.bits * i) % 2 ^ e.bits).flatten).take n

/-- The packed bytes of a row of element codes (R38). -/
def packElems (e : Elem) (codes : List Nat) : Bytes :=
  let per := if e.bits == 6 then 4 else if e.bits == 4 then 2 else if e.bits == 2 then 4 else 1
  let grp := e.bits * per / 8
  ((chunks per codes).map fun g =>
    leBytes grp (((List.range g.length).zip g).foldl (fun acc p => acc + p.2 * 2 ^ (e.bits * p.1)) 0)).flatten

/-- The value of a weight or activation element on its way into a lane cell: NaN reads as +0 and an infinity as the
largest finite value (R42), an invalid T2 code as 0 (R37); each is counted. -/
def Elem.operand (e : Elem) (code : Nat) : Dy × Tally :=
  match e with
  | .t2 =>
    if code == 0 then (Dy.zero, Tally.zero)
    else if code == 1 then (⟨1, 0⟩, Tally.zero)
    else if code == 3 then (⟨-1, 0⟩, Tally.zero)
    else (Dy.zero, { Tally.zero with tern := 1 })
  | e =>
    match e.fmt.dec code with
    | .nan => (Dy.zero, { Tally.zero with nan := 1 })
    | .inf neg =>
      ((e.fmt.dec (e.fmt.maxCode + (if neg then e.fmt.signBit else 0))).dy, { Tally.zero with sat := 1 })
    | v => (v.dy, Tally.zero)

/-- Scale kinds (R39). -/
inductive Scale where
  | none
  | mx32
  | b16
deriving DecidableEq, Repr

/-- Block length of a scale kind; 0 stands for the whole row (R39). -/
def Scale.block : Scale → Nat
  | .none => 0
  | .mx32 => 32
  | .b16 => 16

/-- The value of a block scale byte; `none` when it cannot be used (R41). -/
def Scale.value (k : Scale) (byte : Nat) : Option Dy :=
  match k with
  | .none => some ⟨1, 0⟩
  | .mx32 => if byte == 0xFF then Option.none else some ⟨1, (byte : Int) - 127⟩
  | .b16 => if byte ≥ 0x7F then Option.none else some (fE4M3.dec byte).dy

/-- Is a tensor scale usable: not negative, infinite or NaN; −0 is (R41). -/
def tscaleOk (s : Nat) : Bool := s == 0x80000000 || (!f32Neg s && f32Finite s)

/-- A row on its way into the lane cells: block length (0 for the whole row), exact element values with their block or
escape scales, and the tensor scale (R39, R43, R50). -/
structure OpRow where
  block : Nat
  xs : List Dy
  tscale : Nat
deriving DecidableEq, Repr

/-- The codes of a row and its scale bytes as exact values (R39, R41). `esc` lists escape channels with their values,
scales applied (R50); they add to the elements at their positions, which hold +0. -/
def opRow (e : Elem) (k : Scale) (codes scales : List Nat) (esc : List (Nat × Dy)) (tscale : Nat) : OpRow × Tally :=
  if !tscaleOk tscale then
    (⟨k.block, codes.map fun _ => Dy.zero, 0⟩, { Tally.zero with tens := 1 })
  else
    let bl := if k.block == 0 then codes.length else k.block
    let blocks : List (List Dy × Tally) := (chunks bl codes).zipIdx.map fun (blk, i) =>
      match k.value (scales.getD i 0) with
      | none => (blk.map fun _ => Dy.zero, { Tally.zero with scale := 1 })
      | some sc =>
        let r : List (Dy × Tally) := blk.map e.operand
        (r.map fun p => Dy.mul p.1 sc, Tally.sum (r.map (·.2)))
    let xs := (blocks.map (·.1)).flatten
    let xs := if esc.isEmpty then xs else
      xs.zipIdx.map fun (x, i) => (esc.filter (·.1 == i)).foldl (fun a p => Dy.add a p.2) x
    (⟨k.block, xs, tscale⟩, Tally.sum (blocks.map (·.2)))

/-- The block span along K of a pair of operands: the shorter block; the whole row when neither has blocks (R43). -/
def spanOf (a b n : Nat) : Nat :=
  if a == 0 && b == 0 then n else if a == 0 then b else if b == 0 then a else min a b

/-- Blocks of a dot product, added to the FP32 accumulator in increasing K order; each exact block sum is rounded once
(R43). -/
def dotBlocks (span : Nat) (a w : List Dy) (acc : Nat) : Nat :=
  ((chunks span (a.zip w))).foldl
    (fun acc blk => f32Add acc (f32Dy (blk.foldl (fun t p => Dy.add t (Dy.mul p.1 p.2)) Dy.zero) false)) acc

/-- The dot product of two rows before the tensor scales. -/
def dotRaw (a w : OpRow) : Nat := dotBlocks (spanOf a.block w.block a.xs.length) a.xs w.xs 0

/-- Tensor scales applied once to the finished result (R43). -/
def applyScales (acc sa sw : Nat) : Nat := f32Mul3 acc sa sw

/-- The dot product of two rows (R43). -/
def dot (a w : OpRow) : Nat := applyScales (dotRaw a w) a.tscale w.tscale

/-! ### Quantisation (R45, R46, R48 to R50, R540) -/

/-- The largest finite magnitude of a list of FP32 codes, as a magnitude code. -/
def amax32 (xs : List Nat) : Nat := listMax ((xs.filter f32Finite).map f32Abs)

/-- How elements are converted: to nearest even, or stochastically with the random word of element j (R52, R54). -/
inductive Rounding where
  | nearest
  | stochastic (words : List Nat)
deriving DecidableEq, Repr

/-- Conversion of element j of a row from an FP32 code. -/
def convElem (f : Fmt) (r : Rounding) (j y : Nat) : Nat × Tally :=
  match r with
  | .nearest => f.of32 y
  | .stochastic ws => f.roundSr y (ws.getD j 0)

/-- The FP32 code of MAXVAL of a format. -/
def Fmt.max32 (f : Fmt) : Nat := f32Dy (f.dec f.maxCode).dy false

/-- s_t of B16: amax / (448 × MAXVAL), 1.0 for zero or an underflow (R45, step 2). -/
def b16TScale (f : Fmt) (amax : Nat) : Nat :=
  let a := (f32 amax).dy
  let m := Dy.mul ⟨448, 0⟩ (f.dec f.maxCode).dy
  let (n, d) := dyFrac a.m.natAbs a.e
  let (n', d') := dyFrac m.m.natAbs m.e
  let q := f32Rat false (n * d') (d * n')
  if q == 0 then 0x3F800000 else q

/-- s_t of scale kind None for E4M3 and E5M2 (R540). -/
def plainTScale (f : Fmt) (amax : Nat) : Nat :=
  let q := f32Div amax f.max32
  if q == 0 then 0x3F800000 else q

/-- The B16 scale code of a block: amax_b / (s_t × MAXVAL) rounded up to E4M3, held within 2^−9 to 448; 00h for zero
(R45, step 4). -/
def b16Scale (f : Fmt) (amaxB st : Nat) : Nat :=
  if amaxB == 0 then 0
  else
    let a := (f32 amaxB).dy
    let m := Dy.mul (f32 st).dy (f.dec f.maxCode).dy
    let (n, d) := dyFrac a.m.natAbs a.e
    let (n', d') := dyFrac m.m.natAbs m.e
    let (c, ex) := fE4M3.floor (n * d') (d * n')
    max 1 (min 0x7E (if ex then c else c + 1))

/-- The MX32 scale code of a block: floor(log2 amax_b) − emax, held within −127 to 127; 00h for zero (R46). -/
def mxScale (e : Elem) (amaxB : Nat) : Nat :=
  if amaxB == 0 then 0
  else
    let a := (f32 amaxB).dy
    let (n, d) := dyFrac a.m.natAbs a.e
    (max (-127) (min 127 (flog2 n d - e.emax)) + 127).toNat

/-- The FP32 code of 2^e, for e from −149 to 127. -/
def pow2f32 (e : Int) : Nat := f32Dy ⟨1, e⟩ false

/-- One block: scale byte, element codes, counts. `j0` is the index of its first element in the row; elements at `esc`
positions take +0 and stay out of the amax; in a block of scale 00h every element becomes +0, and what is not finite
counts as in any conversion (R44 to R46, R50). -/
def quantBlock (e : Elem) (k : Scale) (r : Rounding) (st j0 : Nat) (esc : List Nat) (xs : List Nat) :
    Nat × List Nat × Tally :=
  let el := xs.zipIdx.map fun (x, i) => (x, j0 + i, esc.contains (j0 + i))
  let am := amax32 ((el.filter fun t => !t.2.2).map (·.1))
  let (sb, den) := match k with
    | .b16 =>
      let c := b16Scale e.fmt am st
      (c, if c == 0 then none else some (f32Mul st (f32Dy (fE4M3.dec c).dy false)))
    | .mx32 =>
      let c := mxScale e am
      (c, some (pow2f32 ((c : Int) - 127)))
    | .none => (0, some st)
  let cs := el.map fun (x, j, isEsc) =>
    if isEsc then (0, Tally.zero)
    else match den with
      | none => (0, (convElem e.fmt .nearest j x).2)
      | some dn => convElem e.fmt r j (f32Div x dn)
  (sb, cs.map (·.1), Tally.sum (cs.map (·.2)))

/-- A quantised row: scale bytes and element codes. -/
structure QRow where
  scales : List Nat
  codes : List Nat
deriving DecidableEq, Repr

/-- One row quantised under a tensor scale (R45, R46, R540). -/
def quantRow (e : Elem) (k : Scale) (r : Rounding) (st : Nat) (esc : List Nat) (xs : List Nat) : QRow × Tally :=
  let bl := if k.block == 0 then xs.length else k.block
  let bs := (chunks bl xs).zipIdx.map fun (blk, i) => quantBlock e k r st (i * bl) esc blk
  (⟨if k.block == 0 then [] else bs.map (·.1), (bs.map (·.2.1)).flatten⟩,
    { Tally.sum (bs.map (·.2.2)) with amax := amax32 xs })

/-- The tensor scale of a set of rows; `esc` positions stay out of the amax (R45, R46, R540). -/
def tensorScale (e : Elem) (k : Scale) (esc : List Nat) (rows : List (List Nat)) : Nat :=
  let am := listMax (rows.map fun xs => amax32 ((xs.zipIdx.filter fun p => !esc.contains p.2).map (·.1)))
  match k with
  | .mx32 => 0x3F800000
  | .b16 => b16TScale e.fmt am
  | .none => if e.fmt.keeps || e == .fp16 then 0x3F800000 else plainTScale e.fmt am

/-- Insertion of a key and a value in descending key order, ties to the lower position. -/
def insertDesc (p : Nat × Nat) : List (Nat × Nat) → List (Nat × Nat)
  | [] => [p]
  | q :: qs => if p.1 > q.1 then p :: q :: qs else q :: insertDesc p qs

/-- Insertion sort in descending order, stable. -/
def sortDesc (l : List (Nat × Nat)) : List (Nat × Nat) := l.foldl (fun acc p => insertDesc p acc) []

/-- Insertion of a number in ascending order. -/
def insertAsc (x : Nat) : List Nat → List Nat
  | [] => [x]
  | y :: ys => if x ≤ y then x :: y :: ys else y :: insertAsc x ys

/-- Numbers in ascending order. -/
def sortAsc (l : List Nat) : List Nat := l.foldl (fun acc x => insertAsc x acc) []

/-- The escape channels of one slab, from the channel amax codes of its 128 channels, and 1 when more than eight
qualified (R49). -/
def slabEscapes (thr : Nat) (am : List Nat) : List Nat × Nat :=
  let sorted := sortAsc am
  let med := Dy.add (f32 (sorted.getD 63 0)).dy (f32 (sorted.getD 64 0)).dy
  let bar := Dy.mul (f32 thr).dy med
  let q := (am.zipIdx.filter fun p => Dy.lt bar (Dy.mul ⟨2, 0⟩ (f32 p.1).dy))
  let top := (sortDesc q).take 8
  (sortAsc (top.map (·.2)), if q.length > 8 then 1 else 0)

/-- Escape channels by slab of a tensor (R49); channel numbers are within the slab. -/
def tensorEscapes (thr : Nat) (rows : List (List Nat)) (kdim : Nat) : List (List Nat) × Nat :=
  let chan := (List.range kdim).map fun j => amax32 (rows.map fun r => r.getD j 0)
  let s := (chunks 128 chan).map (slabEscapes thr)
  (s.map (·.1), (s.map (·.2)).foldl (· + ·) 0)

/-- Escape positions in the row. -/
def escPositions (esc : List (List Nat)) : List Nat :=
  (esc.zipIdx.map fun (l, i) => l.map fun ch => i * 128 + ch).flatten

/-- Ceiling of log2 of n/d. -/
def clog2 (n d : Nat) : Int :=
  let f := flog2 n d
  let (a, b) := scaleFrac n d f
  if a == b then f else f + 1

/-- The escape entry of one row and slab: E8M0 scale byte and E4M3 values in list order (R50). -/
def escapeEntry (st : Nat) (chs : List Nat) (slab : List Nat) : Nat × List Nat × Tally :=
  let xs := chs.map fun c => slab.getD c 0
  let am := amax32 xs
  let e : Int :=
    if am == 0 then -127
    else
      let a := (f32 am).dy
      let m := Dy.mul (f32 st).dy ⟨448, 0⟩
      let (n, d) := dyFrac a.m.natAbs a.e
      let (n', d') := dyFrac m.m.natAbs m.e
      if n' == 0 then 127 else max (-127) (min 127 (clog2 (n * d') (d * n')))
  let den := f32Mul st (pow2f32 e)
  let cs := xs.map fun x => fE4M3.of32 (f32Div x den)
  ((e + 127).toNat, cs.map (·.1), Tally.sum (cs.map (·.2)))

/-- The exact values of an escape entry, without the tensor scale (R41, R50); a scale byte of FFh gives none. -/
def escapeValues (slab sc : Nat) (chs codes : List Nat) : List (Nat × Dy) × Tally :=
  if sc == 0xFF then ([], { Tally.zero with scale := 1 })
  else
    let r := (chs.zip codes).map fun (c, v) =>
      let o := Elem.e4m3.operand v
      ((slab * 128 + c, Dy.mul o.1 ⟨1, (sc : Int) - 127⟩), o.2)
    (r.map (·.1), Tally.sum (r.map (·.2)))

end Sys2Proof.Machine
end

