-- ==== Sys2Proof/Machine/Hash.lean ====
section
/-! DEFINITION. The codes and digests that the manual names: CRC-64 (R230), CRC-16 (R311), CRC-8 (R525), SHA-256 (R372,
R501), SHA-384 with ECDSA over P-384 (R490, R491), and the Philox generator (R262). -/

namespace Sys2Proof.Machine

open Sys2Proof

/-- One bit of a reflected CRC with polynomial `p`. -/
def crcStepR (p c : Nat) : Nat := if c % 2 == 1 then Nat.xor (c / 2) p else c / 2

/-- `n` bits of a reflected CRC. -/
def crcBitsR : Nat → Nat → Nat → Nat
  | 0, _, c => c
  | n + 1, p, c => crcBitsR n p (crcStepR p c)

/-- CRC-64 of R230: ECMA-182, reflected, initial value and final exclusive-or all ones. C96C5795D7870F42h is the
polynomial 42F0E1EBA9EA3693h reflected. -/
def crc64 (bs : Bytes) : Nat :=
  Nat.xor (bs.foldl (fun c b => crcBitsR 8 0xC96C5795D7870F42 (Nat.xor c b.toNat)) (2 ^ 64 - 1)) (2 ^ 64 - 1)

/-- One bit of a CRC of width `w`, most significant bit first. -/
def crcStepL (w p c bit : Nat) : Nat :=
  let top := c / 2 ^ (w - 1) % 2
  let c' := c * 2 % 2 ^ w
  if (top + bit) % 2 == 1 then Nat.xor c' p else c'

/-- The bits of a byte, most significant first. -/
def byteBitsL (b : Nat) : List Nat := (List.range 8).map fun i => b / 2 ^ (7 - i) % 2

/-- CRC-16 with polynomial 8BB7h and initial value 0 (R311). -/
def crc16 (bs : Bytes) : Nat := (bs.map fun b => byteBitsL b.toNat).flatten.foldl (crcStepL 16 0x8BB7) 0

/-- CRC-8 of the bits of a 64-bit count, least significant bit first, with polynomial `p` and initial value `init`
(R525). -/
def crc8Count (p init n : Nat) : Nat := ((List.range 64).map fun i => n / 2 ^ i % 2).foldl (crcStepL 8 p) init

/-! ### SHA-2 -/

/-- Rotation right of a `w`-bit word. -/
def rotr (w n x : Nat) : Nat := (x / 2 ^ n + x * 2 ^ (w - n)) % 2 ^ w

/-- The figures that make SHA-256 or SHA-512 of the shared scheme (FIPS 180-4). -/
structure ShaKind where
  w : Nat
  rounds : Nat
  s0 : Nat × Nat × Nat
  s1 : Nat × Nat × Nat
  g0 : Nat × Nat × Nat
  g1 : Nat × Nat × Nat
  ks : List Nat
  iv : List Nat

/-- Round constants of SHA-256. -/
def shaK256 : List Nat := [
  0x428A2F98, 0x71374491, 0xB5C0FBCF, 0xE9B5DBA5, 0x3956C25B, 0x59F111F1, 0x923F82A4, 0xAB1C5ED5,
  0xD807AA98, 0x12835B01, 0x243185BE, 0x550C7DC3, 0x72BE5D74, 0x80DEB1FE, 0x9BDC06A7, 0xC19BF174,
  0xE49B69C1, 0xEFBE4786, 0x0FC19DC6, 0x240CA1CC, 0x2DE92C6F, 0x4A7484AA, 0x5CB0A9DC, 0x76F988DA,
  0x983E5152, 0xA831C66D, 0xB00327C8, 0xBF597FC7, 0xC6E00BF3, 0xD5A79147, 0x06CA6351, 0x14292967] ++ [
  0x27B70A85, 0x2E1B2138, 0x4D2C6DFC, 0x53380D13, 0x650A7354, 0x766A0ABB, 0x81C2C92E, 0x92722C85,
  0xA2BFE8A1, 0xA81A664B, 0xC24B8B70, 0xC76C51A3, 0xD192E819, 0xD6990624, 0xF40E3585, 0x106AA070,
  0x19A4C116, 0x1E376C08, 0x2748774C, 0x34B0BCB5, 0x391C0CB3, 0x4ED8AA4A, 0x5B9CCA4F, 0x682E6FF3,
  0x748F82EE, 0x78A5636F, 0x84C87814, 0x8CC70208, 0x90BEFFFA, 0xA4506CEB, 0xBEF9A3F7, 0xC67178F2]

/-- Round constants of SHA-384. -/
def shaK512 : List Nat := [
  0x428A2F98D728AE22, 0x7137449123EF65CD, 0xB5C0FBCFEC4D3B2F, 0xE9B5DBA58189DBBC,
  0x3956C25BF348B538, 0x59F111F1B605D019, 0x923F82A4AF194F9B, 0xAB1C5ED5DA6D8118,
  0xD807AA98A3030242, 0x12835B0145706FBE, 0x243185BE4EE4B28C, 0x550C7DC3D5FFB4E2,
  0x72BE5D74F27B896F, 0x80DEB1FE3B1696B1, 0x9BDC06A725C71235, 0xC19BF174CF692694,
  0xE49B69C19EF14AD2, 0xEFBE4786384F25E3, 0x0FC19DC68B8CD5B5, 0x240CA1CC77AC9C65,
  0x2DE92C6F592B0275, 0x4A7484AA6EA6E483, 0x5CB0A9DCBD41FBD4, 0x76F988DA831153B5,
  0x983E5152EE66DFAB, 0xA831C66D2DB43210, 0xB00327C898FB213F, 0xBF597FC7BEEF0EE4,
  0xC6E00BF33DA88FC2, 0xD5A79147930AA725, 0x06CA6351E003826F, 0x142929670A0E6E70,
  0x27B70A8546D22FFC, 0x2E1B21385C26C926, 0x4D2C6DFC5AC42AED, 0x53380D139D95B3DF,
  0x650A73548BAF63DE, 0x766A0ABB3C77B2A8, 0x81C2C92E47EDAEE6, 0x92722C851482353B] ++ [
  0xA2BFE8A14CF10364, 0xA81A664BBC423001, 0xC24B8B70D0F89791, 0xC76C51A30654BE30,
  0xD192E819D6EF5218, 0xD69906245565A910, 0xF40E35855771202A, 0x106AA07032BBD1B8,
  0x19A4C116B8D2D0C8, 0x1E376C085141AB53, 0x2748774CDF8EEB99, 0x34B0BCB5E19B48A8,
  0x391C0CB3C5C95A63, 0x4ED8AA4AE3418ACB, 0x5B9CCA4F7763E373, 0x682E6FF3D6B2B8A3,
  0x748F82EE5DEFB2FC, 0x78A5636F43172F60, 0x84C87814A1F0AB72, 0x8CC702081A6439EC,
  0x90BEFFFA23631E28, 0xA4506CEBDE82BDE9, 0xBEF9A3F7B2C67915, 0xC67178F2E372532B,
  0xCA273ECEEA26619C, 0xD186B8C721C0C207, 0xEADA7DD6CDE0EB1E, 0xF57D4F7FEE6ED178,
  0x06F067AA72176FBA, 0x0A637DC5A2C898A6, 0x113F9804BEF90DAE, 0x1B710B35131C471B,
  0x28DB77F523047D84, 0x32CAAB7B40C72493, 0x3C9EBE0A15C9BEBC, 0x431D67C49C100D4C,
  0x4CC5D4BECB3E42B6, 0x597F299CFC657E2A, 0x5FCB6FAB3AD6FAEC, 0x6C44198C4A475817]

/-- SHA-256. -/
def sha256Kind : ShaKind :=
  ⟨32, 64, (2, 13, 22), (6, 11, 25), (7, 18, 3), (17, 19, 10), shaK256, [
  0x6A09E667, 0xBB67AE85, 0x3C6EF372, 0xA54FF53A,
  0x510E527F, 0x9B05688C, 0x1F83D9AB, 0x5BE0CD19]⟩

/-- SHA-384. -/
def sha384Kind : ShaKind :=
  ⟨64, 80, (28, 34, 39), (14, 18, 41), (1, 8, 7), (19, 61, 6), shaK512, [
  0xCBBB9D5DC1059ED8, 0x629A292A367CD507, 0x9159015A3070DD17, 0x152FECD8F70E5939,
  0x67332667FFC00B31, 0x8EB44A8768581511, 0xDB0C2E0D64F98FA7, 0x47B5481DBEFA4FA4]⟩

/-- The big sigma: three rotations. -/
def shaBig (w : Nat) (r : Nat × Nat × Nat) (x : Nat) : Nat :=
  Nat.xor (rotr w r.1 x) (Nat.xor (rotr w r.2.1 x) (rotr w r.2.2 x))

/-- The small sigma: two rotations and a shift. -/
def shaSmall (w : Nat) (r : Nat × Nat × Nat) (x : Nat) : Nat :=
  Nat.xor (rotr w r.1 x) (Nat.xor (rotr w r.2.1 x) (x / 2 ^ r.2.2))

/-- The message schedule, latest word first, extended by `n` words. -/
def shaSchedule (k : ShaKind) : Nat → List Nat → List Nat
  | 0, ws => ws
  | n + 1, ws =>
    let t := shaSmall k.w k.g1 (ws.getD 1 0) + ws.getD 6 0 + shaSmall k.w k.g0 (ws.getD 14 0) + ws.getD 15 0
    shaSchedule k n (t % 2 ^ k.w :: ws)

/-- One round on the eight working words. -/
def shaRound (k : ShaKind) (v : List Nat) (kw : Nat × Nat) : List Nat :=
  match v with
  | [a, b, c, d, e, f, g, h] =>
    let m := 2 ^ k.w
    let ch := Nat.xor (Nat.land e f) (Nat.land (m - 1 - e) g)
    let maj := Nat.xor (Nat.land a b) (Nat.xor (Nat.land a c) (Nat.land b c))
    let t1 := h + shaBig k.w k.s1 e + ch + kw.1 + kw.2
    let t2 := shaBig k.w k.s0 a + maj
    [(t1 + t2) % m, a, b, c, (d + t1) % m, e, f, g]
  | v => v

/-- One block. -/
def shaBlock (k : ShaKind) (hs : List Nat) (blk : List Nat) : List Nat :=
  let ws := (shaSchedule k (k.rounds - 16) blk.reverse).reverse
  let v := (k.ks.zip ws).foldl (shaRound k) hs
  (hs.zip v).map fun p => (p.1 + p.2) % 2 ^ k.w

/-- Big-endian number of a byte string. -/
def beNat (bs : Bytes) : Nat := bs.foldl (fun a b => a * 256 + b.toNat) 0

/-- `n` bytes of a number, big-endian. -/
def beBytes (n v : Nat) : Bytes := (leBytes n v).reverse

/-- SHA-2 of a byte string: the first `outLen` bytes of the final words. -/
def sha2 (k : ShaKind) (outLen : Nat) (bs : Bytes) : Bytes :=
  let wb := k.w / 8
  let blkLen := 16 * wb
  let lenLen := 2 * wb
  let padLen := (2 * blkLen - 1 - lenLen - bs.length % blkLen) % blkLen
  let msg := bs ++ [BitVec.ofNat 8 0x80] ++ List.replicate padLen 0 ++ beBytes lenLen (8 * bs.length)
  let hs := (chunks blkLen msg).foldl (fun hs blk => shaBlock k hs ((chunks wb blk).map beNat)) k.iv
  ((hs.map (beBytes wb)).flatten).take outLen

/-- SHA-256. -/
def sha256 (bs : Bytes) : Bytes := sha2 sha256Kind 32 bs

/-- SHA-384. -/
def sha384 (bs : Bytes) : Bytes := sha2 sha384Kind 48 bs

/-! ### ECDSA over P-384 (FIPS 186-4) -/

/-- The field prime of P-384. -/
def p384P : Nat := 2 ^ 384 - 2 ^ 128 - 2 ^ 96 + 2 ^ 32 - 1
/-- The group order of P-384. -/
def p384N : Nat := 0xFFFFFFFFFFFFFFFFFFFFFFFFFFFFFFFFFFFFFFFFFFFFFFFFC7634D81F4372DDF581A0DB248B0A77AECEC196ACCC52973
/-- The coefficient b of P-384. -/
def p384B : Nat := 0xB3312FA7E23EE7E4988E056BE3F82D19181D9C6EFE8141120314088F5013875AC656398D8A2ED19D2A85C8EDD3EC2AEF
/-- The base point of P-384. -/
def p384G : Nat × Nat :=
  (0xAA87CA22BE8B05378EB1C71EF320AD746E1D3B628BA79B9859F741E082542A385502F25DBF55296C3A545E3872760AB7,
   0x3617DE4A96262C6F5D9E98BF9292DC29F8F41DBD289A147CE9DA3113B5F0B8C00A60B1CE1D7E819D7A431D7C90EA0E5F)

/-- b^e mod m by bits; `fuel` bounds the bits of e. -/
def powMod : Nat → Nat → Nat → Nat → Nat → Nat
  | 0, _, _, _, acc => acc
  | fuel + 1, b, e, m, acc => powMod fuel (b * b % m) (e / 2) m (if e % 2 == 1 then acc * b % m else acc)

/-- Inverse modulo a prime. -/
def invMod (a m : Nat) : Nat := powMod 384 (a % m) (m - 2) m 1

/-- Addition of points of P-384; `none` is the point at infinity. -/
def ecAdd (p q : Option (Nat × Nat)) : Option (Nat × Nat) :=
  match p, q with
  | none, q => q
  | p, none => p
  | some (x1, y1), some (x2, y2) =>
    if x1 == x2 && (y1 + y2) % p384P == 0 then none
    else
      let l :=
        if x1 == x2 && y1 == y2 then (3 * x1 * x1 + (p384P - 3)) * invMod (2 * y1) p384P % p384P
        else (y2 + (p384P - y1)) * invMod (x2 + (p384P - x1)) p384P % p384P
      let x3 := (l * l + 2 * p384P - x1 - x2) % p384P
      some (x3, (l * (x1 + (p384P - x3)) + (p384P - y1)) % p384P)

/-- Multiple of a point, by bits of `k`. -/
def ecMul : Nat → Nat → Option (Nat × Nat) → Option (Nat × Nat) → Option (Nat × Nat)
  | 0, _, _, acc => acc
  | fuel + 1, k, p, acc => ecMul fuel (k / 2) (ecAdd p p) (if k % 2 == 1 then ecAdd acc p else acc)

/-- Does the signature `sig` (r then s) of a SHA-384 digest verify under an uncompressed SEC1 key (R490)? -/
def ecdsaVerify (key digest sig : Bytes) : Bool :=
  let x := beNat ((key.drop 1).take 48)
  let y := beNat (key.drop 49)
  let r := beNat (sig.take 48)
  let s := beNat (sig.drop 48)
  if key.length != 97 || key.head? != some 4 || sig.length != 96 then false
  else if x ≥ p384P || y ≥ p384P || (y * y) % p384P != (x * x * x + (p384P - 3) * x + p384B) % p384P then false
  else if r == 0 || s == 0 || r ≥ p384N || s ≥ p384N then false
  else
    let w := invMod s p384N
    let u1 := beNat digest * w % p384N
    let u2 := r * w % p384N
    match ecAdd (ecMul 384 u1 (some p384G) none) (ecMul 384 u2 (some (x, y)) none) with
    | none => false
    | some (vx, _) => vx % p384N == r

/-! ### Philox-4×32-10 (R262) -/

/-- Rounds of the generator. -/
def philoxRounds : Nat → Nat → Nat → Nat × Nat × Nat × Nat → Nat × Nat × Nat × Nat
  | 0, _, _, c => c
  | n + 1, k0, k1, (c0, c1, c2, c3) =>
    let p0 := 0xD2511F53 * c0
    let p1 := 0xCD9E8D57 * c2
    philoxRounds n ((k0 + 0x9E3779B9) % 2 ^ 32) ((k1 + 0xBB67AE85) % 2 ^ 32)
      (Nat.xor (p1 / 2 ^ 32) (Nat.xor c1 k0), p1 % 2 ^ 32, Nat.xor (p0 / 2 ^ 32) (Nat.xor c3 k1), p0 % 2 ^ 32)

/-- What keys a random word (R262, R263). -/
structure RandKey where
  seed : Nat
  rank : Nat
  purpose : Nat
  half : Nat
  mb : Nat
  expert : Nat
  index : Nat
  step : Nat
  layer : Nat
deriving DecidableEq, Repr

/-- The output block of a key and BLOCK (R262). -/
def philoxBlock (k : RandKey) (block : Nat) : List Nat :=
  let k0 := k.seed % 2 ^ 32
  let k1 := Nat.xor (k.seed / 2 ^ 32 % 2 ^ 32) (k.rank % 2 ^ 15)
  let c0 := k.purpose % 256 * 2 ^ 24 + k.half % 2 * 2 ^ 23 + k.mb % 2048 * 2 ^ 12 + block % 4096
  let c1 := k.expert % 65536 * 65536 + k.index % 65536
  let c2 := k.step % 65536 * 65536 + k.layer % 65536
  let c3 := k.step / 65536 % 2 ^ 32
  let (a, b, c, d) := philoxRounds 10 k0 k1 (c0, c1, c2, c3)
  [a, b, c, d]

/-- Random word j of a row: word j mod 4 of block floor(j / 4) (R54, R72). -/
def philoxWord (k : RandKey) (j : Nat) : Nat := (philoxBlock k (j / 4)).getD (j % 4) 0

/-- The first `n` random words of a row. -/
def philoxWords (k : RandKey) (n : Nat) : List Nat :=
  (((List.range ((n + 3) / 4)).map (philoxBlock k)).flatten).take n

end Sys2Proof.Machine
end

