-- ==== Sys2Proof/Machine/Objects.lean ====
section
/-! DEFINITION. The objects of the dictionary (R412, R432, R433): a name for each, and one table with its type, access,
default, the states in which it may be written and the values that its own table admits. A key is index × 256 + sub. The
keys of context objects are those of context 0, those of pools, links, tiles and other units those of unit 0. -/

namespace Sys2Proof.Machine

/-- Types of objects (R413). -/
inductive ObjType where
  | bool
  | u8
  | u16
  | u32
  | u64
  | i32
  | f32
  | str
  | domain
deriving DecidableEq, Repr

/-- The Writable in column (R415): never, always, context states by bit mask, or a condition of the object's own. -/
inductive Writable where
  | never
  | any
  | states (mask : Nat)
  | cond
deriving DecidableEq, Repr

/-- The values that an object's own table admits (R426, order 8): any; a range; a range of multiples of `k` from `lo`;
powers of two in a range; a listed set with the code of a refusal; format bytes of a listed set (R162); an FP32 range; FP32 above 0 up to a bound; reserved
bits outside a mask ignored (R7); flags cleared by writing 1 (R441); action values 1 to n (R536); a check of its own. -/
inductive Check where
  | free
  | range (lo hi : Nat)
  | mult (k lo hi : Nat)
  | pow2 (lo hi : Nat)
  | set (l : List Nat) (code : Nat)
  | fmt (l : List Nat)
  | f32 (lo hi : Nat)
  | f32pos (hi : Nat)
  | mask (m : Nat)
  | flags (m : Nat)
  | action (n : Nat)
  | special
deriving DecidableEq, Repr

/-- A row of an object table (R412 to R415). -/
structure ObjInfo where
  ty : ObjType
  access : Nat
  wr : Writable
  chk : Check
deriving DecidableEq, Repr

/-! ### Names -/

/-- 1000h:01h (R435). -/
abbrev O_VENDOR_NAME : Nat := 0x100001
/-- 1000h:02h (R435). -/
abbrev O_BLOCK_RELEASE : Nat := 0x100002
/-- 1000h:03h (R435). -/
abbrev O_BLOCK_NAME : Nat := 0x100003
/-- 1000h:04h (R435). -/
abbrev O_FIRMWARE_RELEASE : Nat := 0x100004
/-- 1000h:05h (R435). -/
abbrev O_DIE_NUMBER : Nat := 0x100005
/-- 1000h:06h (R435). -/
abbrev O_CONTEXTS : Nat := 0x100006
/-- 1000h:07h (R435). -/
abbrev O_LINKS : Nat := 0x100007
/-- 1000h:08h (R435). -/
abbrev O_HBM_PORTS : Nat := 0x100008
/-- 1000h:09h (R435). -/
abbrev O_HA_MODULES : Nat := 0x100009
/-- 1100h:01h (R436). -/
abbrev O_MGMT_VERSIONS : Nat := 0x110001
/-- 1100h:02h (R436). -/
abbrev O_MCTP_EID_I3C : Nat := 0x110002
/-- 1100h:03h (R436). -/
abbrev O_MCTP_EID_SMBUS : Nat := 0x110003
/-- 1100h:04h (R436). -/
abbrev O_SMBUS_ADDR : Nat := 0x110004
/-- 1100h:05h (R436). -/
abbrev O_SMBUS_ENABLE : Nat := 0x110005
/-- 1100h:06h (R436). -/
abbrev O_VENDOR_PEN : Nat := 0x110006
/-- 1100h:07h (R436). -/
abbrev O_HOST_GRANTS : Nat := 0x110007
/-- 1100h:08h (R436). -/
abbrev O_FABRIC_GRANTS : Nat := 0x110008
/-- 1100h:09h (R436). -/
abbrev O_MCTP_GRANT : Nat := 0x110009
/-- 1100h:0Ah (R436). -/
abbrev O_DICT_FLAGS : Nat := 0x11000A
/-- 1100h:0Bh (R436). -/
abbrev O_DICT_REQUESTS : Nat := 0x11000B
/-- 1100h:0Ch (R436). -/
abbrev O_DICT_REFUSED : Nat := 0x11000C
/-- 1100h:0Dh (R436). -/
abbrev O_LAST_DENIED : Nat := 0x11000D
/-- 1100h:0Eh (R436). -/
abbrev O_MAILBOX_POLL_TICKS : Nat := 0x11000E
/-- 1200h:01h (R507). -/
abbrev O_JOURNAL : Nat := 0x120001
/-- 1200h:02h (R507). -/
abbrev O_ATTEMPTS : Nat := 0x120002
/-- 1200h:03h (R507). -/
abbrev O_START_POLICY : Nat := 0x120003
/-- 1200h:04h (R507). -/
abbrev O_PARTNER_JOURNAL : Nat := 0x120004
/-- 1200h:05h (R507). -/
abbrev O_START_STATE : Nat := 0x120005
/-- 2000h:01h (R437). -/
abbrev O_ENGINE_STATE : Nat := 0x200001
/-- 2000h:02h (R437). -/
abbrev O_PROFILE : Nat := 0x200002
/-- 2000h:03h (R437). -/
abbrev O_CONTEXTS_CLAIMED : Nat := 0x200003
/-- 2000h:04h (R437). -/
abbrev O_D2_CONTEXTS : Nat := 0x200004
/-- 2000h:05h (R437). -/
abbrev O_ARITH_CLOCK_MHZ : Nat := 0x200005
/-- 2000h:06h (R437). -/
abbrev O_SPINE_CLOCK_MHZ : Nat := 0x200006
/-- 2000h:07h (R437). -/
abbrev O_TILES_ACTIVE : Nat := 0x200007
/-- 2000h:08h (R437). -/
abbrev O_REGIONS_ACTIVE : Nat := 0x200008
/-- 2000h:10h (R534). -/
abbrev O_HOST_MEM_MODULES : Nat := 0x200010
/-- 2000h:11h (R534). -/
abbrev O_APERTURES : Nat := 0x200011
/-- 2000h:12h (R534). -/
abbrev O_POWER_CAP_W : Nat := 0x200012
/-- 2000h:13h (R534). -/
abbrev O_THERM_THROTTLE_C : Nat := 0x200013
/-- 2000h:14h (R534). -/
abbrev O_HA_MODULE_STATE : Nat := 0x200014
/-- 2000h:15h (R534). -/
abbrev O_UNMAPPED_ACCESSES : Nat := 0x200015
/-- 2100h:01h (R267). -/
abbrev O_BEAT_ROLE : Nat := 0x210001
/-- 2100h:02h (R267). -/
abbrev O_BEAT_UPLINK : Nat := 0x210002
/-- 2100h:03h (R267). -/
abbrev O_BEAT_DOWNLINKS : Nat := 0x210003
/-- 2100h:04h (R267). -/
abbrev O_HOLDOVER_LIMIT : Nat := 0x210004
/-- 2101h:01h (R268). -/
abbrev O_BEAT_COUNT : Nat := 0x210101
/-- 2101h:02h (R268). -/
abbrev O_TICK_IN_BEAT : Nat := 0x210102
/-- 2101h:03h (R268). -/
abbrev O_BEAT_STATE : Nat := 0x210103
/-- 2101h:04h (R268). -/
abbrev O_BEAT_ORIGIN : Nat := 0x210104
/-- 2101h:05h (R268). -/
abbrev O_BEAT_HOPS : Nat := 0x210105
/-- 2101h:06h (R268). -/
abbrev O_PATH_DELAY : Nat := 0x210106
/-- 2105h:01h (R269). -/
abbrev O_SKEW_ESTIMATE : Nat := 0x210501
/-- 2105h:02h (R269). -/
abbrev O_BEAT_SKEW_LIMIT : Nat := 0x210502
/-- 2105h:03h (R269). -/
abbrev O_BEAT_FLAGS : Nat := 0x210503
/-- 2105h:04h (R269). -/
abbrev O_BEAT_LOST_COUNT : Nat := 0x210504
/-- 2105h:05h (R269). -/
abbrev O_BEAT_JUMP_COUNT : Nat := 0x210505
/-- 2105h:06h (R269). -/
abbrev O_BEATS_HELD : Nat := 0x210506
/-- 2105h:07h (R269). -/
abbrev O_HOLDOVER_BEATS : Nat := 0x210507
/-- 2105h:08h (R269). -/
abbrev O_BEAT_FOREIGN : Nat := 0x210508
/-- 2200h:01h (R475). -/
abbrev O_HEALTH_FLAGS : Nat := 0x220001
/-- 2200h:02h (R475). -/
abbrev O_CELL_FAULTS : Nat := 0x220002
/-- 2200h:03h (R475). -/
abbrev O_REGFILE_CORRECTED : Nat := 0x220003
/-- 2200h:04h (R475). -/
abbrev O_CELLS_RETIRED : Nat := 0x220004
/-- 2200h:05h (R475). -/
abbrev O_TILES_QUARANTINED : Nat := 0x220005
/-- 2200h:06h (R475). -/
abbrev O_STALE_RESULTS : Nat := 0x220006
/-- 2200h:07h (R475). -/
abbrev O_TILE_EPOCHS : Nat := 0x220007
/-- 2200h:08h (R475). -/
abbrev O_REGION_EPOCHS : Nat := 0x220008
/-- 2200h:09h (R475). -/
abbrev O_UNIT_SELECT : Nat := 0x220009
/-- 2200h:0Ah (R475). -/
abbrev O_UNIT_CTRL : Nat := 0x22000A
/-- 2200h:0Bh (R475). -/
abbrev O_UNIT_STATE : Nat := 0x22000B
/-- 2200h:0Ch (R475). -/
abbrev O_RETIRE_LIMIT : Nat := 0x22000C
/-- 2200h:0Dh (R475). -/
abbrev O_RETIRE_WINDOW : Nat := 0x22000D
/-- 2200h:0Eh (R475). -/
abbrev O_RESIDUE_ENABLE : Nat := 0x22000E
/-- 2300h:01h (R306). -/
abbrev O_HBM_MODE : Nat := 0x230001
/-- 2300h:02h (R306). -/
abbrev O_HBM_PIN_RATE : Nat := 0x230002
/-- 2300h:03h (R306). -/
abbrev O_HBM_PORTS_UP : Nat := 0x230003
/-- 2300h:04h (R306). -/
abbrev O_STACK_CAPACITY : Nat := 0x230004
/-- 2300h:05h (R306). -/
abbrev O_PAGE_OWNER : Nat := 0x230005
/-- 2300h:06h (R306). -/
abbrev O_EXTENT_OWNER : Nat := 0x230006
/-- 2300h:07h (R306). -/
abbrev O_FREE_PAGES : Nat := 0x230007
/-- 2300h:08h (R306). -/
abbrev O_FREE_EXTENTS : Nat := 0x230008
/-- 2300h:09h (R306). -/
abbrev O_WIPE_STATE : Nat := 0x230009
/-- 2300h:0Ah (R306). -/
abbrev O_WIPE_LAST_US : Nat := 0x23000A
/-- 2400h:01h of context 0 (R307). -/
abbrev O_POOL_STATE : Nat := 0x240001
/-- 2400h:02h of context 0 (R307). -/
abbrev O_OWNER_CONTEXT : Nat := 0x240002
/-- 2400h:03h of context 0 (R307). -/
abbrev O_SPACE : Nat := 0x240003
/-- 2400h:04h of context 0 (R307). -/
abbrev O_LAYOUT : Nat := 0x240004
/-- 2400h:05h of context 0 (R307). -/
abbrev O_BUF_SIZE_LOG2 : Nat := 0x240005
/-- 2400h:06h of context 0 (R307). -/
abbrev O_BASE : Nat := 0x240006
/-- 2400h:07h of context 0 (R307). -/
abbrev O_LENGTH : Nat := 0x240007
/-- 2400h:08h of context 0 (R307). -/
abbrev O_META_BASE : Nat := 0x240008
/-- 2400h:09h of context 0 (R307). -/
abbrev O_POOL_CTRL : Nat := 0x240009
/-- 2400h:0Ah of context 0 (R307). -/
abbrev O_AMBER_PCT : Nat := 0x24000A
/-- 2400h:0Bh of context 0 (R307). -/
abbrev O_RED_PCT : Nat := 0x24000B
/-- 2400h:0Ch of context 0 (R307). -/
abbrev O_BLACK_PCT : Nat := 0x24000C
/-- 2400h:0Dh of context 0 (R307). -/
abbrev O_BUF_COUNT : Nat := 0x24000D
/-- 2400h:0Eh of context 0 (R307). -/
abbrev O_FREE_NOW : Nat := 0x24000E
/-- 2400h:0Fh of context 0 (R307). -/
abbrev O_FREE_MIN : Nat := 0x24000F
/-- 2400h:10h of context 0 (R307). -/
abbrev O_LEVEL : Nat := 0x240010
/-- 2400h:11h of context 0 (R307). -/
abbrev O_COMMITTED : Nat := 0x240011
/-- 2400h:12h of context 0 (R307). -/
abbrev O_ALLOCS : Nat := 0x240012
/-- 2400h:13h of context 0 (R307). -/
abbrev O_ALLOC_WAITS : Nat := 0x240013
/-- 2500h:01h (R345). -/
abbrev O_NODE_ID : Nat := 0x250001
/-- 2500h:02h (R345). -/
abbrev O_TORUS_X : Nat := 0x250002
/-- 2500h:03h (R345). -/
abbrev O_TORUS_Y : Nat := 0x250003
/-- 2500h:04h (R345). -/
abbrev O_FABRIC_ENABLE : Nat := 0x250004
/-- 2500h:05h (R345). -/
abbrev O_LINK_ENABLE : Nat := 0x250005
/-- 2500h:06h (R345). -/
abbrev O_LINK_GEN_MAX : Nat := 0x250006
/-- 2500h:07h (R345). -/
abbrev O_VC_WEIGHT : Nat := 0x250007
/-- 2500h:08h (R345). -/
abbrev O_RING_TABLE : Nat := 0x250008
/-- 2500h:09h (R345). -/
abbrev O_FABRIC_FLAGS : Nat := 0x250009
/-- 2510h:01h of context 0 (R346). -/
abbrev O_LINK_STATE : Nat := 0x251001
/-- 2510h:02h of context 0 (R346). -/
abbrev O_GENERATION : Nat := 0x251002
/-- 2510h:03h of context 0 (R346). -/
abbrev O_LANES_UP : Nat := 0x251003
/-- 2510h:04h of context 0 (R346). -/
abbrev O_LINK_DELAY_PS : Nat := 0x251004
/-- 2510h:05h of context 0 (R346). -/
abbrev O_PEER_ID : Nat := 0x251005
/-- 2510h:06h of context 0 (R346). -/
abbrev O_FEC_CORRECTED : Nat := 0x251006
/-- 2510h:07h of context 0 (R346). -/
abbrev O_FEC_UNCORRECTED : Nat := 0x251007
/-- 2510h:08h of context 0 (R346). -/
abbrev O_CRC_ERRORS : Nat := 0x251008
/-- 2510h:09h of context 0 (R346). -/
abbrev O_RETRIES : Nat := 0x251009
/-- 2510h:0Ah of context 0 (R346). -/
abbrev O_FRAMES_TX : Nat := 0x25100A
/-- 2510h:0Bh of context 0 (R346). -/
abbrev O_FRAMES_RX : Nat := 0x25100B
/-- 2520h:01h (R347). -/
abbrev O_BYPASS_STATE : Nat := 0x252001
/-- 2520h:02h (R347). -/
abbrev O_BYPASS_HOLD : Nat := 0x252002
/-- 2520h:03h (R347). -/
abbrev O_BYPASS_ENTRIES : Nat := 0x252003
/-- 2520h:04h (R347). -/
abbrev O_BYPASS_FRAMES : Nat := 0x252004
/-- 2520h:05h (R347). -/
abbrev O_DEAD_NODE_NOTICES : Nat := 0x252005
/-- 2600h:01h (R348). -/
abbrev O_REMOTE_TIMEOUT : Nat := 0x260001
/-- 2600h:02h (R348). -/
abbrev O_DEAD_NODES : Nat := 0x260002
/-- 2600h:03h (R348). -/
abbrev O_HOT_DEPTH : Nat := 0x260003
/-- 2600h:04h (R348). -/
abbrev O_HOT_QUEUE_DEPTH : Nat := 0x260004
/-- 2600h:05h (R348). -/
abbrev O_HOT_QUEUE_PEAK : Nat := 0x260005
/-- 2600h:06h (R348). -/
abbrev O_HOT_LINES : Nat := 0x260006
/-- 2600h:07h (R348). -/
abbrev O_STORES_APPLIED : Nat := 0x260007
/-- 2600h:08h (R348). -/
abbrev O_ATOMICS_APPLIED : Nat := 0x260008
/-- 2600h:09h (R348). -/
abbrev O_ADDS_MERGED : Nat := 0x260009
/-- 2600h:0Ah (R348). -/
abbrev O_MERGE_RECORDS_FULL : Nat := 0x26000A
/-- 2600h:0Bh (R348). -/
abbrev O_CREDIT_HOLD_BEATS : Nat := 0x26000B
/-- 2600h:0Ch (R348). -/
abbrev O_ADDR_INVALID_COUNT : Nat := 0x26000C
/-- 2600h:0Dh (R348). -/
abbrev O_REMOTE_FLAGS : Nat := 0x26000D
/-- 2700h:01h (R379). -/
abbrev O_GROUPS_USED : Nat := 0x270001
/-- 2700h:02h (R379). -/
abbrev O_COLL_RUN : Nat := 0x270002
/-- 2700h:03h (R379). -/
abbrev O_COLL_ABORTED : Nat := 0x270003
/-- 2700h:04h (R379). -/
abbrev O_ABORT_LATE_NOTICES : Nat := 0x270004
/-- 2700h:05h (R379). -/
abbrev O_COLL_BYTES_TX : Nat := 0x270005
/-- 2701h:01h (R380). -/
abbrev O_GROUP_SELECT : Nat := 0x270101
/-- 2701h:02h (R380). -/
abbrev O_GROUP_OWNER : Nat := 0x270102
/-- 2701h:03h (R380). -/
abbrev O_GROUP_MEMBERS : Nat := 0x270103
/-- 2701h:04h (R380). -/
abbrev O_GROUP_CTRL : Nat := 0x270104
/-- 2701h:05h (R380). -/
abbrev O_GROUP_STATE : Nat := 0x270105
/-- 2701h:06h (R380). -/
abbrev O_GROUP_DIGEST : Nat := 0x270106
/-- 2701h:07h (R380). -/
abbrev O_GROUP_SEQ : Nat := 0x270107
/-- 2800h:01h (R476). -/
abbrev O_TWIN_ROLE : Nat := 0x280001
/-- 2800h:02h (R476). -/
abbrev O_TWIN_MODULES : Nat := 0x280002
/-- 2800h:03h (R476). -/
abbrev O_PARTNER_NODE : Nat := 0x280003
/-- 2800h:04h (R476). -/
abbrev O_TWIN_CTRL : Nat := 0x280004
/-- 2800h:05h (R476). -/
abbrev O_TWIN_STATE : Nat := 0x280005
/-- 2800h:06h (R476). -/
abbrev O_HANDBACK_CONTEXT : Nat := 0x280006
/-- 2800h:07h (R476). -/
abbrev O_MIRROR_LAG_LIMIT : Nat := 0x280007
/-- 2800h:08h (R476). -/
abbrev O_MIRROR_LAG_BEATS : Nat := 0x280008
/-- 2800h:09h (R476). -/
abbrev O_MIRROR_BYTES : Nat := 0x280009
/-- 2800h:0Ah (R476). -/
abbrev O_HEARTBEATS_MISSED : Nat := 0x28000A
/-- 2800h:0Bh (R476). -/
abbrev O_TAKEOVERS : Nat := 0x28000B
/-- 2800h:0Ch (R476). -/
abbrev O_TAKEOVER_LAST : Nat := 0x28000C
/-- 2800h:0Dh (R476). -/
abbrev O_REDIRECTS : Nat := 0x28000D
/-- 2800h:0Eh (R476). -/
abbrev O_UNHELD_COPIES : Nat := 0x28000E
/-- 2800h:0Fh (R476). -/
abbrev O_TWIN_FLAGS : Nat := 0x28000F
/-- 2900h:01h (R477). -/
abbrev O_GD_FLAGS : Nat := 0x290001
/-- 2900h:02h (R477). -/
abbrev O_SCRUB_ENABLE : Nat := 0x290002
/-- 2900h:03h (R477). -/
abbrev O_LS_SCRUB_PERIOD_MS : Nat := 0x290003
/-- 2900h:04h (R477). -/
abbrev O_HBM_SCRUB_PERIOD_S : Nat := 0x290004
/-- 2900h:05h (R477). -/
abbrev O_LS_CORRECTED : Nat := 0x290005
/-- 2900h:06h (R477). -/
abbrev O_HBM_CORRECTED : Nat := 0x290006
/-- 2900h:07h (R477). -/
abbrev O_POISONED_LINES : Nat := 0x290007
/-- 2900h:08h (R477). -/
abbrev O_RETIRED_PAGES : Nat := 0x290008
/-- 2900h:09h (R477). -/
abbrev O_RETIRED_EXTENTS : Nat := 0x290009
/-- 2900h:0Ah (R477). -/
abbrev O_LS_PASS_LAST_MS : Nat := 0x29000A
/-- 2900h:0Bh (R477). -/
abbrev O_HBM_PASS_LAST_MS : Nat := 0x29000B
/-- 2900h:0Ch (R477). -/
abbrev O_SQ_CORE_STATE : Nat := 0x29000C
/-- 2900h:0Dh (R477). -/
abbrev O_SQ_CORE_FAULTS : Nat := 0x29000D
/-- 2900h:0Eh (R477). -/
abbrev O_EVENT_LOG : Nat := 0x29000E
/-- 2900h:0Fh (R477). -/
abbrev O_LOG_SEQ_NEXT : Nat := 0x29000F
/-- 2900h:10h (R477). -/
abbrev O_ENGINE_QUARANTINE : Nat := 0x290010
/-- 2A00h:01h (R508). -/
abbrev O_LC_STATE : Nat := 0x2A0001
/-- 2A00h:02h (R508). -/
abbrev O_LC_FLAGS : Nat := 0x2A0002
/-- 2A00h:03h (R508). -/
abbrev O_OWNER_KEY_HASH : Nat := 0x2A0003
/-- 2A00h:04h (R508). -/
abbrev O_VENDOR_KEY_HASH : Nat := 0x2A0004
/-- 2A00h:05h (R508). -/
abbrev O_OWNER_SLOTS_LEFT : Nat := 0x2A0005
/-- 2A00h:06h (R508). -/
abbrev O_DEBUG_REQUEST : Nat := 0x2A0006
/-- 2A00h:07h (R508). -/
abbrev O_DEBUG_CHALLENGE : Nat := 0x2A0007
/-- 2A00h:08h (R508). -/
abbrev O_DEBUG_RESPONSE : Nat := 0x2A0008
/-- 2A00h:09h (R508). -/
abbrev O_DEBUG_STATE : Nat := 0x2A0009
/-- 2A00h:0Ah (R508). -/
abbrev O_DEBUG_EVER : Nat := 0x2A000A
/-- 2A00h:0Bh (R508). -/
abbrev O_DEBUG_CTRL : Nat := 0x2A000B
/-- 2A00h:0Ch (R508). -/
abbrev O_DEBUG_TIMEOUT_S : Nat := 0x2A000C
/-- 2A00h:0Dh (R508). -/
abbrev O_DEBUG_FAILS : Nat := 0x2A000D
/-- 2A00h:0Eh (R508). -/
abbrev O_RESET_CTRL : Nat := 0x2A000E
/-- 2A00h:0Fh (R508). -/
abbrev O_LAST_RESET_KIND : Nat := 0x2A000F
/-- 2B00h:01h (R509). -/
abbrev O_CKPT_FLAGS : Nat := 0x2B0001
/-- 2B00h:02h (R509). -/
abbrev O_CKPT_SLOT_STATE : Nat := 0x2B0002
/-- 2B00h:03h (R509). -/
abbrev O_CKPT_SLOT_INFO : Nat := 0x2B0003
/-- 2B00h:04h (R509). -/
abbrev O_NEWEST_SLOT : Nat := 0x2B0004
/-- 2B00h:05h (R509). -/
abbrev O_CKPT_PHASE : Nat := 0x2B0005
/-- 2B00h:06h (R509). -/
abbrev O_COW_STALLS : Nat := 0x2B0006
/-- 2B00h:07h (R509). -/
abbrev O_DRAIN_BYTES : Nat := 0x2B0007
/-- 2B00h:08h (R509). -/
abbrev O_SLOT_CTRL : Nat := 0x2B0008
/-- 2B00h:09h (R509). -/
abbrev O_RESTORE_FROM : Nat := 0x2B0009
/-- 2B00h:0Ah (R509). -/
abbrev O_RESTORE_ADDR : Nat := 0x2B000A
/-- 2B00h:0Bh (R509). -/
abbrev O_RESTORE_HOSTMAP : Nat := 0x2B000B
/-- 2B00h:0Ch (R509). -/
abbrev O_RESTORE_CONTEXT : Nat := 0x2B000C
/-- 2B00h:0Dh (R509). -/
abbrev O_RESTORE_CTRL : Nat := 0x2B000D
/-- 2B00h:0Eh (R509). -/
abbrev O_RESTORE_STATUS : Nat := 0x2B000E
/-- 2B00h:0Fh (R509). -/
abbrev O_CHECKPOINTS : Nat := 0x2B000F
/-- 2B00h:10h (R509). -/
abbrev O_CHECKPOINTS_ABORTED : Nat := 0x2B0010
/-- 2B08h:01h (R381). -/
abbrev O_INTAKE_HA_MIN : Nat := 0x2B0801
/-- 2B08h:02h (R381). -/
abbrev O_INTAKE_ACTIVE : Nat := 0x2B0802
/-- 2B08h:03h (R381). -/
abbrev O_INTAKE_BYTES : Nat := 0x2B0803
/-- 2C00h:01h (R438). -/
abbrev O_ENGINE_FLAG_SUMMARY : Nat := 0x2C0001
/-- 2C00h:02h (R438). -/
abbrev O_CONTEXT_FLAG_MAP : Nat := 0x2C0002
/-- 2C00h:03h (R438). -/
abbrev O_ENGINE_CONFIG_DIGEST : Nat := 0x2C0003
/-- 2C00h:04h (R438). -/
abbrev O_WINDOWS_LAUNCHED : Nat := 0x2C0004
/-- 2C00h:05h (R438). -/
abbrev O_WINDOWS_SHORT_ALL : Nat := 0x2C0005
/-- 2C00h:06h (R438). -/
abbrev O_ARITH_CYCLES_ALL : Nat := 0x2C0006
/-- 2C00h:07h (R438). -/
abbrev O_UPTIME_BEATS : Nat := 0x2C0007
/-- 2C00h:08h (R438). -/
abbrev O_NOTICE_ENABLE : Nat := 0x2C0008
/-- 2C00h:09h (R438). -/
abbrev O_NOTICE_EID : Nat := 0x2C0009
/-- 2C00h:0Ah (R438). -/
abbrev O_NOTICE_NODE : Nat := 0x2C000A
/-- 2C00h:0Bh (R438). -/
abbrev O_NOTICES_SENT : Nat := 0x2C000B
/-- 3000h:01h (R440). -/
abbrev O_LATCH_CTRL : Nat := 0x300001
/-- 3000h:02h (R440). -/
abbrev O_LATCH_BEAT : Nat := 0x300002
/-- 3000h:03h (R440). -/
abbrev O_LATCH_MODE : Nat := 0x300003
/-- 3001h:01h (R440). -/
abbrev O_POWER_MW : Nat := 0x300101
/-- 3001h:02h (R440). -/
abbrev O_POWER_PEAK_MW : Nat := 0x300102
/-- 3001h:03h (R440). -/
abbrev O_CORE_MV : Nat := 0x300103
/-- 3001h:04h (R440). -/
abbrev O_CORE_CURRENT_A : Nat := 0x300104
/-- 3001h:05h (R440). -/
abbrev O_VAON_MW : Nat := 0x300105
/-- 3001h:06h (R440). -/
abbrev O_TEMP_MAX : Nat := 0x300106
/-- 3001h:07h (R440). -/
abbrev O_TEMP_REGION : Nat := 0x300107
/-- 3001h:08h (R440). -/
abbrev O_THROTTLE_BEATS : Nat := 0x300108
/-- 3100h:01h (R440). -/
abbrev O_TILE_ITEMS : Nat := 0x310001
/-- 3100h:02h (R440). -/
abbrev O_TILE_ARITH_CYCLES : Nat := 0x310002
/-- 3100h:03h (R440). -/
abbrev O_TILE_REPLAYS : Nat := 0x310003
/-- 3100h:04h (R440). -/
abbrev O_TILE_SPARES_USED : Nat := 0x310004
/-- 3100h:05h (R440). -/
abbrev O_TILE_FU_RESULTS : Nat := 0x310005
/-- 3100h:06h (R440). -/
abbrev O_TILE_STATE : Nat := 0x310006
/-- 3300h:01h (R440). -/
abbrev O_REG_ITEMS_POSTED : Nat := 0x330001
/-- 3300h:02h (R440). -/
abbrev O_REG_LIST_DEPTH_PEAK : Nat := 0x330002
/-- 3300h:03h (R440). -/
abbrev O_REG_TILES_ACTIVE : Nat := 0x330003
/-- 3400h:01h (R440). -/
abbrev O_PORT_BYTES_READ : Nat := 0x340001
/-- 3400h:02h (R440). -/
abbrev O_PORT_BYTES_WRITTEN : Nat := 0x340002
/-- 3400h:03h (R440). -/
abbrev O_PORT_ECC_CORRECTED : Nat := 0x340003
/-- 3400h:04h (R440). -/
abbrev O_PORT_COPY_BYTES : Nat := 0x340004
/-- 3410h:01h (R440). -/
abbrev O_HA_BYTES_IN : Nat := 0x341001
/-- 3410h:02h (R440). -/
abbrev O_HA_BYTES_OUT : Nat := 0x341002
/-- 3410h:03h (R440). -/
abbrev O_HA_RETRIES : Nat := 0x341003
/-- 3410h:04h (R440). -/
abbrev O_HA_MAILBOX_REQUESTS : Nat := 0x341004
/-- 3420h:01h (R440). -/
abbrev O_CORE_DESCRIPTORS : Nat := 0x342001
/-- 3420h:02h (R440). -/
abbrev O_CORE_DICT_SERVED : Nat := 0x342002
/-- 3420h:03h (R440). -/
abbrev O_CORE_BUSY_TICKS : Nat := 0x342003
/-- 8000h:01h of context 0 (R410). -/
abbrev O_CTX_STATE : Nat := 0x800001
/-- 8000h:02h of context 0 (R410). -/
abbrev O_CTX_CTRL : Nat := 0x800002
/-- 8000h:03h of context 0 (R410). -/
abbrev O_PRIOR_STATE : Nat := 0x800003
/-- 8000h:04h of context 0 (R410). -/
abbrev O_LAST_REFUSAL : Nat := 0x800004
/-- 8000h:05h of context 0 (R410). -/
abbrev O_REFUSAL_COUNT : Nat := 0x800005
/-- 8000h:06h of context 0 (R410). -/
abbrev O_SQ_FLAGS : Nat := 0x800006
/-- 8000h:07h of context 0 (R410). -/
abbrev O_HALT_CAUSE : Nat := 0x800007
/-- 8001h:01h of context 0 (R95). -/
abbrev O_SCORE_FN : Nat := 0x800101
/-- 8001h:02h of context 0 (R95). -/
abbrev O_EXPERT_COUNT : Nat := 0x800102
/-- 8001h:03h of context 0 (R95). -/
abbrev O_TOP_K : Nat := 0x800103
/-- 8001h:04h of context 0 (R95). -/
abbrev O_RACK_LIMIT : Nat := 0x800104
/-- 8001h:05h of context 0 (R95). -/
abbrev O_RACK_MARGIN : Nat := 0x800105
/-- 8001h:06h of context 0 (R95). -/
abbrev O_GATE_NORM : Nat := 0x800106
/-- 8001h:07h of context 0 (R95). -/
abbrev O_ROUTE_SCALE : Nat := 0x800107
/-- 8001h:08h of context 0 (R95). -/
abbrev O_SPRINKLE_AMP : Nat := 0x800108
/-- 8001h:09h of context 0 (R95). -/
abbrev O_RENORM_ON_LOSS : Nat := 0x800109
/-- 8001h:0Ah of context 0 (R95). -/
abbrev O_EXPERT_ENABLE : Nat := 0x80010A
/-- 8001h:0Bh of context 0 (R95). -/
abbrev O_HIDDEN_WIDTH : Nat := 0x80010B
/-- 8001h:0Ch of context 0 (R95). -/
abbrev O_INNER_WIDTH : Nat := 0x80010C
/-- 8001h:10h of context 0 (R123). -/
abbrev O_DISPATCH_FMT : Nat := 0x800110
/-- 8001h:11h of context 0 (R123). -/
abbrev O_BWD_DISPATCH_FMT : Nat := 0x800111
/-- 8001h:12h of context 0 (R123). -/
abbrev O_LEDGER_KEEP : Nat := 0x800112
/-- 8001h:18h of context 0 (R154). -/
abbrev O_EXCHANGE_MODE : Nat := 0x800118
/-- 8001h:19h of context 0 (R154). -/
abbrev O_RETURN_FMT : Nat := 0x800119
/-- 8001h:1Ah of context 0 (R154). -/
abbrev O_BWD_RETURN_FMT : Nat := 0x80011A
/-- 8001h:1Bh of context 0 (R154). -/
abbrev O_EXCHANGE_GROUP : Nat := 0x80011B
/-- 8001h:1Ch of context 0 (R154). -/
abbrev O_RESERVE_CHECK : Nat := 0x80011C
/-- 8001h:1Dh of context 0 (R154). -/
abbrev O_LANDING_CREDITS : Nat := 0x80011D
/-- 8001h:1Eh of context 0 (R154). -/
abbrev O_FLOWS_ACTIVE : Nat := 0x80011E
/-- 8001h:1Fh of context 0 (R154). -/
abbrev O_RESERVE : Nat := 0x80011F
/-- 8001h:20h of context 0 (R154). -/
abbrev O_WINDOWS_OPEN_MAX : Nat := 0x800120
/-- 8001h:28h of context 0 (R189). -/
abbrev O_ACT_FN : Nat := 0x800128
/-- 8001h:29h of context 0 (R189). -/
abbrev O_INTER_FMT : Nat := 0x800129
/-- 8001h:2Ah of context 0 (R189). -/
abbrev O_EARLY_START : Nat := 0x80012A
/-- 8001h:2Bh of context 0 (R189). -/
abbrev O_SPLIT_K_MAX : Nat := 0x80012B
/-- 8001h:2Ch of context 0 (R189). -/
abbrev O_RETAIN_MODE : Nat := 0x80012C
/-- 8001h:2Dh of context 0 (R189). -/
abbrev O_RETAIN_KEEP : Nat := 0x80012D
/-- 8001h:2Eh of context 0 (R189). -/
abbrev O_STAGE_SETS : Nat := 0x80012E
/-- 8001h:2Fh of context 0 (R189). -/
abbrev O_LOOP_TRIP_MAX : Nat := 0x80012F
/-- 8001h:30h of context 0 (R213). -/
abbrev O_ROW_STATS : Nat := 0x800130
/-- 8001h:31h of context 0 (R213). -/
abbrev O_NORM_EPS : Nat := 0x800131
/-- 8001h:38h of context 0 (R236). -/
abbrev O_RESIDUAL_ADD : Nat := 0x800138
/-- 8001h:39h of context 0 (R236). -/
abbrev O_ROUTER_GRAD : Nat := 0x800139
/-- 8001h:3Ah of context 0 (R236). -/
abbrev O_LOGIT_GRAD_FMT : Nat := 0x80013A
/-- 8002h:01h of context 0 (R87). -/
abbrev O_CAPACITY_FACTOR : Nat := 0x800201
/-- 8002h:02h of context 0 (R87). -/
abbrev O_OVERFLOW_MODE : Nat := 0x800202
/-- 8002h:03h of context 0 (R87). -/
abbrev O_SPILL_PASSES : Nat := 0x800203
/-- 8002h:04h of context 0 (R87). -/
abbrev O_WINDOW_TOKENS_MAX : Nat := 0x800204
/-- 8002h:05h of context 0 (R87). -/
abbrev O_DROP_ALERT_LEVEL : Nat := 0x800205
/-- 8002h:10h of context 0 (R87). -/
abbrev O_COPIES_REQUESTED : Nat := 0x800210
/-- 8002h:11h of context 0 (R87). -/
abbrev O_COPIES_KEPT : Nat := 0x800211
/-- 8002h:12h of context 0 (R87). -/
abbrev O_COPIES_DROPPED : Nat := 0x800212
/-- 8002h:13h of context 0 (R87). -/
abbrev O_COPIES_SPILLED : Nat := 0x800213
/-- 8002h:14h of context 0 (R87). -/
abbrev O_ROWS_EMPTY_COUNT : Nat := 0x800214
/-- 8002h:15h of context 0 (R87). -/
abbrev O_ROWS_SHORT_COUNT : Nat := 0x800215
/-- 8002h:16h of context 0 (R87). -/
abbrev O_LOGIT_INVALID_COUNT : Nat := 0x800216
/-- 8002h:20h of context 0 (R87). -/
abbrev O_PUB_STEP : Nat := 0x800220
/-- 8002h:21h of context 0 (R87). -/
abbrev O_STEP_REQUESTED : Nat := 0x800221
/-- 8002h:22h of context 0 (R87). -/
abbrev O_STEP_KEPT : Nat := 0x800222
/-- 8002h:23h of context 0 (R87). -/
abbrev O_STEP_DROPPED : Nat := 0x800223
/-- 8002h:24h of context 0 (R87). -/
abbrev O_STEP_SPILL_IN : Nat := 0x800224
/-- 8002h:30h of context 0 (R87). -/
abbrev O_ROUTE_FLAGS : Nat := 0x800230
/-- 8003h:01h of context 0 (R77). -/
abbrev O_EXPERT_MAP : Nat := 0x800301
/-- 8003h:02h of context 0 (R77). -/
abbrev O_MAP_VERSION : Nat := 0x800302
/-- 8004h:01h of context 0 (R94). -/
abbrev O_CARAMEL_MODE : Nat := 0x800401
/-- 8004h:02h of context 0 (R94). -/
abbrev O_CARAMEL_STATE : Nat := 0x800402
/-- 8004h:03h of context 0 (R94). -/
abbrev O_ETA : Nat := 0x800403
/-- 8004h:04h of context 0 (R94). -/
abbrev O_BIAS_CLAMP : Nat := 0x800404
/-- 8004h:05h of context 0 (R94). -/
abbrev O_SETTLE_TOL : Nat := 0x800405
/-- 8004h:06h of context 0 (R94). -/
abbrev O_SETTLE_STEPS : Nat := 0x800406
/-- 8004h:07h of context 0 (R94). -/
abbrev O_MAX_STEPS : Nat := 0x800407
/-- 8004h:08h of context 0 (R94). -/
abbrev O_SCOPE : Nat := 0x800408
/-- 8004h:09h of context 0 (R94). -/
abbrev O_CARAMEL_GROUP : Nat := 0x800409
/-- 8004h:0Ah of context 0 (R94). -/
abbrev O_BIAS : Nat := 0x80040A
/-- 8004h:0Bh of context 0 (R94). -/
abbrev O_STEPS_RUN : Nat := 0x80040B
/-- 8004h:0Ch of context 0 (R94). -/
abbrev O_LAST_SPREAD : Nat := 0x80040C
/-- 8004h:0Dh of context 0 (R94). -/
abbrev O_SKIPPED_STEPS : Nat := 0x80040D
/-- 8004h:0Eh of context 0 (R94). -/
abbrev O_FAR_MULT : Nat := 0x80040E
/-- 8004h:0Fh of context 0 (R94). -/
abbrev O_BOOST : Nat := 0x80040F
/-- 8004h:10h of context 0 (R94). -/
abbrev O_CARAMEL_WAIT_BEATS : Nat := 0x800410
/-- 8005h:01h of context 0 (R270). -/
abbrev O_DET_LEVEL : Nat := 0x800501
/-- 8005h:02h of context 0 (R270). -/
abbrev O_SEED : Nat := 0x800502
/-- 8005h:03h of context 0 (R270). -/
abbrev O_STEP : Nat := 0x800503
/-- 8005h:04h of context 0 (R270). -/
abbrev O_ANCHOR_GRID : Nat := 0x800504
/-- 8005h:05h of context 0 (R270). -/
abbrev O_STEP_ANCHOR : Nat := 0x800505
/-- 8005h:06h of context 0 (R270). -/
abbrev O_DET_FLAGS : Nat := 0x800506
/-- 8005h:07h of context 0 (R270). -/
abbrev O_LAUNCH_LATE_COUNT : Nat := 0x800507
/-- 8005h:08h of context 0 (R270). -/
abbrev O_LAUNCH_SLIP_COUNT : Nat := 0x800508
/-- 8005h:10h of context 0 (R58). -/
abbrev O_SR_ENABLE : Nat := 0x800510
/-- 8005h:11h of context 0 (R58). -/
abbrev O_ESCAPE_THRESHOLD : Nat := 0x800511
/-- 8005h:12h of context 0 (R58). -/
abbrev O_ESCAPE_DISPATCH : Nat := 0x800512
/-- 8005h:13h of context 0 (R58). -/
abbrev O_SAT_ALERT_LEVEL : Nat := 0x800513
/-- 8006h:01h of context 0 (R308). -/
abbrev O_LS_PAGES : Nat := 0x800601
/-- 8006h:02h of context 0 (R308). -/
abbrev O_HBM_EXTENTS : Nat := 0x800602
/-- 8006h:03h of context 0 (R308). -/
abbrev O_REGIONS : Nat := 0x800603
/-- 8006h:04h of context 0 (R308). -/
abbrev O_DESC_AREA : Nat := 0x800604
/-- 8006h:05h of context 0 (R308). -/
abbrev O_DESC_MAX : Nat := 0x800605
/-- 8006h:06h of context 0 (R308). -/
abbrev O_DESC_WRITE : Nat := 0x800606
/-- 8006h:07h of context 0 (R308). -/
abbrev O_STAGE_REGION : Nat := 0x800607
/-- 8006h:10h of context 0 (R289). -/
abbrev O_BIND_INPUT : Nat := 0x800610
/-- 8006h:11h of context 0 (R289). -/
abbrev O_BIND_SEND : Nat := 0x800611
/-- 8006h:12h of context 0 (R289). -/
abbrev O_BIND_LANDING : Nat := 0x800612
/-- 8006h:13h of context 0 (R289). -/
abbrev O_BIND_RELAY : Nat := 0x800613
/-- 8006h:14h of context 0 (R289). -/
abbrev O_BIND_RETURN : Nat := 0x800614
/-- 8006h:15h of context 0 (R289). -/
abbrev O_BIND_LEDGER : Nat := 0x800615
/-- 8006h:16h of context 0 (R289). -/
abbrev O_BIND_RETENTION : Nat := 0x800616
/-- 8006h:17h of context 0 (R289). -/
abbrev O_BIND_COLLECTIVE : Nat := 0x800617
/-- 8007h:01h of context 0 (R349). -/
abbrev O_SRC_WINDOWS : Nat := 0x800701
/-- 8007h:02h of context 0 (R349). -/
abbrev O_SRC_WINDOW_COUNT : Nat := 0x800702
/-- 8008h:01h of context 0 (R411). -/
abbrev O_RING_BASE : Nat := 0x800801
/-- 8008h:02h of context 0 (R411). -/
abbrev O_RING_ENTRIES : Nat := 0x800802
/-- 8008h:03h of context 0 (R411). -/
abbrev O_RING_POLL_TICKS : Nat := 0x800803
/-- 8008h:04h of context 0 (R411). -/
abbrev O_RING_CTRL : Nat := 0x800804
/-- 8008h:05h of context 0 (R411). -/
abbrev O_RING_STATE : Nat := 0x800805
/-- 8008h:06h of context 0 (R411). -/
abbrev O_CONSUMER : Nat := 0x800806
/-- 8008h:07h of context 0 (R411). -/
abbrev O_COMPLETED : Nat := 0x800807
/-- 8008h:08h of context 0 (R411). -/
abbrev O_LOOP_DEPTH : Nat := 0x800808
/-- 8008h:09h of context 0 (R411). -/
abbrev O_COMMANDS_ISSUED : Nat := 0x800809
/-- 8008h:0Ah of context 0 (R411). -/
abbrev O_POLLS : Nat := 0x80080A
/-- 8008h:0Bh of context 0 (R411). -/
abbrev O_POLL_DEFERRED : Nat := 0x80080B
/-- 8009h:01h of context 0 (R238). -/
abbrev O_WINDOW_DIGEST : Nat := 0x800901
/-- 8009h:02h of context 0 (R238). -/
abbrev O_WINDOW_DIGEST_TAG : Nat := 0x800902
/-- 8009h:03h of context 0 (R238). -/
abbrev O_STEP_DIGEST : Nat := 0x800903
/-- 8009h:04h of context 0 (R238). -/
abbrev O_PREV_STEP_DIGEST : Nat := 0x800904
/-- 8009h:05h of context 0 (R238). -/
abbrev O_RET_SENT_STEP : Nat := 0x800905
/-- 8009h:06h of context 0 (R238). -/
abbrev O_RET_SENT_PREV : Nat := 0x800906
/-- 8009h:07h of context 0 (R238). -/
abbrev O_RET_ACC_STEP : Nat := 0x800907
/-- 8009h:08h of context 0 (R238). -/
abbrev O_RET_ACC_PREV : Nat := 0x800908
/-- 8009h:10h of context 0 (R271). -/
abbrev O_SNAP_COUNT : Nat := 0x800910
/-- 8009h:11h of context 0 (R271). -/
abbrev O_SNAP_RING : Nat := 0x800911
/-- 800Ah:01h of context 0 (R155). -/
abbrev O_DEADLINE_BEATS : Nat := 0x800A01
/-- 800Ah:02h of context 0 (R155). -/
abbrev O_LATE_ANSWERS : Nat := 0x800A02
/-- 800Ah:03h of context 0 (R155). -/
abbrev O_WINDOWS_SHORT : Nat := 0x800A03
/-- 800Ah:04h of context 0 (R155). -/
abbrev O_DEADLINE_MISS_COUNT : Nat := 0x800A04
/-- 800Ah:05h of context 0 (R155). -/
abbrev O_LAST_SHORT_TAG : Nat := 0x800A05
/-- 800Ah:06h of context 0 (R155). -/
abbrev O_ADMISSION_DEFERRED_BEATS : Nat := 0x800A06
/-- 800Ah:07h of context 0 (R155). -/
abbrev O_WINDOW_HOLD_BEATS : Nat := 0x800A07
/-- 800Bh:01h of context 0 (R237). -/
abbrev O_CRUMB_DEPTH : Nat := 0x800B01
/-- 800Bh:02h of context 0 (R237). -/
abbrev O_CRUMB_HOLD_BEATS : Nat := 0x800B02
/-- 800Bh:03h of context 0 (R237). -/
abbrev O_CRUMB_ENTRIES : Nat := 0x800B03
/-- 800Bh:04h of context 0 (R237). -/
abbrev O_CRUMB_HITS : Nat := 0x800B04
/-- 800Bh:05h of context 0 (R237). -/
abbrev O_ORPHANS : Nat := 0x800B05
/-- 800Bh:06h of context 0 (R237). -/
abbrev O_CRUMB_EVICTED : Nat := 0x800B06
/-- 800Bh:07h of context 0 (R237). -/
abbrev O_CRUMB_LIST : Nat := 0x800B07
/-- 800Ch:01h of context 0 (R382). -/
abbrev O_SLOT_TABLE_AREA : Nat := 0x800C01
/-- 800Ch:02h of context 0 (R382). -/
abbrev O_LAYER_SLOTS : Nat := 0x800C02
/-- 800Ch:03h of context 0 (R382). -/
abbrev O_SLOT_ENTRY_WRITE : Nat := 0x800C03
/-- 800Ch:04h of context 0 (R382). -/
abbrev O_ACTIVE_SLOT : Nat := 0x800C04
/-- 800Ch:05h of context 0 (R382). -/
abbrev O_SLOT_STATE : Nat := 0x800C05
/-- 800Ch:06h of context 0 (R382). -/
abbrev O_SWITCH_SEQ : Nat := 0x800C06
/-- 800Ch:07h of context 0 (R382). -/
abbrev O_SLOT_SWITCHES : Nat := 0x800C07
/-- 800Dh:01h of context 0 (R383). -/
abbrev O_GROUP_AREA : Nat := 0x800D01
/-- 800Dh:02h of context 0 (R383). -/
abbrev O_COLL_TIMEOUT_BEATS : Nat := 0x800D02
/-- 800Dh:03h of context 0 (R383). -/
abbrev O_COLL_STATE : Nat := 0x800D03
/-- 800Dh:04h of context 0 (R383). -/
abbrev O_COLL_LAST_RESULT : Nat := 0x800D04
/-- 800Eh:01h of context 0 (R434). -/
abbrev O_FLAG_SUMMARY : Nat := 0x800E01
/-- 800Eh:02h of context 0 (R434). -/
abbrev O_CTX_MATCH_DIGEST : Nat := 0x800E02
/-- 800Eh:40h of context 0 (R59). -/
abbrev O_NUMERIC_FLAGS : Nat := 0x800E40
/-- 800Eh:41h of context 0 (R59). -/
abbrev O_SAT_COUNT_FWD : Nat := 0x800E41
/-- 800Eh:42h of context 0 (R59). -/
abbrev O_SAT_COUNT_WGT : Nat := 0x800E42
/-- 800Eh:43h of context 0 (R59). -/
abbrev O_SAT_COUNT_GRAD : Nat := 0x800E43
/-- 800Eh:44h of context 0 (R59). -/
abbrev O_NAN_COUNT : Nat := 0x800E44
/-- 800Eh:45h of context 0 (R59). -/
abbrev O_SCALE_INVALID_COUNT : Nat := 0x800E45
/-- 800Eh:46h of context 0 (R59). -/
abbrev O_TERNARY_INVALID_COUNT : Nat := 0x800E46
/-- 800Eh:47h of context 0 (R59). -/
abbrev O_ESCAPE_CAPPED_COUNT : Nat := 0x800E47
/-- 800Eh:48h of context 0 (R59). -/
abbrev O_AMAX_FWD_STEP : Nat := 0x800E48
/-- 800Eh:49h of context 0 (R59). -/
abbrev O_AMAX_FWD_PREV : Nat := 0x800E49
/-- 800Eh:4Ah of context 0 (R59). -/
abbrev O_AMAX_GRAD_STEP : Nat := 0x800E4A
/-- 800Eh:4Bh of context 0 (R59). -/
abbrev O_AMAX_GRAD_PREV : Nat := 0x800E4B
/-- 800Eh:50h of context 0 (R124). -/
abbrev O_RECORDS_BUILT : Nat := 0x800E50
/-- 800Eh:51h of context 0 (R124). -/
abbrev O_COPIES_MERGED : Nat := 0x800E51
/-- 800Eh:52h of context 0 (R124). -/
abbrev O_CONT_RECORDS : Nat := 0x800E52
/-- 800Eh:53h of context 0 (R124). -/
abbrev O_WIRE_BYTES : Nat := 0x800E53
/-- 800Eh:54h of context 0 (R124). -/
abbrev O_LOOPBACK_RECORDS : Nat := 0x800E54
/-- 800Eh:55h of context 0 (R124). -/
abbrev O_POOL_WAIT_BEATS : Nat := 0x800E55
/-- 800Eh:56h of context 0 (R124). -/
abbrev O_LEDGER_EVICTED : Nat := 0x800E56
/-- 800Eh:60h of context 0 (R156). -/
abbrev O_EXCHANGE_FLAGS : Nat := 0x800E60
/-- 800Eh:61h of context 0 (R156). -/
abbrev O_RECORDS_SENT : Nat := 0x800E61
/-- 800Eh:62h of context 0 (R156). -/
abbrev O_RECORDS_RELAYED : Nat := 0x800E62
/-- 800Eh:63h of context 0 (R156). -/
abbrev O_RECORDS_LANDED : Nat := 0x800E63
/-- 800Eh:64h of context 0 (R156). -/
abbrev O_RETURNS_SENT : Nat := 0x800E64
/-- 800Eh:65h of context 0 (R156). -/
abbrev O_UNSENT_RECORDS : Nat := 0x800E65
/-- 800Eh:66h of context 0 (R156). -/
abbrev O_MARKERS_MISSING : Nat := 0x800E66
/-- 800Eh:67h of context 0 (R156). -/
abbrev O_LATE_RECORDS_RX : Nat := 0x800E67
/-- 800Eh:68h of context 0 (R156). -/
abbrev O_CREDIT_WAIT_BEATS : Nat := 0x800E68
/-- 800Eh:69h of context 0 (R156). -/
abbrev O_STREAM_GAP_COUNT : Nat := 0x800E69
/-- 800Eh:6Ah of context 0 (R156). -/
abbrev O_FOREIGN_RECORDS : Nat := 0x800E6A
/-- 800Eh:6Bh of context 0 (R156). -/
abbrev O_MISROUTED_COPIES : Nat := 0x800E6B
/-- 800Eh:70h of context 0 (R190). -/
abbrev O_EF_FLAGS : Nat := 0x800E70
/-- 800Eh:71h of context 0 (R190). -/
abbrev O_ITEMS_RUN : Nat := 0x800E71
/-- 800Eh:72h of context 0 (R190). -/
abbrev O_GROUPS_RUN : Nat := 0x800E72
/-- 800Eh:73h of context 0 (R190). -/
abbrev O_ARITH_CYCLES : Nat := 0x800E73
/-- 800Eh:74h of context 0 (R190). -/
abbrev O_PAD_ROWS : Nat := 0x800E74
/-- 800Eh:75h of context 0 (R190). -/
abbrev O_ITEMS_SKIPPED : Nat := 0x800E75
/-- 800Eh:76h of context 0 (R190). -/
abbrev O_SPLIT_K_ITEMS : Nat := 0x800E76
/-- 800Eh:77h of context 0 (R190). -/
abbrev O_STAGE_MISSES : Nat := 0x800E77
/-- 800Eh:78h of context 0 (R190). -/
abbrev O_STAGE_WAIT_BEATS : Nat := 0x800E78
/-- 800Eh:79h of context 0 (R190). -/
abbrev O_RETAIN_EVICTED : Nat := 0x800E79
/-- 800Eh:7Ah of context 0 (R190). -/
abbrev O_RETAIN_ABSENT_COUNT : Nat := 0x800E7A
/-- 800Eh:7Bh of context 0 (R190). -/
abbrev O_GROUP_INVALID_COUNT : Nat := 0x800E7B
/-- 800Eh:7Ch of context 0 (R190). -/
abbrev O_LOOP_ITERATIONS : Nat := 0x800E7C
/-- 800Eh:80h of context 0 (R214). -/
abbrev O_FU_FLAGS : Nat := 0x800E80
/-- 800Eh:81h of context 0 (R214). -/
abbrev O_FU_RESULTS : Nat := 0x800E81
/-- 800Eh:82h of context 0 (R214). -/
abbrev O_FU_SLOW_PATH : Nat := 0x800E82
/-- 800Eh:83h of context 0 (R214). -/
abbrev O_FU_STALL_CYCLES : Nat := 0x800E83
/-- 800Eh:84h of context 0 (R214). -/
abbrev O_STAT_INVALID_ROWS : Nat := 0x800E84
/-- 800Eh:90h of context 0 (R239). -/
abbrev O_CB_FLAGS : Nat := 0x800E90
/-- 800Eh:91h of context 0 (R239). -/
abbrev O_RETURNS_MATCHED : Nat := 0x800E91
/-- 800Eh:92h of context 0 (R239). -/
abbrev O_RETURNS_UNMATCHED : Nat := 0x800E92
/-- 800Eh:93h of context 0 (R239). -/
abbrev O_RETURNS_DUPLICATE : Nat := 0x800E93
/-- 800Eh:94h of context 0 (R239). -/
abbrev O_ROWS_COMBINED : Nat := 0x800E94
/-- 800Eh:95h of context 0 (R239). -/
abbrev O_ROWS_SHORT_COMBINED : Nat := 0x800E95
/-- 800Eh:96h of context 0 (R239). -/
abbrev O_ROWS_RENORMALISED : Nat := 0x800E96
/-- 800Eh:97h of context 0 (R239). -/
abbrev O_COMBINE_TAIL_CYCLES : Nat := 0x800E97
/-- 800Eh:A0h of context 0 (R309). -/
abbrev O_MEM_FLAGS : Nat := 0x800EA0
/-- 800Eh:A1h of context 0 (R309). -/
abbrev O_REFCOUNT_FAULTS : Nat := 0x800EA1
/-- 800Eh:A2h of context 0 (R309). -/
abbrev O_CLAMPED_COORDS : Nat := 0x800EA2
/-- 800Eh:A3h of context 0 (R309). -/
abbrev O_COPY_BYTES : Nat := 0x800EA3
/-- 800Eh:A4h of context 0 (R309). -/
abbrev O_DESC_REFUSED : Nat := 0x800EA4
/-- 800Eh:B0h of context 0 (R350). -/
abbrev O_FABRIC_CTX_FLAGS : Nat := 0x800EB0
/-- 800Eh:B1h of context 0 (R350). -/
abbrev O_REMOTE_LOADS : Nat := 0x800EB1
/-- 800Eh:B2h of context 0 (R350). -/
abbrev O_REMOTE_WRITES : Nat := 0x800EB2
/-- 800Eh:B3h of context 0 (R350). -/
abbrev O_COPY_CHUNKS : Nat := 0x800EB3
/-- 800Eh:B4h of context 0 (R350). -/
abbrev O_WINDOW_VIOLATIONS : Nat := 0x800EB4
/-- 800Eh:B5h of context 0 (R350). -/
abbrev O_LOST_WRITES : Nat := 0x800EB5
/-- 800Eh:B6h of context 0 (R350). -/
abbrev O_LATE_RESPONSES : Nat := 0x800EB6
/-- 800Eh:B7h of context 0 (R350). -/
abbrev O_FLAG_HOLD_BEATS : Nat := 0x800EB7
/-- 800Eh:B8h of context 0 (R350). -/
abbrev O_REROUTED : Nat := 0x800EB8
/-- 800Eh:C0h of context 0 (R384). -/
abbrev O_COLL_FLAGS : Nat := 0x800EC0
/-- 800Eh:C1h of context 0 (R384). -/
abbrev O_COLLECTIVES_RUN : Nat := 0x800EC1
/-- 800Eh:C2h of context 0 (R384). -/
abbrev O_COLL_ABORTS : Nat := 0x800EC2
/-- 800Eh:C3h of context 0 (R384). -/
abbrev O_COLL_WAIT_BEATS : Nat := 0x800EC3
/-- 800Eh:D0h of context 0 (R384). -/
abbrev O_WEIGHT_FLAGS : Nat := 0x800ED0
/-- 800Eh:D1h of context 0 (R384). -/
abbrev O_INTAKE_BYTES_IN : Nat := 0x800ED1
/-- 800Eh:D2h of context 0 (R384). -/
abbrev O_INTAKE_BYTES_OUT : Nat := 0x800ED2
/-- 800Eh:D3h of context 0 (R384). -/
abbrev O_SLOT_HOLD_BEATS : Nat := 0x800ED3
/-- 800Eh:D4h of context 0 (R384). -/
abbrev O_COLD_BYTES : Nat := 0x800ED4

/-! ### The table -/

/-- One row. -/
def objRow (key : Nat) (ty : ObjType) (access : Nat) (wr : Writable) (chk : Check) : Nat × ObjInfo :=
  (key, ⟨ty, access, wr, chk⟩)

/-- Rows of the object tables. -/
def objTable0 : List (Nat × ObjInfo) :=
  [objRow O_VENDOR_NAME .str 0 .never .free,
   objRow O_BLOCK_RELEASE .u16 0 .never .free,
   objRow O_BLOCK_NAME .str 0 .never .free,
   objRow O_FIRMWARE_RELEASE .u32 0 .never .free,
   objRow O_DIE_NUMBER .u64 0 .never .free,
   objRow O_CONTEXTS .u16 0 .never .free,
   objRow O_LINKS .u8 0 .never .free,
   objRow O_HBM_PORTS .u8 0 .never .free,
   objRow O_HA_MODULES .u8 0 .never .free,
   objRow O_MGMT_VERSIONS .u8 0 .never .free,
   objRow O_MCTP_EID_I3C .u8 0 .never .free,
   objRow O_MCTP_EID_SMBUS .u8 0 .never .free,
   objRow O_SMBUS_ADDR .u8 1 .any (.range 8 119),
   objRow O_SMBUS_ENABLE .bool 1 .any .free,
   objRow O_VENDOR_PEN .u32 0 .never .free,
   objRow O_HOST_GRANTS .domain 2 .any .free,
   objRow O_FABRIC_GRANTS .domain 2 .any .free,
   objRow O_MCTP_GRANT .domain 2 .any .free,
   objRow O_DICT_FLAGS .u32 1 .any (.flags 0x7),
   objRow O_DICT_REQUESTS .u64 0 .never .free,
   objRow O_DICT_REFUSED .u64 0 .never .free,
   objRow O_LAST_DENIED .domain 0 .never .free,
   objRow O_MAILBOX_POLL_TICKS .u8 1 .any (.pow2 1 64),
   objRow O_JOURNAL .domain 0 .never .free,
   objRow O_ATTEMPTS .u32 0 .never .free,
   objRow O_START_POLICY .domain 2 .any .free,
   objRow O_PARTNER_JOURNAL .domain 0 .never .free,
   objRow O_START_STATE .u8 0 .never .free,
   objRow O_ENGINE_STATE .u8 0 .never .free,
   objRow O_PROFILE .u8 0 .never .free,
   objRow O_CONTEXTS_CLAIMED .u16 0 .never .free,
   objRow O_D2_CONTEXTS .u8 0 .never .free,
   objRow O_ARITH_CLOCK_MHZ .u16 0 .never .free,
   objRow O_SPINE_CLOCK_MHZ .u16 0 .never .free,
   objRow O_TILES_ACTIVE .u16 0 .never .free,
   objRow O_REGIONS_ACTIVE .u8 0 .never .free,
   objRow O_HOST_MEM_MODULES .u8 2 .any .free,
   objRow O_APERTURES .domain 2 .any .free,
   objRow O_POWER_CAP_W .u16 2 .any (.range 400 1200),
   objRow O_THERM_THROTTLE_C .u8 2 .any (.range 70 105)]

/-- Rows of the object tables. -/
def objTable1 : List (Nat × ObjInfo) :=
  [objRow O_HA_MODULE_STATE .domain 0 .never .free,
   objRow O_UNMAPPED_ACCESSES .u64 0 .never .free,
   objRow O_BEAT_ROLE .u8 1 .any (.set [0, 1, 2] 0x12),
   objRow O_BEAT_UPLINK .u8 1 .any (.set [0, 1, 2, 3, 4, 5, 6, 7, 8, 9, 10, 11, 255] 0x12),
   objRow O_BEAT_DOWNLINKS .u16 1 .any (.mask 0xFFF),
   objRow O_HOLDOVER_LIMIT .u16 1 .any (.range 16 65535),
   objRow O_BEAT_COUNT .u64 0 .never .free,
   objRow O_TICK_IN_BEAT .u8 0 .never .free,
   objRow O_BEAT_STATE .u8 0 .never .free,
   objRow O_BEAT_ORIGIN .u16 0 .never .free,
   objRow O_BEAT_HOPS .u8 0 .never .free,
   objRow O_PATH_DELAY .u32 0 .never .free,
   objRow O_SKEW_ESTIMATE .i32 0 .never .free,
   objRow O_BEAT_SKEW_LIMIT .u16 1 .any (.range 8 1000),
   objRow O_BEAT_FLAGS .u32 1 .any (.flags 0xF),
   objRow O_BEAT_LOST_COUNT .u64 0 .never .free,
   objRow O_BEAT_JUMP_COUNT .u64 0 .never .free,
   objRow O_BEATS_HELD .u64 0 .never .free,
   objRow O_HOLDOVER_BEATS .u64 0 .never .free,
   objRow O_BEAT_FOREIGN .u64 0 .never .free,
   objRow O_HEALTH_FLAGS .u32 1 .any (.flags 0x3F),
   objRow O_CELL_FAULTS .u64 0 .never .free,
   objRow O_REGFILE_CORRECTED .u64 0 .never .free,
   objRow O_CELLS_RETIRED .u16 0 .never .free,
   objRow O_TILES_QUARANTINED .u16 0 .never .free,
   objRow O_STALE_RESULTS .u64 0 .never .free,
   objRow O_TILE_EPOCHS .domain 0 .never .free,
   objRow O_REGION_EPOCHS .domain 0 .never .free,
   objRow O_UNIT_SELECT .u16 1 .any .special,
   objRow O_UNIT_CTRL .u8 1 .any (.action 3),
   objRow O_UNIT_STATE .u8 0 .never .free,
   objRow O_RETIRE_LIMIT .u8 1 .any (.range 1 8),
   objRow O_RETIRE_WINDOW .u32 1 .any (.range 1024 4294967295),
   objRow O_RESIDUE_ENABLE .bool 1 .any .free,
   objRow O_HBM_MODE .u8 0 .never .free,
   objRow O_HBM_PIN_RATE .u16 0 .never .free,
   objRow O_HBM_PORTS_UP .u8 0 .never .free,
   objRow O_STACK_CAPACITY .domain 0 .never .free,
   objRow O_PAGE_OWNER .domain 0 .never .free,
   objRow O_EXTENT_OWNER .domain 0 .never .free]

/-- Rows of the object tables. -/
def objTable2 : List (Nat × ObjInfo) :=
  [objRow O_FREE_PAGES .u16 0 .never .free,
   objRow O_FREE_EXTENTS .u16 0 .never .free,
   objRow O_WIPE_STATE .u8 0 .never .free,
   objRow O_WIPE_LAST_US .u32 0 .never .free,
   objRow O_POOL_STATE .u8 0 .never .free,
   objRow O_OWNER_CONTEXT .u16 2 .cond .special,
   objRow O_SPACE .u8 2 .cond (.set [0, 1] 0x12),
   objRow O_LAYOUT .u8 2 .cond (.set [0, 1] 0x12),
   objRow O_BUF_SIZE_LOG2 .u8 2 .cond (.range 12 20),
   objRow O_BASE .u64 2 .cond .free,
   objRow O_LENGTH .u64 2 .cond .free,
   objRow O_META_BASE .u64 2 .cond .free,
   objRow O_POOL_CTRL .u8 2 .cond (.action 2),
   objRow O_AMBER_PCT .u8 2 .cond .free,
   objRow O_RED_PCT .u8 2 .cond .free,
   objRow O_BLACK_PCT .u8 2 .cond .free,
   objRow O_BUF_COUNT .u32 0 .never .free,
   objRow O_FREE_NOW .u32 0 .never .free,
   objRow O_FREE_MIN .u32 0 .never .free,
   objRow O_LEVEL .u8 0 .never .free,
   objRow O_COMMITTED .u64 0 .never .free,
   objRow O_ALLOCS .u64 0 .never .free,
   objRow O_ALLOC_WAITS .u64 0 .never .free,
   objRow O_NODE_ID .u16 1 .cond .special,
   objRow O_TORUS_X .u16 1 .cond (.range 1 512),
   objRow O_TORUS_Y .u16 1 .cond (.range 1 512),
   objRow O_FABRIC_ENABLE .u8 1 .any (.set [0, 1] 0x12),
   objRow O_LINK_ENABLE .u16 1 .any (.mask 0xFFF),
   objRow O_LINK_GEN_MAX .domain 1 .any .free,
   objRow O_VC_WEIGHT .domain 1 .any .free,
   objRow O_RING_TABLE .domain 0 .never .free,
   objRow O_FABRIC_FLAGS .u32 1 .any (.flags 0x1F),
   objRow O_LINK_STATE .u8 0 .never .free,
   objRow O_GENERATION .u8 0 .never .free,
   objRow O_LANES_UP .u8 0 .never .free,
   objRow O_LINK_DELAY_PS .u32 0 .never .free,
   objRow O_PEER_ID .u16 0 .never .free,
   objRow O_FEC_CORRECTED .u64 0 .never .free,
   objRow O_FEC_UNCORRECTED .u64 0 .never .free,
   objRow O_CRC_ERRORS .u64 0 .never .free]

/-- Rows of the object tables. -/
def objTable3 : List (Nat × ObjInfo) :=
  [objRow O_RETRIES .u64 0 .never .free,
   objRow O_FRAMES_TX .u64 0 .never .free,
   objRow O_FRAMES_RX .u64 0 .never .free,
   objRow O_BYPASS_STATE .u8 0 .never .free,
   objRow O_BYPASS_HOLD .bool 3 .any .free,
   objRow O_BYPASS_ENTRIES .u32 0 .never .free,
   objRow O_BYPASS_FRAMES .u64 0 .never .free,
   objRow O_DEAD_NODE_NOTICES .u64 0 .never .free,
   objRow O_REMOTE_TIMEOUT .u16 1 .any (.range 16 65535),
   objRow O_DEAD_NODES .domain 1 .any .free,
   objRow O_HOT_DEPTH .u16 1 .any (.range 8 8192),
   objRow O_HOT_QUEUE_DEPTH .u16 0 .never .free,
   objRow O_HOT_QUEUE_PEAK .u16 0 .never .free,
   objRow O_HOT_LINES .domain 0 .never .free,
   objRow O_STORES_APPLIED .u64 0 .never .free,
   objRow O_ATOMICS_APPLIED .u64 0 .never .free,
   objRow O_ADDS_MERGED .u64 0 .never .free,
   objRow O_MERGE_RECORDS_FULL .u64 0 .never .free,
   objRow O_CREDIT_HOLD_BEATS .u64 0 .never .free,
   objRow O_ADDR_INVALID_COUNT .u64 0 .never .free,
   objRow O_REMOTE_FLAGS .u32 1 .any (.flags 0x3),
   objRow O_GROUPS_USED .u16 0 .never .free,
   objRow O_COLL_RUN .u64 0 .never .free,
   objRow O_COLL_ABORTED .u64 0 .never .free,
   objRow O_ABORT_LATE_NOTICES .u64 0 .never .free,
   objRow O_COLL_BYTES_TX .u64 0 .never .free,
   objRow O_GROUP_SELECT .u16 2 .any (.range 0 4095),
   objRow O_GROUP_OWNER .u16 2 .cond (.range 0 1023),
   objRow O_GROUP_MEMBERS .domain 2 .cond .free,
   objRow O_GROUP_CTRL .u8 2 .cond (.action 2),
   objRow O_GROUP_STATE .u8 0 .never .free,
   objRow O_GROUP_DIGEST .u64 0 .never .free,
   objRow O_GROUP_SEQ .u32 0 .never .free,
   objRow O_TWIN_ROLE .u8 2 .cond (.set [0, 1] 0x12),
   objRow O_TWIN_MODULES .u8 2 .cond .special,
   objRow O_PARTNER_NODE .u16 2 .cond .free,
   objRow O_TWIN_CTRL .u8 2 .any (.action 3),
   objRow O_TWIN_STATE .u8 0 .never .free,
   objRow O_HANDBACK_CONTEXT .u16 2 .any .free,
   objRow O_MIRROR_LAG_LIMIT .u16 1 .any (.range 1 64)]

/-- Rows of the object tables. -/
def objTable4 : List (Nat × ObjInfo) :=
  [objRow O_MIRROR_LAG_BEATS .u32 0 .never .free,
   objRow O_MIRROR_BYTES .u64 0 .never .free,
   objRow O_HEARTBEATS_MISSED .u64 0 .never .free,
   objRow O_TAKEOVERS .u32 0 .never .free,
   objRow O_TAKEOVER_LAST .domain 0 .never .free,
   objRow O_REDIRECTS .domain 0 .never .free,
   objRow O_UNHELD_COPIES .u64 0 .never .free,
   objRow O_TWIN_FLAGS .u32 1 .any (.flags 0x3F),
   objRow O_GD_FLAGS .u32 1 .any (.flags 0x1F),
   objRow O_SCRUB_ENABLE .u8 1 .any (.mask 0x3),
   objRow O_LS_SCRUB_PERIOD_MS .u16 1 .any (.range 16 1000),
   objRow O_HBM_SCRUB_PERIOD_S .u16 1 .any (.range 8 3600),
   objRow O_LS_CORRECTED .u64 0 .never .free,
   objRow O_HBM_CORRECTED .u64 0 .never .free,
   objRow O_POISONED_LINES .u32 0 .never .free,
   objRow O_RETIRED_PAGES .u16 0 .never .free,
   objRow O_RETIRED_EXTENTS .u16 0 .never .free,
   objRow O_LS_PASS_LAST_MS .u32 0 .never .free,
   objRow O_HBM_PASS_LAST_MS .u32 0 .never .free,
   objRow O_SQ_CORE_STATE .domain 0 .never .free,
   objRow O_SQ_CORE_FAULTS .u64 0 .never .free,
   objRow O_EVENT_LOG .domain 0 .never .free,
   objRow O_LOG_SEQ_NEXT .u32 0 .never .free,
   objRow O_ENGINE_QUARANTINE .u8 2 .any (.action 1),
   objRow O_LC_STATE .u8 0 .never .free,
   objRow O_LC_FLAGS .u32 1 .any (.flags 0x3F),
   objRow O_OWNER_KEY_HASH .domain 2 .cond .free,
   objRow O_VENDOR_KEY_HASH .domain 0 .never .free,
   objRow O_OWNER_SLOTS_LEFT .u8 0 .never .free,
   objRow O_DEBUG_REQUEST .domain 1 .any .free,
   objRow O_DEBUG_CHALLENGE .domain 0 .never .free,
   objRow O_DEBUG_RESPONSE .domain 1 .any .free,
   objRow O_DEBUG_STATE .domain 0 .never .free,
   objRow O_DEBUG_EVER .u8 0 .never .free,
   objRow O_DEBUG_CTRL .u8 1 .any (.action 1),
   objRow O_DEBUG_TIMEOUT_S .u16 2 .any (.range 60 65535),
   objRow O_DEBUG_FAILS .u8 0 .never .free,
   objRow O_RESET_CTRL .u8 2 .any (.action 1),
   objRow O_LAST_RESET_KIND .u8 0 .never .free,
   objRow O_CKPT_FLAGS .u32 1 .any (.flags 0xFF)]

/-- Rows of the object tables. -/
def objTable5 : List (Nat × ObjInfo) :=
  [objRow O_CKPT_SLOT_STATE .domain 0 .never .free,
   objRow O_CKPT_SLOT_INFO .domain 0 .never .free,
   objRow O_NEWEST_SLOT .u8 0 .never .free,
   objRow O_CKPT_PHASE .u8 0 .never .free,
   objRow O_COW_STALLS .u64 0 .never .free,
   objRow O_DRAIN_BYTES .u64 0 .never .free,
   objRow O_SLOT_CTRL .u8 2 .cond (.action 4),
   objRow O_RESTORE_FROM .u8 2 .any (.set [0, 1, 2] 0x12),
   objRow O_RESTORE_ADDR .u64 2 .any .free,
   objRow O_RESTORE_HOSTMAP .bool 2 .any .free,
   objRow O_RESTORE_CONTEXT .u16 2 .any (.range 0 1023),
   objRow O_RESTORE_CTRL .u8 2 .cond (.action 1),
   objRow O_RESTORE_STATUS .u8 0 .never .free,
   objRow O_CHECKPOINTS .u64 0 .never .free,
   objRow O_CHECKPOINTS_ABORTED .u64 0 .never .free,
   objRow O_INTAKE_HA_MIN .u8 1 .any (.range 5 90),
   objRow O_INTAKE_ACTIVE .u16 0 .never .free,
   objRow O_INTAKE_BYTES .u64 0 .never .free,
   objRow O_ENGINE_FLAG_SUMMARY .u32 0 .never .free,
   objRow O_CONTEXT_FLAG_MAP .domain 0 .never .free,
   objRow O_ENGINE_CONFIG_DIGEST .u64 0 .never .free,
   objRow O_WINDOWS_LAUNCHED .u64 0 .never .free,
   objRow O_WINDOWS_SHORT_ALL .u64 0 .never .free,
   objRow O_ARITH_CYCLES_ALL .u64 0 .never .free,
   objRow O_UPTIME_BEATS .u64 0 .never .free,
   objRow O_NOTICE_ENABLE .u8 1 .any (.mask 0x3),
   objRow O_NOTICE_EID .u8 1 .any .free,
   objRow O_NOTICE_NODE .u16 1 .any .free,
   objRow O_NOTICES_SENT .u64 0 .never .free,
   objRow O_LATCH_CTRL .u8 1 .any (.action 1),
   objRow O_LATCH_BEAT .u64 0 .never .free,
   objRow O_LATCH_MODE .bool 1 .any .free,
   objRow O_POWER_MW .u32 0 .never .free,
   objRow O_POWER_PEAK_MW .u32 0 .never .free,
   objRow O_CORE_MV .u16 0 .never .free,
   objRow O_CORE_CURRENT_A .u16 0 .never .free,
   objRow O_VAON_MW .u16 0 .never .free,
   objRow O_TEMP_MAX .i32 0 .never .free,
   objRow O_TEMP_REGION .domain 0 .never .free,
   objRow O_THROTTLE_BEATS .u64 0 .never .free]

/-- Rows of the object tables. -/
def objTable6 : List (Nat × ObjInfo) :=
  [objRow O_TILE_ITEMS .u64 0 .never .free,
   objRow O_TILE_ARITH_CYCLES .u64 0 .never .free,
   objRow O_TILE_REPLAYS .u64 0 .never .free,
   objRow O_TILE_SPARES_USED .u8 0 .never .free,
   objRow O_TILE_FU_RESULTS .u64 0 .never .free,
   objRow O_TILE_STATE .u8 0 .never .free,
   objRow O_REG_ITEMS_POSTED .u64 0 .never .free,
   objRow O_REG_LIST_DEPTH_PEAK .u32 0 .never .free,
   objRow O_REG_TILES_ACTIVE .u8 0 .never .free,
   objRow O_PORT_BYTES_READ .u64 0 .never .free,
   objRow O_PORT_BYTES_WRITTEN .u64 0 .never .free,
   objRow O_PORT_ECC_CORRECTED .u64 0 .never .free,
   objRow O_PORT_COPY_BYTES .u64 0 .never .free,
   objRow O_HA_BYTES_IN .u64 0 .never .free,
   objRow O_HA_BYTES_OUT .u64 0 .never .free,
   objRow O_HA_RETRIES .u64 0 .never .free,
   objRow O_HA_MAILBOX_REQUESTS .u64 0 .never .free,
   objRow O_CORE_DESCRIPTORS .u64 0 .never .free,
   objRow O_CORE_DICT_SERVED .u64 0 .never .free,
   objRow O_CORE_BUSY_TICKS .u64 0 .never .free,
   objRow O_CTX_STATE .u8 0 .never .free,
   objRow O_CTX_CTRL .u8 2 .cond (.action 7),
   objRow O_PRIOR_STATE .u8 0 .never .free,
   objRow O_LAST_REFUSAL .domain 0 .never .free,
   objRow O_REFUSAL_COUNT .u64 0 .never .free,
   objRow O_SQ_FLAGS .u32 1 (.states 0xFE) (.flags 0x7),
   objRow O_HALT_CAUSE .u8 0 .never .free,
   objRow O_SCORE_FN .u8 2 (.states 0x02) (.set [0, 1] 0x12),
   objRow O_EXPERT_COUNT .u16 2 (.states 0x02) (.range 1 8192),
   objRow O_TOP_K .u8 2 (.states 0x02) (.range 1 16),
   objRow O_RACK_LIMIT .u8 2 (.states 0x02) (.range 1 8),
   objRow O_RACK_MARGIN .f32 2 (.states 0x02) (.f32 0x00000000 0x3F800000),
   objRow O_GATE_NORM .u8 2 (.states 0x02) (.set [0, 1] 0x12),
   objRow O_ROUTE_SCALE .f32 2 (.states 0x02) (.f32pos 0x42800000),
   objRow O_SPRINKLE_AMP .f32 2 (.states 0x26) (.f32 0x00000000 0x3F000000),
   objRow O_RENORM_ON_LOSS .bool 2 (.states 0x02) .free,
   objRow O_EXPERT_ENABLE .domain 2 (.states 0x2E) .free,
   objRow O_HIDDEN_WIDTH .u16 2 (.states 0x02) (.mult 128 128 16384),
   objRow O_INNER_WIDTH .u16 2 (.states 0x02) (.mult 128 128 8192),
   objRow O_DISPATCH_FMT .u8 2 (.states 0x02) (.fmt [0, 4, 0x24, 0x28])]

/-- Rows of the object tables. -/
def objTable7 : List (Nat × ObjInfo) :=
  [objRow O_BWD_DISPATCH_FMT .u8 2 (.states 0x02) (.fmt [4, 8, 0x14, 0x18]),
   objRow O_LEDGER_KEEP .u16 2 (.states 0x22) .free,
   objRow O_EXCHANGE_MODE .u8 2 (.states 0x02) (.set [0, 1] 0x13),
   objRow O_RETURN_FMT .u8 2 (.states 0x02) (.fmt [0x30, 0, 4]),
   objRow O_BWD_RETURN_FMT .u8 2 (.states 0x02) (.fmt [0x30, 0x14]),
   objRow O_EXCHANGE_GROUP .u16 2 (.states 0x02) (.range 0 4095),
   objRow O_RESERVE_CHECK .bool 2 (.states 0x02) .free,
   objRow O_LANDING_CREDITS .u16 2 (.states 0x02) (.range 64 4096),
   objRow O_FLOWS_ACTIVE .u16 2 (.states 0x02) (.range 8 1024),
   objRow O_RESERVE .u64 0 .never .free,
   objRow O_WINDOWS_OPEN_MAX .u8 2 (.states 0x02) (.range 2 16),
   objRow O_ACT_FN .u8 2 (.states 0x02) (.set [0, 1, 2, 3, 4] 0x13),
   objRow O_INTER_FMT .u8 2 (.states 0x02) (.fmt [4, 8, 0x24, 0x28]),
   objRow O_EARLY_START .bool 2 (.states 0x02) .free,
   objRow O_SPLIT_K_MAX .u8 2 (.states 0x02) (.range 1 8),
   objRow O_RETAIN_MODE .u8 2 (.states 0x02) (.set [0, 1, 2] 0x12),
   objRow O_RETAIN_KEEP .u16 2 (.states 0x22) (.range 0 1024),
   objRow O_STAGE_SETS .u8 2 (.states 0x02) (.range 0 4),
   objRow O_LOOP_TRIP_MAX .u32 2 (.states 0x22) (.range 1 65536),
   objRow O_ROW_STATS .u8 2 (.states 0x02) (.set [0, 1, 2] 0x13),
   objRow O_NORM_EPS .f32 2 (.states 0x02) (.f32 0x1F800000 0x3F800000),
   objRow O_RESIDUAL_ADD .bool 2 (.states 0x02) .free,
   objRow O_ROUTER_GRAD .u8 2 (.states 0x02) (.set [0, 1] 0x13),
   objRow O_LOGIT_GRAD_FMT .u8 2 (.states 0x02) (.fmt [0x70, 0x30]),
   objRow O_CAPACITY_FACTOR .u8 2 (.states 0x02) (.range 16 64),
   objRow O_OVERFLOW_MODE .u8 2 (.states 0x02) (.set [0, 1] 0x12),
   objRow O_SPILL_PASSES .u8 2 (.states 0x02) (.range 1 4),
   objRow O_WINDOW_TOKENS_MAX .u32 2 (.states 0x02) (.range 1 65536),
   objRow O_DROP_ALERT_LEVEL .u32 1 (.states 0x2E) .free,
   objRow O_COPIES_REQUESTED .u64 0 .never .free,
   objRow O_COPIES_KEPT .u64 0 .never .free,
   objRow O_COPIES_DROPPED .u64 0 .never .free,
   objRow O_COPIES_SPILLED .u64 0 .never .free,
   objRow O_ROWS_EMPTY_COUNT .u64 0 .never .free,
   objRow O_ROWS_SHORT_COUNT .u64 0 .never .free,
   objRow O_LOGIT_INVALID_COUNT .u64 0 .never .free,
   objRow O_PUB_STEP .u64 0 .never .free,
   objRow O_STEP_REQUESTED .domain 0 .never .free,
   objRow O_STEP_KEPT .domain 0 .never .free,
   objRow O_STEP_DROPPED .domain 0 .never .free]

/-- Rows of the object tables. -/
def objTable8 : List (Nat × ObjInfo) :=
  [objRow O_STEP_SPILL_IN .domain 0 .never .free,
   objRow O_ROUTE_FLAGS .u32 1 (.states 0xFE) (.flags 0x1F),
   objRow O_EXPERT_MAP .domain 2 (.states 0x2E) .free,
   objRow O_MAP_VERSION .u32 0 .never .free,
   objRow O_CARAMEL_MODE .u8 1 (.states 0x2E) (.set [0, 1, 2] 0x12),
   objRow O_CARAMEL_STATE .u8 0 .never .free,
   objRow O_ETA .u16 2 (.states 0x22) (.range 1 4096),
   objRow O_BIAS_CLAMP .u32 2 (.states 0x22) (.range 1 65536),
   objRow O_SETTLE_TOL .u16 2 (.states 0x22) (.range 1 256),
   objRow O_SETTLE_STEPS .u16 2 (.states 0x22) (.range 1 1024),
   objRow O_MAX_STEPS .u32 2 (.states 0x22) (.range 1 1048576),
   objRow O_SCOPE .u8 2 (.states 0x22) (.set [0, 1] 0x12),
   objRow O_CARAMEL_GROUP .u16 2 (.states 0x22) (.range 0 4095),
   objRow O_BIAS .domain 2 (.states 0x22) .free,
   objRow O_STEPS_RUN .u32 0 .never .free,
   objRow O_LAST_SPREAD .u32 0 .never .free,
   objRow O_SKIPPED_STEPS .u32 0 .never .free,
   objRow O_FAR_MULT .u8 2 (.states 0x22) (.range 2 16),
   objRow O_BOOST .u8 2 (.states 0x22) (.range 1 16),
   objRow O_CARAMEL_WAIT_BEATS .u64 0 .never .free,
   objRow O_DET_LEVEL .u8 2 (.states 0x02) (.set [0, 1, 2] 0x12),
   objRow O_SEED .u64 2 (.states 0x22) .free,
   objRow O_STEP .u64 0 .never .free,
   objRow O_ANCHOR_GRID .u16 2 (.states 0x22) (.range 1 4096),
   objRow O_STEP_ANCHOR .u64 0 .never .free,
   objRow O_DET_FLAGS .u32 1 (.states 0xFE) (.flags 0x7),
   objRow O_LAUNCH_LATE_COUNT .u64 0 .never .free,
   objRow O_LAUNCH_SLIP_COUNT .u64 0 .never .free,
   objRow O_SR_ENABLE .u8 2 (.states 0x02) (.range 0 7),
   objRow O_ESCAPE_THRESHOLD .f32 2 (.states 0x02) (.f32 0x40000000 0x44800000),
   objRow O_ESCAPE_DISPATCH .bool 2 (.states 0x02) .free,
   objRow O_SAT_ALERT_LEVEL .u32 1 (.states 0x2E) .free,
   objRow O_LS_PAGES .domain 2 (.states 0x02) .free,
   objRow O_HBM_EXTENTS .domain 2 (.states 0x02) .free,
   objRow O_REGIONS .domain 2 (.states 0x22) .free,
   objRow O_DESC_AREA .u8 2 (.states 0x02) .special,
   objRow O_DESC_MAX .u32 0 .never .free,
   objRow O_DESC_WRITE .domain 2 (.states 0x2E) .free,
   objRow O_STAGE_REGION .u8 2 (.states 0x02) .special,
   objRow O_BIND_INPUT .u16 2 (.states 0x02) .free]

/-- Rows of the object tables. -/
def objTable9 : List (Nat × ObjInfo) :=
  [objRow O_BIND_SEND .u16 2 (.states 0x02) .free,
   objRow O_BIND_LANDING .u16 2 (.states 0x02) .free,
   objRow O_BIND_RELAY .u16 2 (.states 0x02) .free,
   objRow O_BIND_RETURN .u16 2 (.states 0x02) .free,
   objRow O_BIND_LEDGER .u16 2 (.states 0x02) .free,
   objRow O_BIND_RETENTION .u16 2 (.states 0x02) .free,
   objRow O_BIND_COLLECTIVE .u16 2 (.states 0x02) .free,
   objRow O_SRC_WINDOWS .domain 2 (.states 0x22) .free,
   objRow O_SRC_WINDOW_COUNT .u8 0 .never .free,
   objRow O_RING_BASE .u64 2 (.states 0x02) .special,
   objRow O_RING_ENTRIES .u16 2 (.states 0x02) (.pow2 16 4096),
   objRow O_RING_POLL_TICKS .u16 2 (.states 0x2E) (.pow2 1 256),
   objRow O_RING_CTRL .u8 2 .cond (.action 3),
   objRow O_RING_STATE .u8 0 .never .free,
   objRow O_CONSUMER .u32 0 .never .free,
   objRow O_COMPLETED .u32 0 .never .free,
   objRow O_LOOP_DEPTH .u8 0 .never .free,
   objRow O_COMMANDS_ISSUED .u64 0 .never .free,
   objRow O_POLLS .u64 0 .never .free,
   objRow O_POLL_DEFERRED .u64 0 .never .free,
   objRow O_WINDOW_DIGEST .u64 0 .never .free,
   objRow O_WINDOW_DIGEST_TAG .u32 0 .never .free,
   objRow O_STEP_DIGEST .u64 0 .never .free,
   objRow O_PREV_STEP_DIGEST .u64 0 .never .free,
   objRow O_RET_SENT_STEP .u64 0 .never .free,
   objRow O_RET_SENT_PREV .u64 0 .never .free,
   objRow O_RET_ACC_STEP .u64 0 .never .free,
   objRow O_RET_ACC_PREV .u64 0 .never .free,
   objRow O_SNAP_COUNT .u32 0 .never .free,
   objRow O_SNAP_RING .domain 0 .never .free,
   objRow O_DEADLINE_BEATS .u16 2 (.states 0x2E) (.range 8 65535),
   objRow O_LATE_ANSWERS .u64 0 .never .free,
   objRow O_WINDOWS_SHORT .u64 0 .never .free,
   objRow O_DEADLINE_MISS_COUNT .u64 0 .never .free,
   objRow O_LAST_SHORT_TAG .u32 0 .never .free,
   objRow O_ADMISSION_DEFERRED_BEATS .u64 0 .never .free,
   objRow O_WINDOW_HOLD_BEATS .u64 0 .never .free,
   objRow O_CRUMB_DEPTH .u16 2 (.states 0x02) (.range 8 1024),
   objRow O_CRUMB_HOLD_BEATS .u32 2 (.states 0x22) (.range 1024 16777216),
   objRow O_CRUMB_ENTRIES .u16 0 .never .free]

/-- Rows of the object tables. -/
def objTable10 : List (Nat × ObjInfo) :=
  [objRow O_CRUMB_HITS .u64 0 .never .free,
   objRow O_ORPHANS .u64 0 .never .free,
   objRow O_CRUMB_EVICTED .u64 0 .never .free,
   objRow O_CRUMB_LIST .domain 0 .never .free,
   objRow O_SLOT_TABLE_AREA .u8 2 (.states 0x02) .special,
   objRow O_LAYER_SLOTS .u16 2 (.states 0x02) (.range 1 1024),
   objRow O_SLOT_ENTRY_WRITE .domain 2 (.states 0xFE) .free,
   objRow O_ACTIVE_SLOT .u8 0 .never .free,
   objRow O_SLOT_STATE .domain 0 .never .free,
   objRow O_SWITCH_SEQ .u32 0 .never .free,
   objRow O_SLOT_SWITCHES .u64 0 .never .free,
   objRow O_GROUP_AREA .u8 2 (.states 0x02) .special,
   objRow O_COLL_TIMEOUT_BEATS .u32 2 (.states 0x22) (.range 64 16777216),
   objRow O_COLL_STATE .u8 0 .never .free,
   objRow O_COLL_LAST_RESULT .domain 0 .never .free,
   objRow O_FLAG_SUMMARY .u32 0 .never .free,
   objRow O_CTX_MATCH_DIGEST .u64 0 .never .free,
   objRow O_NUMERIC_FLAGS .u32 1 (.states 0xFE) (.flags 0xF),
   objRow O_SAT_COUNT_FWD .u64 0 .never .free,
   objRow O_SAT_COUNT_WGT .u64 0 .never .free,
   objRow O_SAT_COUNT_GRAD .u64 0 .never .free,
   objRow O_NAN_COUNT .u64 0 .never .free,
   objRow O_SCALE_INVALID_COUNT .u64 0 .never .free,
   objRow O_TERNARY_INVALID_COUNT .u64 0 .never .free,
   objRow O_ESCAPE_CAPPED_COUNT .u64 0 .never .free,
   objRow O_AMAX_FWD_STEP .f32 0 .never .free,
   objRow O_AMAX_FWD_PREV .f32 0 .never .free,
   objRow O_AMAX_GRAD_STEP .f32 0 .never .free,
   objRow O_AMAX_GRAD_PREV .f32 0 .never .free,
   objRow O_RECORDS_BUILT .u64 0 .never .free,
   objRow O_COPIES_MERGED .u64 0 .never .free,
   objRow O_CONT_RECORDS .u64 0 .never .free,
   objRow O_WIRE_BYTES .u64 0 .never .free,
   objRow O_LOOPBACK_RECORDS .u64 0 .never .free,
   objRow O_POOL_WAIT_BEATS .u64 0 .never .free,
   objRow O_LEDGER_EVICTED .u64 0 .never .free,
   objRow O_EXCHANGE_FLAGS .u32 1 (.states 0xFE) (.flags 0x3F),
   objRow O_RECORDS_SENT .u64 0 .never .free,
   objRow O_RECORDS_RELAYED .u64 0 .never .free,
   objRow O_RECORDS_LANDED .u64 0 .never .free]

/-- Rows of the object tables. -/
def objTable11 : List (Nat × ObjInfo) :=
  [objRow O_RETURNS_SENT .u64 0 .never .free,
   objRow O_UNSENT_RECORDS .u64 0 .never .free,
   objRow O_MARKERS_MISSING .u64 0 .never .free,
   objRow O_LATE_RECORDS_RX .u64 0 .never .free,
   objRow O_CREDIT_WAIT_BEATS .u64 0 .never .free,
   objRow O_STREAM_GAP_COUNT .u64 0 .never .free,
   objRow O_FOREIGN_RECORDS .u64 0 .never .free,
   objRow O_MISROUTED_COPIES .u64 0 .never .free,
   objRow O_EF_FLAGS .u32 1 (.states 0xFE) (.flags 0xF),
   objRow O_ITEMS_RUN .u64 0 .never .free,
   objRow O_GROUPS_RUN .u64 0 .never .free,
   objRow O_ARITH_CYCLES .u64 0 .never .free,
   objRow O_PAD_ROWS .u64 0 .never .free,
   objRow O_ITEMS_SKIPPED .u64 0 .never .free,
   objRow O_SPLIT_K_ITEMS .u64 0 .never .free,
   objRow O_STAGE_MISSES .u64 0 .never .free,
   objRow O_STAGE_WAIT_BEATS .u64 0 .never .free,
   objRow O_RETAIN_EVICTED .u64 0 .never .free,
   objRow O_RETAIN_ABSENT_COUNT .u64 0 .never .free,
   objRow O_GROUP_INVALID_COUNT .u64 0 .never .free,
   objRow O_LOOP_ITERATIONS .u64 0 .never .free,
   objRow O_FU_FLAGS .u32 1 (.states 0xFE) (.flags 0x1),
   objRow O_FU_RESULTS .u64 0 .never .free,
   objRow O_FU_SLOW_PATH .u64 0 .never .free,
   objRow O_FU_STALL_CYCLES .u64 0 .never .free,
   objRow O_STAT_INVALID_ROWS .u64 0 .never .free,
   objRow O_CB_FLAGS .u32 1 (.states 0xFE) (.flags 0x7),
   objRow O_RETURNS_MATCHED .u64 0 .never .free,
   objRow O_RETURNS_UNMATCHED .u64 0 .never .free,
   objRow O_RETURNS_DUPLICATE .u64 0 .never .free,
   objRow O_ROWS_COMBINED .u64 0 .never .free,
   objRow O_ROWS_SHORT_COMBINED .u64 0 .never .free,
   objRow O_ROWS_RENORMALISED .u64 0 .never .free,
   objRow O_COMBINE_TAIL_CYCLES .u64 0 .never .free,
   objRow O_MEM_FLAGS .u32 1 (.states 0xFE) (.flags 0xF),
   objRow O_REFCOUNT_FAULTS .u64 0 .never .free,
   objRow O_CLAMPED_COORDS .u64 0 .never .free,
   objRow O_COPY_BYTES .u64 0 .never .free,
   objRow O_DESC_REFUSED .u64 0 .never .free,
   objRow O_FABRIC_CTX_FLAGS .u32 1 (.states 0xFE) (.flags 0x1F)]

/-- Rows of the object tables. -/
def objTable12 : List (Nat × ObjInfo) :=
  [objRow O_REMOTE_LOADS .u64 0 .never .free,
   objRow O_REMOTE_WRITES .u64 0 .never .free,
   objRow O_COPY_CHUNKS .u64 0 .never .free,
   objRow O_WINDOW_VIOLATIONS .u64 0 .never .free,
   objRow O_LOST_WRITES .u64 0 .never .free,
   objRow O_LATE_RESPONSES .u64 0 .never .free,
   objRow O_FLAG_HOLD_BEATS .u64 0 .never .free,
   objRow O_REROUTED .u64 0 .never .free,
   objRow O_COLL_FLAGS .u32 1 (.states 0xFE) (.flags 0x7),
   objRow O_COLLECTIVES_RUN .u64 0 .never .free,
   objRow O_COLL_ABORTS .u64 0 .never .free,
   objRow O_COLL_WAIT_BEATS .u64 0 .never .free,
   objRow O_WEIGHT_FLAGS .u32 1 (.states 0xFE) (.flags 0xF),
   objRow O_INTAKE_BYTES_IN .u64 0 .never .free,
   objRow O_INTAKE_BYTES_OUT .u64 0 .never .free,
   objRow O_SLOT_HOLD_BEATS .u64 0 .never .free,
   objRow O_COLD_BYTES .u64 0 .never .free]

/-- The object tables, in ascending key order. -/
def objTable : List (Nat × ObjInfo) :=
  objTable0 ++ objTable1 ++ objTable2 ++ objTable3 ++ objTable4 ++ objTable5 ++ objTable6 ++ objTable7 ++ objTable8 ++ objTable9 ++ objTable10 ++ objTable11 ++ objTable12

/-- Defaults of scalar objects that are not 0. -/
def objDefaults : List (Nat × Nat) :=
  [(O_BLOCK_RELEASE, 0x204),
   (O_CONTEXTS, 0x400),
   (O_LINKS, 0xC),
   (O_HBM_PORTS, 0x4),
   (O_HA_MODULES, 0x8),
   (O_MGMT_VERSIONS, 0x3),
   (O_SMBUS_ADDR, 0x4A),
   (O_SMBUS_ENABLE, 0x1),
   (O_MAILBOX_POLL_TICKS, 0x4),
   (O_ARITH_CLOCK_MHZ, 0xE10),
   (O_SPINE_CLOCK_MHZ, 0x708),
   (O_TILES_ACTIVE, 0x140),
   (O_REGIONS_ACTIVE, 0x1F),
   (O_HOST_MEM_MODULES, 0xFF),
   (O_POWER_CAP_W, 0x4B0),
   (O_THERM_THROTTLE_C, 0x5F),
   (O_BEAT_UPLINK, 0xFF),
   (O_HOLDOVER_LIMIT, 0x400),
   (O_BEAT_SKEW_LIMIT, 0x8),
   (O_RETIRE_LIMIT, 0x2),
   (O_RETIRE_WINDOW, 0x100000),
   (O_RESIDUE_ENABLE, 0x1),
   (O_FREE_PAGES, 0x1E00),
   (O_OWNER_CONTEXT, 0xFFFF),
   (O_BUF_SIZE_LOG2, 0x10),
   (O_AMBER_PCT, 0x19),
   (O_RED_PCT, 0xA),
   (O_BLACK_PCT, 0x2),
   (O_NODE_ID, 0xFFFF),
   (O_TORUS_X, 0x1),
   (O_TORUS_Y, 0x1),
   (O_LINK_ENABLE, 0xFFF),
   (O_PEER_ID, 0xFFFF),
   (O_REMOTE_TIMEOUT, 0x100),
   (O_HOT_DEPTH, 0x40),
   (O_GROUP_OWNER, 0xFFFF),
   (O_PARTNER_NODE, 0xFFFF),
   (O_HANDBACK_CONTEXT, 0xFFFF),
   (O_MIRROR_LAG_LIMIT, 0x4),
   (O_SCRUB_ENABLE, 0x3),
   (O_LS_SCRUB_PERIOD_MS, 0x10),
   (O_HBM_SCRUB_PERIOD_S, 0x8),
   (O_OWNER_SLOTS_LEFT, 0x4),
   (O_DEBUG_TIMEOUT_S, 0xE10),
   (O_NEWEST_SLOT, 0xFF),
   (O_RESTORE_CONTEXT, 0xFFFF),
   (O_INTAKE_HA_MIN, 0x19),
   (O_NOTICE_NODE, 0xFFFF)]
  ++
  [(O_TOP_K, 0x1),
   (O_RACK_LIMIT, 0x8),
   (O_ROUTE_SCALE, 0x3F800000),
   (O_BWD_DISPATCH_FMT, 0x14),
   (O_RETURN_FMT, 0x30),
   (O_BWD_RETURN_FMT, 0x30),
   (O_RESERVE_CHECK, 0x1),
   (O_LANDING_CREDITS, 0x100),
   (O_FLOWS_ACTIVE, 0x80),
   (O_WINDOWS_OPEN_MAX, 0x2),
   (O_ACT_FN, 0x1),
   (O_INTER_FMT, 0x28),
   (O_EARLY_START, 0x1),
   (O_SPLIT_K_MAX, 0x4),
   (O_STAGE_SETS, 0x2),
   (O_LOOP_TRIP_MAX, 0x2000),
   (O_NORM_EPS, 0x35800000),
   (O_LOGIT_GRAD_FMT, 0x70),
   (O_CAPACITY_FACTOR, 0x10),
   (O_SPILL_PASSES, 0x2),
   (O_WINDOW_TOKENS_MAX, 0x1000),
   (O_ETA, 0x10),
   (O_BIAS_CLAMP, 0x1000),
   (O_SETTLE_TOL, 0x20),
   (O_SETTLE_STEPS, 0x20),
   (O_MAX_STEPS, 0x1000),
   (O_SCOPE, 0x1),
   (O_FAR_MULT, 0x4),
   (O_BOOST, 0x4),
   (O_ANCHOR_GRID, 0x8),
   (O_ESCAPE_THRESHOLD, 0x41000000),
   (O_ESCAPE_DISPATCH, 0x1),
   (O_DESC_AREA, 0xFF),
   (O_STAGE_REGION, 0xFF),
   (O_BIND_INPUT, 0xFFFF),
   (O_BIND_SEND, 0xFFFF),
   (O_BIND_LANDING, 0xFFFF),
   (O_BIND_RELAY, 0xFFFF),
   (O_BIND_RETURN, 0xFFFF),
   (O_BIND_LEDGER, 0xFFFF),
   (O_BIND_RETENTION, 0xFFFF),
   (O_BIND_COLLECTIVE, 0xFFFF),
   (O_RING_ENTRIES, 0x100),
   (O_RING_POLL_TICKS, 0x10),
   (O_DEADLINE_BEATS, 0x40),
   (O_CRUMB_DEPTH, 0x40),
   (O_CRUMB_HOLD_BEATS, 0x10000),
   (O_SLOT_TABLE_AREA, 0xFF),
   (O_LAYER_SLOTS, 0x1),
   (O_SWITCH_SEQ, 0xFFFFFFFF),
   (O_GROUP_AREA, 0xFF),
   (O_COLL_TIMEOUT_BEATS, 0x1000)]

/-- The index of an instance brought to that of instance 0: contexts, pools, links, tiles, regions, HBM ports, HA modules
and sequencer cores (R432, R433). -/
def normIndex (i : Nat) : Nat :=
  if 0x8000 ≤ i && i < 0xC000 then 0x8000 + i % 16
  else if 0x2400 ≤ i && i ≤ 0x24FF then 0x2400
  else if 0x2510 ≤ i && i ≤ 0x251B then 0x2510
  else if 0x3100 ≤ i && i ≤ 0x323F then 0x3100
  else if 0x3300 ≤ i && i ≤ 0x3304 then 0x3300
  else if 0x3400 ≤ i && i ≤ 0x3403 then 0x3400
  else if 0x3410 ≤ i && i ≤ 0x3417 then 0x3410
  else if 0x3420 ≤ i && i ≤ 0x3423 then 0x3420
  else i

/-- The key of the table row that describes an object. -/
def normKey (k : Nat) : Nat := normIndex (k / 256) * 256 + k % 256

/-- The row that describes an object, if it is present (R412, R426 order 1). -/
def objInfo (k : Nat) : Option ObjInfo :=
  if k % 256 == 0 then
    if objTable.any (fun r => r.1 / 256 == normIndex (k / 256)) then some ⟨.u8, 0, .never, .free⟩ else none
  else (objTable.find? (fun r => r.1 == normKey k)).map (·.2)

/-- The highest sub-index of an index (R412). -/
def highestSub (i : Nat) : Nat :=
  objTable.foldl (fun m r => if r.1 / 256 == normIndex i then max m (r.1 % 256) else m) 0

/-- The default of a scalar object (the Default column; 0 where the column gives none). -/
def objDefault (k : Nat) : Nat :=
  match objDefaults.find? (fun r => r.1 == normKey k) with
  | some r => r.2
  | none => 0

/-- The key of a context object: `k` is the key of context 0 (R433). -/
def ctxKey (c k : Nat) : Nat := k + c * 4096

/-- The key of an object of unit `u`: `k` is the key of unit 0. -/
def unitKey (u k : Nat) : Nat := k + u * 256

/-- Bytes of a type (R413); 0 for STR and DOMAIN. -/
def ObjType.len : ObjType → Nat
  | .bool => 1
  | .u8 => 1
  | .u16 => 2
  | .u32 => 4
  | .u64 => 8
  | .i32 => 4
  | .f32 => 4
  | .str => 0
  | .domain => 0

/-- Type codes (R413). -/
def ObjType.code : ObjType → Nat
  | .bool => 1
  | .u8 => 2
  | .u16 => 3
  | .u32 => 4
  | .u64 => 5
  | .i32 => 6
  | .f32 => 7
  | .str => 8
  | .domain => 9

end Sys2Proof.Machine
end

