-- ==== Sys2Proof/Machine/State.lean ====
section
/-! DEFINITION. What the block holds: every register, table, queue, buffer, counter and pin that the manual gives the
engine, as plain data, and the machine right after reset.

The scalar objects of the dictionary (BOOL, U8 to U64, I32, F32) live in one store, `objs`, keyed by
index × 256 + sub-index and holding the value as an unsigned number; an object that the store does not list holds its
default (the tables of the manual, Machine/Objects.lean). Everything with more structure has a field of its own.
The tables `Tbl` are sparse: a key that is not listed holds the table's default (`Ctx.init`, `Pool.init`, ...). -/

namespace Sys2Proof.Machine

open Sys2Proof

/-- A registered region (R281). `kind`: 0 LINEAR, 1 DIAGONAL, 2 ENGINE. -/
structure Region where
  base : Nat
  len : Nat
  kind : Nat
deriving DecidableEq, Repr

/-- A source window (R340). -/
structure SrcWindow where
  nodeFirst : Nat
  nodeLast : Nat
  space : Nat
  perm : Nat
  offset : Nat
  length : Nat
deriving DecidableEq, Repr

/-- What the engine keeps of a weight-slot entry beside its image in memory (R365, R366): the entry's place in the
table, and which of its parts an intake has written since the slot left READY (R372, R374). -/
structure SlotMark where
  pos : Nat
  guDone : Bool
  downDone : Bool
deriving DecidableEq, Repr

/-- A node-table entry (R114). -/
structure NodeEntry where
  node : Nat
  relay : Bool
  first : Nat
  count : Nat
  units : Nat
  alt : Bool
deriving DecidableEq, Repr

/-- A dispatch flow of a window (R131): the flits and whole records injected so far, whether its marker has left,
whether it was stopped (R151, R153), and the flits that landing credit has covered (R149). -/
structure Flow where
  node : Nat
  relay : Bool
  first : Nat
  count : Nat
  flits : Nat
  sent : Nat
  markerSent : Bool
  stopped : Bool
  covered : Nat
deriving DecidableEq, Repr

/-- A slot of a window's return area (R139) that holds an answer: `data` is its payload, `dg` the gate gradient of a
backward return (R234). -/
structure RetSlot where
  token : Nat
  pos : Nat
  fmt : Nat
  tscale : Nat
  data : Bytes
  dg : Nat
deriving DecidableEq, Repr

/-- The quantised payloads of a window (R111): FORMAT byte, tensor scale, escape channels by slab, payload per token. -/
structure Quant where
  fmt : Nat
  tscale : Nat
  escapes : List (List Nat)
  payloads : List Bytes
deriving DecidableEq, Repr

/-- Where a window stands between issue and the end of its descriptor (R13, R539). -/
inductive WinPhase where
  /-- Issued, not launched: waiting for its beat, the grid or admission. -/
  | issued
  /-- Launched; stage 1. -/
  | launched
  /-- Logits present; stage 2. -/
  | scored
  /-- Choices made; stage 3. -/
  | selected
  /-- Send list handed to XE; stages 4 to 7. -/
  | sorted
  /-- Flows started. -/
  | sending
  /-- Closed; rows still to be formed (R229) or delivered. -/
  | closed
deriving DecidableEq, Repr

/-- An open window, forward or backward, or one that has closed and whose descriptor has not ended (R9, R539). `mark` is
the serial of the STEP_MARK whose step it belongs to (R253). -/
structure Window where
  tag : Nat
  bwd : Bool
  idx : Nat
  layerSlot : Nat
  mb : Nat
  step : Nat
  mark : Nat
  tokens : Nat
  inAddr : Nat
  outAddr : Nat
  statsAddr : Nat
  maskAddr : Nat
  summaryAddr : Nat
  dzAddr : Nat
  scoreAddr : Nat
  hostmap : Nat
  issuedBeat : Nat
  /-- The beat at which it would launch under R11, before any grid. -/
  readyBeat : Nat
  /-- The beat a LAUNCH_AT named for it (R255). -/
  launchAt : Option Nat
  /-- The beat at which it is due: `readyBeat`, or the grid beat of R259. -/
  dueBeat : Nat
  launched : Option Nat
  deadline : Nat
  deferred : Bool
  phase : WinPhase
  slot : Nat
  /-- The values kept from the launch beat (R73, R79), `dark` the nodes then in bypass (R100). -/
  map : List Nat
  dark : List Nat
  enable : Nat
  sprinkle : Nat
  bias : Option (List Int)
  rows : List (List Nat)
  logits : List (List Nat)
  quant : Option Quant
  spillPasses : Nat
  ledger : Option Ledger
  headers : List RecHeader
  nodeTable : List NodeEntry
  flows : List Flow
  ret : List RetSlot
  outRows : List (Nat × Bytes)
  statRows : List (Nat × Bytes)
  dzRows : List (Nat × Bytes)
  closedShort : Bool
deriving DecidableEq, Repr

/-- A source's flow at a destination (R134, R135): records landed, the count its marker gave, and whether a close notice
has removed it (R148). `seen` counts the records that have reached this engine, discarded ones among them. -/
structure SrcFlow where
  src : Nat
  landed : Nat
  seen : Nat
  marker : Option Nat
  closed : Bool
deriving DecidableEq, Repr

/-- A landed copy (R166): one row of a group, from copy entry `entry` of record `recIdx` of the part, with its FP32 gate
weight. `block` is the number of the row block that holds it; `gone` when no return is sent for it (R148, R179), `live`
while it still holds its record's landing buffer. -/
structure LandedRow where
  expert : Nat
  gate : Nat
  recIdx : Nat
  entry : Nat
  block : Option Nat
  gone : Bool
  live : Bool
deriving DecidableEq, Repr

/-- A row block of a group (R170), or a rectangle of 128 rows of a weight gradient (R184; `kind` 5 or 7, 0 otherwise).
`rows` are positions in the part's row list (for a GROUPED_OP, rows of A); `phase` is the phase it is in, 8 once it is
abandoned (R179) and 9 once its rows have been handed over; `left` are the items of that phase not yet committed. `acc` is
the product that the items of the phase form, as FP32 codes; γ and υ in BF16 (`gate`, `up`), H (`h`), dY · W_downᵀ (`u`) and
dZ (`dz`) are kept from phase to phase as FP32 codes. -/
structure RowBlock where
  kind : Nat
  expert : Nat
  rb : Nat
  region : Nat
  rows : List Nat
  height : Nat
  width : Nat
  phase : Nat
  left : Nat
  started : Bool
  acc : List (List Nat)
  gate : List (List Nat)
  up : List (List Nat)
  h : List (List Nat)
  u : List (List Nat)
  dz : List (List Nat)
deriving DecidableEq, Repr

/-- A window's part at a destination (R134): one per batch tag and direction. `recs` are the landed records, each with the
node that sent it; the first `joined` of them have had their copies looked at (R166); `horizon` is the beat of R148. `posted` counts the items posted to
each region, `nextBlock` the row blocks (R173), `firstItem` is the first item posted (R463); `groups` are the
completed groups (R190), `added` the addresses of the gradient rectangles that have been added (R185). -/
structure Part where
  tag : Nat
  bwd : Bool
  horizon : Nat
  past : Bool
  flows : List SrcFlow
  recs : List (Record × Nat)
  joined : Nat
  rows : List LandedRow
  blocks : List RowBlock
  posted : List Nat
  nextBlock : Nat
  firstItem : Option Nat
  itemsRun : Nat
  rowsRun : Nat
  complete : Bool
  waitingStage : Bool
  absent : Bool
  groups : List Nat
  added : List Nat
  done : Bool
deriving DecidableEq, Repr

/-- A retained row of a forward window part (R182): where it came from, its payload, and gate and up values under FULL. -/
structure RetainedRow where
  src : Nat
  token : Nat
  expert : Nat
  fmt : Nat
  tscale : Nat
  payload : Bytes
  gate : List Nat
  up : List Nat
deriving DecidableEq, Repr

/-- A retained window part (R182). -/
structure RetainedPart where
  tag : Nat
  slot : Nat
  rows : List RetainedRow
deriving DecidableEq, Repr

/-- A record that a relay makes for one final node (R129): `left` the flits still to be injected, `uncov` the flits of
it that landing credit has not covered. -/
structure RelayOut where
  node : Nat
  record : Record
  left : Nat
  uncov : Nat
deriving DecidableEq, Repr

/-- A received record held at a relay until landing credit covers what it was split into (R130), its length in bytes. -/
structure RelayHeld where
  tag : Nat
  bwd : Bool
  src : Nat
  bytes : Nat
  outs : List RelayOut
deriving DecidableEq, Repr

/-- Landing credits that a receiver owes to a sender (R145): for relayed records or not; `half` when one more flit
at amber completes a pair. -/
structure Owed where
  node : Nat
  relay : Bool
  flits : Nat
  half : Bool
deriving DecidableEq, Repr

/-- What a relay counts for a source's window (R129, R133): records received, what its marker counts, records made for each
node, those of them that have left, the tokens of which a record was made for a node, and whether the forwarded markers
have left or a close notice has ended the flow. -/
structure RelayFlow where
  tag : Nat
  bwd : Bool
  src : Nat
  received : Nat
  marker : Option Nat
  made : List (Nat × Nat)
  tokens : List (Nat × Nat)
  done : Bool
deriving DecidableEq, Repr

/-- What holds later commands of a ring (R395). -/
inductive Hold where
  | launchAt (idx : Nat) (beat : Nat) (late : Bool)
  | waitBeat (idx : Nat) (beat : Nat)
  | fence (idx : Nat) (upTo : Nat)
  | stepMark (idx : Nat) (step : Nat) (beat : Nat) (set : Bool)
  | collective (idx : Nat)
  | gradExport (idx : Nat) (d : Bytes)
  | windowLimit (idx : Nat)
  | stopOnError (idx : Nat)
  | checkpoint (idx : Nat) (beat : Nat)
  /-- A CHECKPOINT whose cut has been taken and whose stage 1 runs (R499). -/
  | stage1 (idx : Nat)
deriving DecidableEq, Repr

/-- A loop that has been entered (R187, R406): descriptors `first` (the LOOP_MEM) to `last` (its END_LOOP). -/
structure LoopFrame where
  first : Nat
  last : Nat
  iter : Nat
  count : Nat
deriving DecidableEq, Repr

/-- A descriptor that has issued and not ended. -/
structure Active where
  idx : Nat
  op : Nat
  stop : Bool
deriving DecidableEq, Repr

/-- The sequencer's side of a command ring (R385 to R406). `fetched` are descriptors read from memory, oldest first, each
with its index. `step` is the step of the last STEP_MARK in ring order (R253). -/
structure Ring where
  fetched : List (Nat × Bytes)
  producer : Nat
  paused : Bool
  onDesc : Bool
  holds : List Hold
  loops : List LoopFrame
  active : List Active
  ended : List Nat
  step : Nat
  stepped : Bool
  afterLaunchAt : Option Nat
  pendingSnaps : List (Nat × Nat)
  pendingCancels : List (Nat × Nat × Nat)
  lostWrite : List Nat
deriving DecidableEq, Repr

/-- A collective in progress on this member (R353 to R364). `phase` is COLL_STATE; `caramel` marks the loop reduction of
R88. -/
structure Coll where
  idx : Nat
  group : Nat
  op : Nat
  ty : Nat
  redOp : Nat
  root : Nat
  count : Nat
  src : Nat
  dst : Nat
  seq : Nat
  phase : Nat
  entered : Nat
  own : Bytes
  entries : List (Nat × CollEntry)
  data : List (Nat × Bytes)
  reported : Bool
  dones : List Nat
  code : Nat
  candidate : Nat
  notices : List (Nat × Nat × Nat)
  abortBeat : Nat
  caramel : Bool
deriving DecidableEq, Repr

/-- A weight intake in progress (R368 to R374): target entry, part, and what is to be written. -/
structure Intake where
  idx : Nat
  pos : Nat
  slot : Nat
  part : Nat
  elems : Bytes
  scales : Bytes
  bytesIn : Nat
  waiting : Bool
  waitFrom : Nat
  digestBad : Bool
deriving DecidableEq, Repr

/-- A GROUPED_OP in progress (R164, R170): its entries as 128-byte images, the width and height of its items, and its row
blocks. `groups` are the entries that have been completed; `out` the finished rows of entries whose C is written whole, by
entry and row, as FP32 codes. -/
structure GroupedJob where
  idx : Nat
  table : List Bytes
  summary : Nat
  postedBeat : Nat
  itemsRun : Nat
  rowsRun : Nat
  blocks : List RowBlock
  posted : List Nat
  firstItem : Option Nat
  groups : List Nat
  out : List (Nat × Nat × List Nat)
deriving DecidableEq, Repr

/-- A FABRIC_COPY in progress (R339): chunks not yet acknowledged, and whether one was lost. -/
structure FabJob where
  idx : Nat
  left : Nat
  lost : Bool
deriving DecidableEq, Repr

/-- Counts of one step on their way to publication (R86). -/
structure StepCounts where
  mark : Nat
  step : Nat
  requested : List Nat
  kept : List Nat
  dropped : List Nat
  spillIn : List Nat
  marked : Bool
  published : Bool
deriving DecidableEq, Repr

/-- A crumb (R220): batch tag and the beat at which it entered. -/
structure Crumb where
  tag : Nat
  beat : Nat
deriving DecidableEq, Repr

/-- A snapshot (R265, R271). -/
structure Snapshot where
  beat : Nat
  position : Nat
  digest : Nat
  sent : Nat
  accepted : Nat
deriving DecidableEq, Repr

/-- A pending slot switch (R375): issued at `idx`, effective at the boundary of `beat`; then S is fixed. -/
structure Switch where
  idx : Nat
  seqOperand : Nat
  beat : Nat
  effective : Bool
  s : Nat
deriving DecidableEq, Repr

/-- A staging set of a context (R167, R168): the weight slot and layer slot it holds, whether it is full, and by expert the
gate-and-up and down elements and scale areas. -/
structure StageSet where
  slot : Nat
  layer : Nat
  full : Bool
  data : List (Nat × List Bytes)
deriving DecidableEq, Repr

/-- What the engine holds of its own windows until they have closed and the horizon of their tag has passed (R538): layer
slot, weight slot once launched, what a part's summary takes from the command (R186), and the saturations of its
conversions here (R59). -/
structure Known where
  tag : Nat
  bwd : Bool
  layerSlot : Nat
  slot : Option Nat
  summary : Nat
  spill : Nat
  mb : Nat
  step : Nat
  mark : Nat
  sats : Nat
deriving DecidableEq, Repr

/-- A context's structured state, beside its scalar objects (R433). `marks` counts the STEP_MARKs that have taken effect. -/
structure Ctx where
  enable : Nat
  map : List Nat
  bias : List Int
  pub : List (List Nat)
  counts : List StepCounts
  caramelDue : List Nat
  caramelReq : Option Nat
  settled : Nat
  lsPages : List Nat
  hbmExtents : List Nat
  regions : List Region
  srcWindows : List SrcWindow
  handles : List Nat
  descImage : Bytes
  slotMarks : List SlotMark
  slotImage : Bytes
  slotStates : List Nat
  switch : Option Switch
  stages : List StageSet
  lastRefusal : Bytes
  collResult : Bytes
  ring : Ring
  seqNext : Nat
  openA : List (Nat × Nat)
  mbCounts : List (Nat × Nat × Nat)
  windows : List Window
  known : List Known
  pollTicks : Nat
  ledgers : List Ledger
  parts : List Part
  retained : List RetainedPart
  relayHeld : List RelayHeld
  relayFlows : List RelayFlow
  credits : List (Nat × Nat)
  owed : List Owed
  landWait : List (Record × Nat)
  crumbs : List Crumb
  snaps : List Snapshot
  coll : Option Coll
  collEarly : List (Nat × CollEntry)
  caramelSums : Option (List Nat)
  intakes : List Intake
  grouped : List GroupedJob
  fabs : List FabJob
  closedEarly : List (Nat × Nat)
  refusedTags : List (Nat × Nat × Nat)
  hasAnchor : Bool
  lastLaunch : Option Nat
  seqTop : Option Nat
  switchSeen : Bool
  marks : Nat
deriving DecidableEq, Repr

/-- A pool's structured state, beside its scalar objects (R283 to R288): buffers held, by holder, with the reference
count of each, and the requests that wait, in order (R286). -/
structure PoolUse where
  ctx : Nat
  tag : Nat
  role : Nat
  buffers : Nat
  refs : Nat
deriving DecidableEq, Repr

/-- A request for pool buffers that waits (R286). `key` is the order key of its window (R140). -/
structure PoolWait where
  ctx : Nat
  tag : Nat
  role : Nat
  key : List Nat
  want : Nat
  got : Nat
  since : Nat
deriving DecidableEq, Repr

/-- A pool (R283). -/
structure Pool where
  uses : List PoolUse
  waits : List PoolWait
deriving DecidableEq, Repr

/-- A collective group (R351). -/
structure Group where
  owner : Nat
  members : Bytes
  active : Bool
  seq : Nat
deriving DecidableEq, Repr

/-- A work item on a region's list (R157, R160): `kind` 0 of a forward window part, 1 of a backward one, 2 of a GROUPED_OP
(`tag` is then the descriptor's index); row block `rb` and column panel `panel` of a group, inner positions `k0` to `k1`
in one of `slices` slices (R174). `key` is its order key; `dealt` the tile it is dealt to in D1 and D2; `tile` the tile
that has started it; `runs` how often in a row it has faulted; `first` the first item of its part (R463). Items that
tiles have started stand behind the others, in the order in which they were started. -/
structure Item where
  id : Nat
  ctx : Nat
  tag : Nat
  kind : Nat
  group : Nat
  rb : Nat
  phase : Nat
  panel : Nat
  h : Nat
  w : Nat
  cost : Nat
  k0 : Nat
  k1 : Nat
  slices : Nat
  key : List Nat
  region : Nat
  dealt : Option Nat
  tile : Option Nat
  runs : Nat
  epoch : Nat
  regionEpoch : Nat
  first : Nat
deriving DecidableEq, Repr

/-- A weight-gradient result that waits for its turn (R185): the rectangle of a buffer at `base` that begins `off` bytes
into it, as rows of FP32 codes `stride` bytes apart. -/
structure GradHeld where
  id : Nat
  ctx : Nat
  tag : Nat
  base : Nat
  off : Nat
  stride : Nat
  rows : List (List Nat)
deriving DecidableEq, Repr

/-- A tile (R449 to R452, R461, R475). `state`: 0 ACTIVE, 1 QUARANTINED, 2 RETURNING, 3 SLEEP. `unitEpoch` is the tile's
own copy, `epoch` Guardian's table entry. -/
structure Tile where
  state : Nat
  epoch : Nat
  unitEpoch : Nat
  spares : Nat
  faults : List (Nat × Nat)
  retired : List Nat
  returnedAt : Nat
deriving DecidableEq, Repr

/-- A region of the engine (R453, R461, R464). -/
structure EngRegion where
  state : Nat
  epoch : Nat
  unitEpoch : Nat
deriving DecidableEq, Repr

/-- The link layer of one link, beside its scalar objects (R311 to R315). -/
structure Link where
  txSeq : Nat
  rxNext : Nat
  discarding : Bool
  replay : List (Nat × Nat × Bytes)
  replays : Nat
  credits : List (Nat × Nat)
  trainBeat : Nat
  measureBeat : Nat
deriving DecidableEq, Repr

/-- A remote operation of this engine that has not ended (R330, R334, R342). `held` while a flagged store waits. -/
structure Pending where
  req : RemoteReq
  node : Nat
  held : Bool
  issued : Nat
  retried : Bool
  fab : Option Nat
  host : Option Nat
deriving DecidableEq, Repr

/-- An operation waiting in a line queue at its home (R335), with the requests merged into it (R337). An operation that
spans several lines waits in the queue of each; `got` are the bytes that a load has read of its earlier lines. `silent` is
set for the step of an arrival counter, which nobody is answered for (R339). -/
structure Queued where
  req : RemoteReq
  merged : List RemoteReq
  got : Bytes
  silent : Bool
deriving DecidableEq, Repr

/-- A hot line (R338, R348). -/
structure HotLine where
  addr : Nat
  stores : Nat
  atomics : Nat
  merged : Nat
  peak : Nat
deriving DecidableEq, Repr

/-- A mailbox of the host window (R422). -/
structure Mailbox where
  reqSeq : Nat
  rspSeq : Nat
  request : Bytes
  response : Bytes
deriving DecidableEq, Repr

/-- A staged segmented write (R430). -/
structure Staged where
  key : Nat
  path : Path
  data : Bytes
  beat : Nat
deriving DecidableEq, Repr

/-- An aperture entry (R513). -/
structure Aperture where
  base : Nat
  pages : Nat
  ctx : Nat
  flags : Nat
deriving DecidableEq, Repr

/-- A grant (R416). -/
structure Grant where
  level : Nat
  first : Nat
  last : Nat
deriving DecidableEq, Repr

/-- A debug challenge that is outstanding (R490). -/
structure DebugChal where
  path : Path
  keySel : Nat
  scope : Nat
  target : Nat
  bytes : Bytes
  beat : Nat
deriving DecidableEq, Repr

/-- An open debug session (R492). -/
structure DebugSession where
  path : Path
  scopes : Nat
  beat : Nat
deriving DecidableEq, Repr

/-- A step record of the start journal (R484). -/
structure StepRec where
  step : Nat
  result : Nat
  code : Nat
  units : Nat
  duration : Nat
deriving DecidableEq, Repr

/-- An attempt of the start journal (R484). -/
structure Attempt where
  number : Nat
  kind : Nat
  outcome : Nat
  lastStep : Nat
  lc : Nat
  startUs : Nat
  totalUs : Nat
  firmware : Nat
  recs : List StepRec
deriving DecidableEq, Repr

/-- A shard of a checkpoint (R501, R502): `srcOff` is the memory key of its first byte, `place` that of its copy in the
slot. -/
structure Shard where
  kind : Nat
  region : Nat
  stack : Nat
  srcOff : Nat
  length : Nat
  place : Nat
deriving DecidableEq, Repr

/-- A checkpoint in progress (R498 to R503). `chunks` are the chunks of HBM regions still to be copied, in order: shard
number and byte offset within the shard. `phase` is CKPT_PHASE. -/
structure CkptJob where
  ctx : Nat
  idx : Nat
  slot : Nat
  cutBeat : Nat
  flags : Nat
  ckId : Nat
  mask : Nat
  drainAddr : Nat
  phase : Nat
  step : Nat
  digest : Nat
  shards : List Shard
  chunks : List (Nat × Nat)
deriving DecidableEq, Repr

/-- A restore in progress (R505). -/
structure RestoreJob where
  ctx : Nat
  image : Bytes
  verify : Bool
  slot : Nat
deriving DecidableEq, Repr

/-- What the twin holds of a context of its partner (R467): object values, images of lists and of other records, the numbers
of its state (CTX_STATE, step, window sequence, PRIOR_STATE), ring indices, tags of open windows, crumbs, ledgers. -/
structure Shadow where
  vals : List (Nat × Nat)
  images : List (Nat × Bytes)
  nums : List Nat
  ring : List Nat
  openTags : List Nat
  crumbs : List Crumb
  ledgers : List Ledger
deriving DecidableEq, Repr

/-- Messages that the engine puts on its ports, in the order it sends them. -/
inductive Emit where
  /-- A dictionary response (R424). -/
  | dict (p : Path) (op : Nat) (ver : Nat) (status : Nat) (ty : Nat) (access : Nat) (gen : Nat) (len : Nat) (data : Bytes)
  /-- The response bytes of a mailbox, module × 16 + mailbox (R422). -/
  | mailbox (box : Nat) (rsp : Bytes)
  /-- A dispatch record on VC2, or through loopback when `dst` is this engine (R126, R102). -/
  | record (dst : Nat) (r : Record)
  /-- An end-of-send marker on VC2 (R132). -/
  | marker (dst : Nat) (m : Marker)
  /-- A return record on VC3 (R138). -/
  | ret (dst : Nat) (r : Record)
  /-- A landing-credit grant on VC1 (R137). -/
  | credit (dst : Nat) (ctx : Nat) (flits : Nat)
  /-- A close notice on VC1 (R147). -/
  | close (dst : Nat) (tag : Nat) (src : Nat) (relay : Bool)
  /-- A refusal notice on VC1 (R152). -/
  | refusal (dst : Nat) (tag : Nat)
  /-- A remote request on VC4 or VC7 (R330). -/
  | remote (dst : Nat) (r : RemoteReq)
  /-- A response on VC5 (R330). -/
  | response (dst : Nat) (id : Nat) (status : Nat) (data : Bytes)
  /-- Collective traffic (R353, R359, R361, R362). -/
  | collEntry (dst : Nat) (e : CollEntry)
  | collData (dst : Nat) (d : Bytes)
  | collDone (dst : Nat)
  | collComplete (dst : Nat)
  | collAbort (dst : Nat) (code : Nat) (seq : Nat) (candidate : Nat)
  /-- A write to host memory over HA (R516). -/
  | hostWrite (addr : Nat) (d : Bytes)
  /-- Completion of a host read, or of a failed one (R512, R514). -/
  | hostRead (m : Nat) (ok : Bool) (d : Bytes)
  /-- A frame on a link (R311), and a control frame. -/
  | frame (link : Nat) (tag : Nat) (flit : Bytes)
  | ctrl (link : Nat) (f : CtrlFrame)
  /-- A beat flit on a downlink (R242), a frame on BEAT_OUT (R526). -/
  | beatFlit (link : Nat) (beat : Nat) (origin : Nat) (hops : Nat) (delay : Nat)
  | beatOut (count : Nat) (crc : Nat)
  /-- Announcements (R328, R329, R469). -/
  | announce (a : Announcement)
  | returned (node : Nat)
  | takeover (lost : Nat) (serving : Nat)
  /-- Island and transit notices on VC1 (R323, R326). -/
  | deadNode (link : Nat) (src : Nat)
  | routeBlocked (src : Nat)
  /-- Twin traffic (R454, R467 to R469). -/
  | heartbeat (beat : Nat) (words : List Nat)
  | yield
  | probe (node : Nat)
  | probeAnswer (node : Nat)
  | mirror (m : MirrorRec)
  | mirrorAck (seq : Nat)
  | alarm (core : Nat)
  | journal (d : Bytes)
  /-- An event notice (R446): over MCTP or VC0. -/
  | notice (mctp : Bool) (summary : Nat) (map : Bytes) (beat : Nat)
  /-- An MCTP control or SPDM response (R420, R494). -/
  | mctp (b : Binding) (name : String) (d : Bytes)
  | spdm (name : String) (d : Bytes)
deriving DecidableEq, Repr

/-- A mirror record that the partner has not acknowledged (R467). `hold` are the responses that wait for it, `ends` the
descriptors: context and index. -/
structure Unacked where
  seq : Nat
  beat : Nat
  hold : List Emit
  ends : List (Nat × Nat)
deriving DecidableEq, Repr

/-- What stops the machine. Closed: no row of the table stops on every path, and no path of the model raises a fault of
its own; the one constructor is kept for a memory key outside both spaces of R319.
`absentMemory`: raised by nothing in the present meanings; safe. -/
inductive Fault where
  /-- An access outside the address space (R319). Raised by no meaning: every address is checked before use. Safe. -/
  | absentMemory (key : Nat)
deriving DecidableEq, Repr

/-- What the model declines. -/
inductive Refusal where
  /-- The command has no meaning yet: raised by the arm of `exec` that names it. Safe. -/
  | notModelled (mnemonic : String)
deriving DecidableEq, Repr

/-- The state of the engine. -/
structure State where
  /-- The commands that wait, first in first out. -/
  pending : List Instr
  /-- Scalar dictionary objects, keyed by index × 256 + sub (R412), where they differ from their defaults. -/
  objs : Tbl Nat
  /-- Raise counts of flag bits (R442), keyed by object key × 32 + bit. -/
  raises : Tbl Nat
  /-- GENERATION of STR and DOMAIN objects (R429), keyed by object key. -/
  gens : Tbl Nat
  /-- Bytes of Local Store and HBM, keyed by SPACE × 2^46 + OFFSET (R319). -/
  mem : List Host.Cell
  /-- Poisoned lines with the beat of poisoning (R457). -/
  poisoned : List (Nat × Nat)
  ctxs : Tbl Ctx
  pools : Tbl Pool
  groups : Tbl Group
  tiles : Tbl Tile
  regs : Tbl EngRegion
  links : Tbl Link
  mailboxes : Tbl Mailbox
  /-- Selector values, per path (R431): path, object key, value. -/
  selectors : List (Path × Nat × Nat)
  staged : List Staged
  hostGrants : List Grant
  fabricGrants : List (Nat × Grant)
  mctpGrant : Grant
  mctpLowered : Bool
  lastDenied : Bytes
  apertures : List Aperture
  haModules : List Nat
  stackCaps : List Nat
  linkGenMax : List Nat
  vcWeight : List Nat
  /-- RING_TABLE (R328): nodes in bypass, and spine links down as node × 4 + direction; announcements already seen. -/
  bypassed : List Nat
  spineDown : List Nat
  announced : List Announcement
  serial : Nat
  deadNodes : List Nat
  hotLines : List HotLine
  queues : Tbl (List Queued)
  remotes : List Pending
  nextId : Nat
  /-- Requests that have ended under R343, each with its context (R344), and whether VC4 credits are withheld (R336). -/
  lapsed : List (Nat × Nat)
  holdVc4 : Bool
  redirects : List (Nat × Nat)
  /-- Work lists (R160) and held gradient adds (R185). -/
  items : List Item
  gradHeld : List GradHeld
  nextItem : Nat
  /-- Pages and extents being wiped, out of service or retired (R303, R458). -/
  wipingPages : List Nat
  wipingExtents : List Nat
  deadPages : List Nat
  deadExtents : List Nat
  /-- Pages and extents that the partner's contexts hold, each with its context (R466). -/
  partnerPages : List (Nat × Nat)
  partnerExtents : List (Nat × Nat)
  /-- Beat follower (R247 to R250). -/
  beatSeen : Nat
  freqCorr : Int
  skewRun : Nat
  holdTo : Option Nat
  jumpBy : Nat
  holdStart : Nat
  lastExtern : Nat
  /-- Guardian. -/
  log : List Bytes
  coreStates : List Nat
  coreFaults : List (Nat × Nat)
  coreWords : List (Nat × Nat)
  exceeded : Nat
  scrubLate : Nat
  /-- Twin (R465 to R473). -/
  shadows : Tbl Shadow
  heldHalf : List Nat
  lastHeart : Nat
  heartMissed : Nat
  probing : Option Nat
  taking : Option Nat
  mirrorNext : Nat
  unacked : List Unacked
  handing : Option Nat
  takeoverLast : Bytes
  partnerWords : List (Nat × Nat)
  /-- Start, life-cycle, debug (R478 to R495). -/
  startStep : Option Nat
  attempts : List Attempt
  partnerJournal : Bytes
  policy : List Nat
  ownerKey : Option Bytes
  challenges : List DebugChal
  sessions : List DebugSession
  debugLocked : Bool
  debugImage : Bytes
  keepSteps : Bool
  /-- Identity and pin rate (Mb/s) of the stack at each HBM port, (0, 0) where none has trained (R276, R481). -/
  hbmStacks : List (Nat × Nat)
  measured : List Bytes
  spdmState : Nat
  ownerRetired : Bool
  /-- Checkpoint (R496 to R506). -/
  ckptStates : List Nat
  ckptInfo : List Bytes
  ckpt : Option CkptJob
  restoring : Option RestoreJob
  /-- Telemetry latch (R439): due, and the copies. -/
  latchDue : Bool
  latched : Tbl Nat
  tempRegion : List Int
  /-- Pins and supplies (R529), power and heat (R530 to R532). -/
  resetN : Bool
  corePg : Bool
  pwrAlert : Bool
  thermTrip : Bool
  powerSteps : Nat
  powerQuiet : Nat
  thermSteps : Nat
  thermBeats : Nat
  thermCool : Nat
  /-- Notices (R446). -/
  noticeAt : Option Nat
  noticeDue : Bool
  /-- Bypass notices sent this beat (R326), I3C address (R419). -/
  deadSent : List (Nat × Nat)
  i3cAddr : Option Nat
  /-- Messages sent, newest first. -/
  out : List Emit
  /-- The model's own counter of free values drawn. -/
  freeCtr : Nat
deriving DecidableEq, Repr

/-- The sequencer's side of a ring when a context leaves FREE (R411). -/
def Ring.init : Ring :=
  { fetched := [], producer := 0, paused := false, onDesc := false, holds := [], loops := [], active := [],
    ended := [], step := 0, stepped := false, afterLaunchAt := none, pendingSnaps := [], pendingCancels := [],
    lostWrite := [] }

/-- A context that has never been claimed, and the structured defaults of CLAIM (R408, R415). EXPERT_ENABLE is all 1
(R95). -/
def Ctx.init : Ctx :=
  { enable := 2 ^ 8192 - 1, map := [], bias := [], pub := [[], [], [], []], counts := [], caramelDue := [],
    caramelReq := none, settled := 0, lsPages := [], hbmExtents := [], regions := [], srcWindows := [], handles := [],
    descImage := [], slotMarks := [], slotImage := [], slotStates := [0, 0], switch := none, stages := [],
    lastRefusal := List.replicate 16 0, collResult := List.replicate 16 0, ring := Ring.init, seqNext := 0, openA := [],
    mbCounts := [], windows := [], known := [], pollTicks := 16, ledgers := [], parts := [], retained := [], relayHeld := [], relayFlows := [],
    credits := [], owed := [], landWait := [], crumbs := [], snaps := [], coll := none, collEarly := [], caramelSums := none, intakes := [], grouped := [], fabs := [],
    closedEarly := [], refusedTags := [], hasAnchor := false, lastLaunch := none, seqTop := none, switchSeen := false,
    marks := 0 }

/-- A pool that is NONE (R307). -/
def Pool.init : Pool := { uses := [], waits := [] }

/-- A group that is NONE (R380). -/
def Group.init : Group := { owner := 0xFFFF, members := [], active := false, seq := 0 }

/-- A tile, active with no spare in use, at epoch 0 (R475). -/
def Tile.init : Tile :=
  { state := 0, epoch := 0, unitEpoch := 0, spares := 0, faults := [], retired := [], returnedAt := 0 }

/-- A region of the engine, active at epoch 0 (R475). -/
def EngRegion.init : EngRegion := { state := 0, epoch := 0, unitEpoch := 0 }

/-- A link before training (R346). -/
def Link.init : Link :=
  { txSeq := 0, rxNext := 0, discarding := false, replay := [], replays := 0, credits := [], trainBeat := 0,
    measureBeat := 0 }

/-- An empty mailbox (R422). -/
def Mailbox.init : Mailbox := { reqSeq := 0, rspSeq := 0, request := [], response := [] }

/-- An empty shadow. -/
def Shadow.init : Shadow := { vals := [], images := [], nums := [], ring := [], openTags := [], crumbs := [], ledgers := [] }

/-- The default start policies (R481): 0 REQUIRED, 1 SKIP-IF-FAILED, 2 ALTERNATE. -/
def defaultPolicy : List Nat :=
  [0, 2, 0, 2, 0, 0, 1, 0, 1, 2, 2, 2, 2, 2, 2, 2, 2, 2, 0, 1, 1, 2, 1, 2, 2, 1, 0, 1, 0, 0, 1, 0]

/-- The first attempt of the start journal, as it stands when step 0 begins after a VAON power-on (R478, R484). The
firmware field is written when the attempt's image is known; LC_STATE is BLANK. -/
def firstAttempt : Attempt :=
  { number := 1, kind := 0, outcome := 0, lastStep := 0, lc := 0, startUs := 0, totalUs := 0, firmware := 0,
    recs := [⟨0, 6, 0, 0, 0⟩] }

/-- The engine right after reset: VAON has risen, the core supply and RESET_N are up, and start step 0 is about to run
(R478, R481). ENGINE_STATE reads STARTING. Every object holds the default of its table. -/
def State.reset : State :=
  { pending := [], objs := [(0x120002, 1)], raises := [], gens := [], mem := [], poisoned := [], ctxs := [], pools := [],
    groups := [], tiles := [], regs := [], links := [], mailboxes := [], selectors := [], staged := [],
    hostGrants := List.replicate 8 { level := 1, first := 0xFFFF, last := 0xFFFF }, fabricGrants := [],
    mctpGrant := { level := 2, first := 0, last := 1023 }, mctpLowered := false, lastDenied := List.replicate 16 0,
    apertures := [], haModules := List.replicate 8 0, stackCaps := [0, 0, 0, 0], linkGenMax := List.replicate 12 3,
    vcWeight := [0, 0, 4, 4, 2, 2, 2, 1], bypassed := [], spineDown := [], announced := [], serial := 0, deadNodes := [],
    hotLines := [], queues := [], remotes := [], nextId := 0, lapsed := [], holdVc4 := false, redirects := [], items := [], gradHeld := [],
    nextItem := 0, wipingPages := [], wipingExtents := [], deadPages := [], deadExtents := [], partnerPages := [],
    partnerExtents := [], beatSeen := 0, freqCorr := 0, skewRun := 0, holdTo := none, jumpBy := 0, holdStart := 0,
    lastExtern := 0, log := [], coreStates := [0, 0, 0, 0], coreFaults := [], coreWords := [], exceeded := 0,
    scrubLate := 0, shadows := [], heldHalf := [], lastHeart := 0, heartMissed := 0, probing := none, taking := none,
    mirrorNext := 0, unacked := [], handing := none, takeoverLast := List.replicate 16 0, partnerWords := [],
    startStep := some 0, attempts := [firstAttempt], partnerJournal := [], policy := defaultPolicy, ownerKey := none,
    challenges := [], sessions := [], debugLocked := false, debugImage := [], keepSteps := false, hbmStacks := [],
    measured := [], spdmState := 0, ownerRetired := false, ckptStates := [0, 0],
    ckptInfo := [List.replicate 32 0, List.replicate 32 0], ckpt := none, restoring := none, latchDue := false,
    latched := [], tempRegion := [0, 0, 0, 0, 0], resetN := true, corePg := true, pwrAlert := false,
    thermTrip := false, powerSteps := 0, powerQuiet := 0, thermSteps := 0, thermBeats := 0, thermCool := 0,
    noticeAt := none, noticeDue := false, deadSent := [], i3cAddr := none, out := [], freeCtr := 0 }

end Sys2Proof.Machine
end

