-- ==== Sys2Proof/Machine/Ops.lean ====
section
/-! DEFINITION. The named operations on the state: sparse tables, scalar objects, contexts and units, memory, messages and
the event log. Every meaning reads and writes the state through these. -/

namespace Sys2Proof.Machine

open Sys2Proof

/-! ### Sparse tables -/

/-- The entry of a key, if it is listed. -/
def tblFind {α : Type} : Tbl α → Nat → Option α
  | [], _ => none
  | (k, v) :: r, q => if k == q then some v else tblFind r q

/-- The table without a key. -/
def tblErase {α : Type} (t : Tbl α) (q : Nat) : Tbl α := t.filter (fun p => p.1 != q)

/-- An entry put in its place, in a table that does not list its key. -/
def tblInsert {α : Type} (q : Nat) (v : α) : Tbl α → Tbl α
  | [] => [(q, v)]
  | (k, w) :: r => if q < k then (q, v) :: (k, w) :: r else (k, w) :: tblInsert q v r

/-- The value at a key, `d` where it is not listed. -/
def tblGet {α : Type} (d : α) (t : Tbl α) (q : Nat) : α := (tblFind t q).getD d

/-- The table with a value at a key; the default is not listed. -/
def tblPut {α : Type} [DecidableEq α] (d : α) (t : Tbl α) (q : Nat) (v : α) : Tbl α :=
  if v = d then tblErase t q else tblInsert q v (tblErase t q)

/-! ### Scalar objects -/

/-- The value of a scalar object. -/
def State.get (s : State) (k : Nat) : Nat := tblGet (objDefault k) s.objs k

/-- A scalar object set by the engine. -/
def State.put (s : State) (k v : Nat) : State := { s with objs := tblPut (objDefault k) s.objs k v }

/-- A 64-bit counter advanced. -/
def State.bump (s : State) (k n : Nat) : State := s.put k ((s.get k + n) % 2 ^ 64)

/-- A counter of `bits` bits advanced. -/
def State.bumpW (s : State) (bits k n : Nat) : State := s.put k ((s.get k + n) % 2 ^ bits)

/-- The value of an object of context `c`. -/
def State.cget (s : State) (c k : Nat) : Nat := s.get (ctxKey c k)

/-- An object of context `c` set by the engine. -/
def State.cput (s : State) (c k v : Nat) : State := s.put (ctxKey c k) v

/-- A 64-bit counter of context `c` advanced. -/
def State.cbump (s : State) (c k n : Nat) : State := s.bump (ctxKey c k) n

/-- Several objects set. -/
def State.puts (s : State) (l : List (Nat × Nat)) : State := l.foldl (fun s p => s.put p.1 p.2) s

/-- The current beat (R240). -/
def State.beat (s : State) : Nat := s.get O_BEAT_COUNT

/-- The engine's node number; FFFFh while unset (R318). -/
def State.node (s : State) : Nat := s.get O_NODE_ID

/-- A new generation of a STR or DOMAIN object (R429). -/
def State.genUp (s : State) (k : Nat) : State :=
  { s with gens := tblPut 0 s.gens k ((tblGet 0 s.gens k + 1) % 2 ^ 32) }

/-! ### Contexts and units -/

/-- The structured state of context `c`. -/
def State.ctx (s : State) (c : Nat) : Ctx := tblGet Ctx.init s.ctxs c

/-- The structured state of context `c` replaced. -/
def State.setCtx (s : State) (c : Nat) (x : Ctx) : State := { s with ctxs := tblPut Ctx.init s.ctxs c x }

/-- The structured state of context `c` changed. -/
def State.modCtx (s : State) (c : Nat) (f : Ctx → Ctx) : State := s.setCtx c (f (s.ctx c))

/-- The ring side of context `c` changed. -/
def State.modRing (s : State) (c : Nat) (f : Ring → Ring) : State := s.modCtx c fun x => { x with ring := f x.ring }

/-- A pool's structured state. -/
def State.pool (s : State) (p : Nat) : Pool := tblGet Pool.init s.pools p

/-- A pool's structured state changed. -/
def State.modPool (s : State) (p : Nat) (f : Pool → Pool) : State :=
  { s with pools := tblPut Pool.init s.pools p (f (s.pool p)) }

/-- A group. -/
def State.group (s : State) (g : Nat) : Group := tblGet Group.init s.groups g

/-- A group changed. -/
def State.modGroup (s : State) (g : Nat) (f : Group → Group) : State :=
  { s with groups := tblPut Group.init s.groups g (f (s.group g)) }

/-- A tile. -/
def State.tile (s : State) (t : Nat) : Tile := tblGet Tile.init s.tiles t

/-- A tile changed. -/
def State.modTile (s : State) (t : Nat) (f : Tile → Tile) : State :=
  { s with tiles := tblPut Tile.init s.tiles t (f (s.tile t)) }

/-- A region of the engine. -/
def State.reg (s : State) (r : Nat) : EngRegion := tblGet EngRegion.init s.regs r

/-- A region of the engine changed. -/
def State.modReg (s : State) (r : Nat) (f : EngRegion → EngRegion) : State :=
  { s with regs := tblPut EngRegion.init s.regs r (f (s.reg r)) }

/-- A link's layer. -/
def State.link (s : State) (l : Nat) : Link := tblGet Link.init s.links l

/-- A link's layer changed. -/
def State.modLink (s : State) (l : Nat) (f : Link → Link) : State :=
  { s with links := tblPut Link.init s.links l (f (s.link l)) }

/-- A mailbox, numbered module × 16 + mailbox. -/
def State.mailbox (s : State) (m : Nat) : Mailbox := tblGet Mailbox.init s.mailboxes m

/-- A mailbox changed. -/
def State.modMailbox (s : State) (m : Nat) (f : Mailbox → Mailbox) : State :=
  { s with mailboxes := tblPut Mailbox.init s.mailboxes m (f (s.mailbox m)) }

/-- A shadow of a partner's context. -/
def State.shadow (s : State) (c : Nat) : Shadow := tblGet Shadow.init s.shadows c

/-- A shadow changed. -/
def State.modShadow (s : State) (c : Nat) (f : Shadow → Shadow) : State :=
  { s with shadows := tblPut Shadow.init s.shadows c (f (s.shadow c)) }

/-- CTX_STATE of context `c` (R410): 0 FREE to 7 CHECKPOINTING. -/
def State.cstate (s : State) (c : Nat) : Nat := s.cget c O_CTX_STATE

/-- Contexts in a state. -/
def State.ctxsIn (s : State) (st : Nat) : List Nat :=
  ((s.objs.filter fun p => p.1 % 4096 == O_CTX_STATE % 4096 && 0x800000 ≤ p.1 && p.1 < 0xC00000 && p.2 == st).map
    fun p => (p.1 - 0x800000) / 4096)

/-- Contexts that are not FREE, in ascending number. -/
def State.claimed (s : State) : List Nat :=
  ((s.objs.filter fun p => p.1 % 4096 == O_CTX_STATE % 4096 && 0x800000 ≤ p.1 && p.1 < 0xC00000).map
    fun p => (p.1 - 0x800000) / 4096)

/-! ### Messages, free values -/

/-- A message sent. -/
def State.emit (s : State) (e : Emit) : State := { s with out := e :: s.out }

/-- Several messages sent, in order. -/
def State.emits (s : State) (l : List Emit) : State := l.foldl State.emit s

/-- A message delivered: a response of a mailbox into the mailbox, RSP_SEQ after it (R422); any other on its port. -/
def State.handOut (s : State) (e : Emit) : State :=
  match e with
  | .mailbox b rsp => s.modMailbox b fun m => { m with response := rsp, rspSeq := m.reqSeq }
  | _ => s.emit e

/-- The counter of free values advanced. -/
def State.drawn (s : State) : State := { s with freeCtr := s.freeCtr + 1 }

/-! ### Memory (R272, R277, R319) -/

/-- The byte at a key of a memory; an unlisted byte is 0. -/
def memByte : List Host.Cell → Nat → Byte
  | [], _ => 0
  | (k, v) :: r, q => if k == q then v else memByte r q

/-- A memory with one byte written; 0 is not listed. -/
def memSet (m : List Host.Cell) (q : Nat) (b : Byte) : List Host.Cell :=
  if b = 0 then tblErase m q else tblInsert q b (tblErase m q)

/-- Bytes written from a key on. -/
def memSets : List Host.Cell → Nat → Bytes → List Host.Cell
  | m, _, [] => m
  | m, q, b :: bs => memSets (memSet m q b) (q + 1) bs

/-- `n` bytes read from a key on. -/
def memGets (m : List Host.Cell) (q : Nat) : Nat → Bytes
  | 0 => []
  | n + 1 => memByte m q :: memGets m (q + 1) n

/-- `n` bytes from a key on set to 0. -/
def memZero (m : List Host.Cell) (q n : Nat) : List Host.Cell := m.filter fun p => !(q ≤ p.1 && p.1 < q + n)

/-- The listed bytes of a span. -/
def memSpan (m : List Host.Cell) (q n : Nat) : List Host.Cell := m.filter fun p => q ≤ p.1 && p.1 < q + n

/-- The bytes of a span copied to another place; what the destination held is replaced whole. -/
def memCopy (m : List Host.Cell) (src dst n : Nat) : List Host.Cell :=
  (memSpan m src n).foldl (fun acc p => memSet acc (p.1 - src + dst) p.2) (memZero m dst n)

/-- Keys strictly rising. -/
def keysRise : List Host.Cell → Bool
  | [] => true
  | [_] => true
  | a :: b :: r => decide (a.1 < b.1) && keysRise (b :: r)

/-- The canonical form of memory: keys strictly rising, no byte 0 listed. -/
def Memory.wf (m : List Host.Cell) : Bool := keysRise m && m.all (fun p => p.2 != 0)

/-- The memory key of a fabric address: space and offset without the node (R319). -/
def addrKey (a : Nat) : Nat := a % 2 ^ 49

/-- The fields of a fabric address (R319). -/
def addrNode (a : Nat) : Nat := a / 2 ^ 49 % 2 ^ 15
/-- The space of a fabric address: 0 Local Store, 1 HBM, 2 dictionary (R319). -/
def addrSpace (a : Nat) : Nat := a / 2 ^ 46 % 8
/-- The byte offset of a fabric address (R319). -/
def addrOff (a : Nat) : Nat := a % 2 ^ 46

/-- A fabric address from its fields (R319). -/
def mkAddr (node space off : Nat) : Nat := node * 2 ^ 49 + space * 2 ^ 46 + off

/-- Bytes read at a fabric address of this engine. -/
def State.rd (s : State) (a n : Nat) : Bytes := memGets s.mem (addrKey a) n

/-- A little-endian number read at a fabric address of this engine. -/
def State.rdNat (s : State) (a n : Nat) : Nat := leNat (s.rd a n)

/-- Is a line (64 bytes) of a span poisoned (R457)? -/
def State.isPoisoned (s : State) (a n : Nat) : Bool :=
  n != 0 && s.poisoned.any fun p => p.1 < addrKey a + n && addrKey a < p.1 + 64

/-- Lines that a write of `n` bytes covers whole lose their poison (R457). -/
def State.unpoison (s : State) (q n : Nat) : State :=
  { s with poisoned := s.poisoned.filter fun p => !(q ≤ p.1 && p.1 + 64 ≤ q + n) }

/-! ### Checkpoint copy before a write (R500) -/

/-- The size of a checkpoint chunk (R500). -/
def chunkSize : Nat := 2 ^ 21

/-- Place and length of a chunk: source key, destination key, bytes. -/
def CkptJob.chunkSpan (j : CkptJob) (ch : Nat × Nat) : Option (Nat × Nat × Nat) :=
  (j.shards[ch.1]?).map fun sh =>
    (sh.srcOff + ch.2, sh.place + ch.2, min chunkSize (sh.length - ch.2))

/-- A chunk copied into its slot (R500). -/
def State.copyChunk (s : State) (j : CkptJob) (ch : Nat × Nat) : State :=
  match j.chunkSpan ch with
  | none => s
  | some (src, dst, n) =>
    { s.unpoison dst n with
      mem := memCopy s.mem src dst n
      ckpt := some { j with chunks := j.chunks.filter (· != ch) } }

/-- Chunks not yet copied that a write reaches are copied first, each counted as a stall (R500). -/
def State.cow (s : State) (q n : Nat) : State :=
  match s.ckpt with
  | none => s
  | some j =>
    if j.phase != 3 || n == 0 then s
    else
      (j.chunks.filter fun ch =>
        match j.chunkSpan ch with
        | some (src, _, len) => src < q + n && q < src + len
        | none => false).foldl
        (fun s ch =>
          match s.ckpt with
          | some j => (s.copyChunk j ch).bump O_COW_STALLS 1
          | none => s) s

/-- Bytes written at a fabric address of this engine. -/
def State.wr (s : State) (a : Nat) (bs : Bytes) : State :=
  let q := addrKey a
  let s := (s.cow q bs.length).unpoison q bs.length
  { s with mem := memSets s.mem q bs }

/-- A little-endian number written at a fabric address of this engine. -/
def State.wrNat (s : State) (a n v : Nat) : State := s.wr a (leBytes n v)

/-- A span of this engine's memory set to 0. -/
def State.wipeSpan (s : State) (q n : Nat) : State :=
  let s := (s.cow q n).unpoison q n
  { s with mem := memZero s.mem q n }

/-! ### Engine state -/

/-- The core is powered, out of reset and has left start, and is not quarantined (R455, R529). -/
def State.coreUp (s : State) : Bool :=
  s.corePg && s.resetN && (s.get O_ENGINE_STATE == 1 || s.get O_ENGINE_STATE == 2)

/-- Tiles that are QUARANTINED. -/
def State.tilesQuarantined (s : State) : Nat := (s.tiles.filter fun p => p.2.state == 1).length

/-- Is region `r` at work? -/
def State.regActive (s : State) (r : Nat) : Bool := (s.reg r).state == 0

/-- Is tile `t` at work: itself and its region active? -/
def State.tileActive (s : State) (t : Nat) : Bool := (s.tile t).state == 0 && s.regActive (t / 64)

/-- Regions at work. -/
def State.activeRegions (s : State) : List Nat := (List.range 5).filter s.regActive

/-- Active tiles of a region, in ascending number. -/
def State.activeTiles (s : State) (r : Nat) : List Nat :=
  ((List.range 64).map (64 * r + ·)).filter s.tileActive

/-- ENGINE_STATE as it reads (R455): SERVICE becomes DEGRADED while a unit is out. -/
def State.engineState (s : State) : Nat :=
  let e := s.get O_ENGINE_STATE
  if e == 0 || e == 3 then e
  else if s.tilesQuarantined != 0 || s.regs.any (fun p => p.2.state == 1)
      || s.get O_HBM_PORTS_UP != 15
      || s.coreStates.any (· == 2) || s.get O_TWIN_STATE == 3 then 2
  else 1

/-- DET_LEVEL of a context (R24). -/
def State.det (s : State) (c : Nat) : Nat := s.cget c O_DET_LEVEL

/-! ### The event log (R474) -/

/-- An entry appended: code, severity, unit kind, unit, context (FFFFh none), detail. -/
def State.logEvent (s : State) (code sev kind unit ctx detail : Nat) : State :=
  let n := s.get O_LOG_SEQ_NEXT
  let e := leBytes 4 n ++ leBytes 8 s.beat ++ leBytes 1 code ++ leBytes 1 sev ++ leBytes 1 kind ++ [0]
    ++ leBytes 2 unit ++ leBytes 2 ctx ++ leBytes 8 detail ++ leBytes 4 0
  let l := s.log ++ [e]
  ({ s with log := l.drop (l.length - 4096) }.put O_LOG_SEQ_NEXT ((n + 1) % 2 ^ 32)).genUp O_EVENT_LOG

/-! ### The mirror to the twin (R467) -/

/-- Does this engine mirror to its partner: paired? -/
def State.paired (s : State) : Bool := s.get O_TWIN_STATE == 2

/-- Bytes of a ledger as R119 lays it out: window header, token headers, copy entries. -/
def ledgerSize (l : Ledger) : Nat := 32 + (l.toks.map fun t => 16 + 16 * t.copies.length).foldl (· + ·) 0

/-- Bytes of a mirror record, as MIRROR_BYTES counts them. -/
def mirrorSize (m : MirrorRec) : Nat :=
  16 + 12 * m.vals.length + 8 * m.nums.length + (m.images.map fun p => 8 + p.2.length).foldl (· + ·) 0
    + ((m.ledger.map ledgerSize).getD 0)

/-- A mirror record sent while PAIRING or PAIRED, for a context of this engine. -/
def State.mirrorAll (s : State) (kind : MirrorKind) (c : Nat) (vals : List (Nat × Nat)) (nums : List Nat)
    (images : List (Nat × Bytes)) (ledger : Option Ledger) : State :=
  if s.paired || s.get O_TWIN_STATE == 1 then
    let r : MirrorRec := ⟨s.mirrorNext, kind, c, vals, nums, images, ledger⟩
    (({ s with mirrorNext := s.mirrorNext + 1, unacked := s.unacked ++ [Unacked.mk s.mirrorNext s.beat [] []] }).emit
      (.mirror r)).bump O_MIRROR_BYTES (mirrorSize r)
  else s

/-- A mirror record of numbers. -/
def State.mirror (s : State) (kind : MirrorKind) (c : Nat) (nums : List Nat) : State := s.mirrorAll kind c [] nums [] none

/-! ### Context state -/

/-- Context state, step position, window sequence and SEED mirrored (R467). -/
def State.mirrorState (s : State) (c : Nat) : State :=
  s.mirrorAll .ctxState c [(ctxKey c O_SEED, s.cget c O_SEED)]
    [s.cstate c, s.cget c O_STEP, (s.ctx c).seqNext, s.cget c O_PRIOR_STATE] [] none

/-- CTX_STATE changed; a move to HALTED or TORN is logged (R474), every change mirrored (R467). -/
def State.setCState (s : State) (c st code : Nat) : State :=
  let s := s.cput c O_CTX_STATE st
  let s := if st == 5 || st == 6 then s.logEvent code 3 0 0 c 0 else s
  s.mirrorState c

/-- Is a window open: issued and not closed (R539)? -/
def Window.isOpen (w : Window) : Bool := w.phase != .closed

/-- A window of a context by tag and direction. -/
def Ctx.findWin (x : Ctx) (tag : Nat) (bwd : Bool) : Option Window :=
  x.windows.find? fun w => w.tag == tag && w.bwd == bwd

/-- The open window of a tag, forward before backward. -/
def Ctx.findOpen (x : Ctx) (tag : Nat) : Option Window := x.windows.find? fun w => w.tag == tag && w.isOpen

/-- A window replaced. -/
def Ctx.setWin (x : Ctx) (w : Window) : Ctx :=
  { x with windows := x.windows.map fun v => if v.tag == w.tag && v.bwd == w.bwd && v.idx == w.idx then w else v }

/-- A window removed. -/
def Ctx.dropWin (x : Ctx) (w : Window) : Ctx :=
  { x with windows := x.windows.filter fun v => !(v.tag == w.tag && v.bwd == w.bwd && v.idx == w.idx) }

/-- Does a context hold work that keeps it DRAINING (R408): a window whose descriptor has not ended, a GROUPED_OP or a
COLLECTIVE? -/
def Ctx.drainBusy (x : Ctx) : Bool :=
  !x.windows.isEmpty || !x.grouped.isEmpty || (match x.coll with | some k => !k.caramel | none => false)

/-- A DRAINING context with nothing in progress becomes ARMED (R408). -/
def State.settleOne (s : State) (c : Nat) : State :=
  if s.cstate c == 4 && !(s.ctx c).drainBusy then s.setCState c 2 0 else s

/-- Every DRAINING context looked at. -/
def State.settle (s : State) : State := (s.ctxsIn 4).foldl State.settleOne s

end Sys2Proof.Machine
end

