-- ==== Sys2Proof/Machine/Flags.lean ====
section
/-! DEFINITION. Flags, raise counts, summaries and notices (R441 to R446), the counting of conversions (R56, R57), and
`finish`, which ends every command. -/

namespace Sys2Proof.Machine

open Sys2Proof

/-! ### Raising and clearing -/

/-- The key of a raise count (R442). -/
def raiseKey (k bit : Nat) : Nat := k * 32 + bit

/-- The raise count of a bit (R442). -/
def State.raiseCount (s : State) (k bit : Nat) : Nat := tblGet 0 s.raises (raiseKey k bit)

/-- An event raises a bit: the bit is set and its raise count rises by 1 modulo 2^32 (R441, R442). -/
def State.raise (s : State) (k bit : Nat) : State :=
  let s := s.put k (s.get k ||| 2 ^ bit)
  { s with raises := tblPut 0 s.raises (raiseKey k bit) ((s.raiseCount k bit + 1) % 2 ^ 32) }

/-- An event raises a bit of a flag object of context `c`. -/
def State.craise (s : State) (c k bit : Nat) : State := s.raise (ctxKey c k) bit

/-- A flag that only the first event after a clear raises (R59). -/
def State.craiseOnce (s : State) (c k bit : Nat) : State :=
  if s.cget c k / 2 ^ bit % 2 == 1 then s else s.craise c k bit

/-- A bit of 2200h, 2800h or 2900h raised, with its log entry (R474). -/
def State.raiseLog (s : State) (k bit code sev kind unit ctx detail : Nat) : State :=
  (s.raise k bit).logEvent code sev kind unit ctx detail

/-- Bits cleared by a write of 1 (R441). -/
def State.clearBits (s : State) (k mask : Nat) : State :=
  let v := s.get k
  s.put k (v - (v &&& mask))

/-- Raise counts of a flag object cleared (R442). -/
def State.clearRaises (s : State) (k : Nat) : State :=
  { s with raises := s.raises.filter fun p => p.1 / 32 != k }

/-! ### Summaries (R434, R438, R445) -/

/-- Flag objects of a context in the order of FLAG_SUMMARY (R434). -/
def ctxFlagObjs : List Nat :=
  [O_SQ_FLAGS, O_ROUTE_FLAGS, O_DET_FLAGS, O_NUMERIC_FLAGS, O_EXCHANGE_FLAGS, O_EF_FLAGS, O_FU_FLAGS, O_CB_FLAGS,
   O_MEM_FLAGS, O_FABRIC_CTX_FLAGS, O_COLL_FLAGS, O_WEIGHT_FLAGS]

/-- Flag objects of the engine in the order of ENGINE_FLAG_SUMMARY (R438). -/
def engFlagObjs : List Nat :=
  [O_DICT_FLAGS, O_BEAT_FLAGS, O_FABRIC_FLAGS, O_REMOTE_FLAGS, O_HEALTH_FLAGS, O_TWIN_FLAGS, O_GD_FLAGS, O_LC_FLAGS,
   O_CKPT_FLAGS]

/-- One bit per entry of a list that holds. -/
def bitsOf (l : List Bool) : Nat := (l.zipIdx.map fun p => if p.1 then 2 ^ p.2 else 0).foldl (· + ·) 0

/-- FLAG_SUMMARY of context `c` (R434). -/
def State.flagSummary (s : State) (c : Nat) : Nat := bitsOf (ctxFlagObjs.map fun k => s.cget c k != 0)

/-- Contexts with a flag set: their keys are the listed flag objects that are not 0. -/
def State.flagCtxs (s : State) : List Nat :=
  ((s.objs.filter fun p => 0x800000 ≤ p.1 && p.1 < 0xC00000 && p.2 != 0
      && ctxFlagObjs.contains (0x800000 + p.1 % 4096)).map fun p => (p.1 - 0x800000) / 4096)

/-- ENGINE_FLAG_SUMMARY (R438). -/
def State.engSummary (s : State) : Nat :=
  bitsOf (engFlagObjs.map fun k => s.get k != 0) + (if s.flagCtxs.isEmpty then 0 else 2 ^ 31)

/-- CONTEXT_FLAG_MAP, 128 bytes (R438). -/
def State.flagMap (s : State) : Bytes :=
  let l := s.flagCtxs
  (List.range 128).map fun i => BitVec.ofNat 8 (bitsOf ((List.range 8).map fun b => l.contains (8 * i + b)))

/-! ### Notices (R446) -/

/-- An event notice sent to the destinations that NOTICE_ENABLE names. -/
def State.sendNotice (s : State) : State :=
  let en := s.get O_NOTICE_ENABLE
  let sum := s.engSummary
  let map := s.flagMap.take 16
  let s := if en % 2 == 1 then s.emit (.notice true sum map s.beat) else s
  let s := if en / 2 % 2 == 1 then s.emit (.notice false sum map s.beat) else s
  { s with noticeAt := some s.beat, noticeDue := false }.bump O_NOTICES_SENT 1

/-- Has an interval of 1,024 beats passed since the last notice? -/
def State.noticeFree (s : State) : Bool :=
  match s.noticeAt with
  | none => true
  | some b => s.beat ≥ b + 1024

/-- ENGINE_FLAG_SUMMARY has changed from 0 to another value: a notice is sent, or is due when the interval ends. -/
def State.noticeAfter (s0 t : State) : State :=
  if t.get O_NOTICE_ENABLE != 0 && s0.engSummary == 0 && t.engSummary != 0 then
    (if t.noticeFree then t.sendNotice else { t with noticeDue := true })
  else t

/-- CONTEXT_FLAG_MAP has changed: its GENERATION goes up (R429, R438). -/
def State.mapAfter (s0 t : State) : State :=
  if s0.flagCtxs.eraseDups == t.flagCtxs.eraseDups then t else t.genUp O_CONTEXT_FLAG_MAP

/-- What every command that leads from `s` to `t` does last: a DRAINING context with nothing left becomes ARMED (R408), a
new CONTEXT_FLAG_MAP gets its GENERATION (R429), a notice that has become due is sent (R446), and the queue stays as it
was. -/
def ended (s t : State) : State := { State.noticeAfter s (State.mapAfter s t.settle) with pending := s.pending }

/-- The end of a command that leads from `s` to `t`. -/
def finish (s t : State) : Host.Outcome State Fault Refusal := .next (ended s t)

/-! ### Conversion counts (R56, R57, R59) -/

/-- Classes of saturation counters: forward, weights, gradients (R56). -/
inductive NumClass where
  | fwd
  | wgt
  | grad
deriving DecidableEq, Repr

/-- Where an amax or a digest of a window goes (R57, R232): 0 to STEP, 1 to PREV, 2 nowhere. `mark` is the serial of the
STEP_MARK that began its step. -/
def State.stepSide (s : State) (c mark : Nat) : Nat :=
  let cur := (s.ctx c).marks
  if mark == cur then 0 else if mark + 1 == cur then 1 else 2

/-- Conversions counted for context `c`; amax goes to the object of the window's own step. -/
def State.tally (s : State) (c : Nat) (cl : NumClass) (mark : Nat) (t : Tally) : State :=
  let s := match cl with
    | .fwd => s.cbump c O_SAT_COUNT_FWD t.sat
    | .wgt => s.cbump c O_SAT_COUNT_WGT t.sat
    | .grad => s.cbump c O_SAT_COUNT_GRAD t.sat
  let s := s.cbump c O_NAN_COUNT t.nan
  let s := s.cbump c O_SCALE_INVALID_COUNT (t.scale + t.tens)
  let s := s.cbump c O_TERNARY_INVALID_COUNT t.tern
  let s := s.cbump c O_ESCAPE_CAPPED_COUNT t.capped
  let s := if t.nan != 0 then s.craiseOnce c O_NUMERIC_FLAGS 1 else s
  let s := if t.scale + t.tens != 0 then s.craiseOnce c O_NUMERIC_FLAGS 2 else s
  let s := if t.tern != 0 then s.craiseOnce c O_NUMERIC_FLAGS 3 else s
  let fold (k : Nat) := s.cput c k (max (s.cget c k) t.amax)
  match cl, s.stepSide c mark with
  | .fwd, 0 => fold O_AMAX_FWD_STEP
  | .fwd, 1 => fold O_AMAX_FWD_PREV
  | .grad, 0 => fold O_AMAX_GRAD_STEP
  | .grad, 1 => fold O_AMAX_GRAD_PREV
  | _, _ => s

end Sys2Proof.Machine
end

