-- ==== Sys2Proof/Machine/Operands.lean ====
section
/-! DEFINITION. Operand forms: the address and handle checks of R394, registered regions (R281, R282), ownership of pages
and extents (R280), tensor descriptors (R291 to R293, R300, R301), scale and escape areas (R40, R50), and operand rows. -/

namespace Sys2Proof.Machine

open Sys2Proof

/-- A field of `n` bytes at byte `i` of an image. -/
def fld (bs : Bytes) (i n : Nat) : Nat := leNat ((bs.drop i).take n)

/-- Does a span lie within a region? -/
def Region.holds (r : Region) (a n : Nat) : Bool := r.base ≤ a && a + n ≤ r.base + r.len

/-- Does a span touch a region? -/
def Region.meets (r : Region) (a n : Nat) : Bool := n != 0 && r.base < a + n && a < r.base + r.len

/-- Does a span lie within one registered region of the context (R394)? -/
def Ctx.inRegion (x : Ctx) (a n : Nat) : Bool := x.regions.any fun r => r.holds a n

/-- Does a span lie within one registered region of a kind? -/
def Ctx.inKind (x : Ctx) (kind a n : Nat) : Bool := x.regions.any fun r => r.kind == kind && r.holds a n

/-- Does a span reach into an ENGINE region (R282)? -/
def Ctx.hitsEngine (x : Ctx) (a n : Nat) : Bool := x.regions.any fun r => r.kind == 2 && r.meets a n

/-- The check of a span that a command reads (R394): `none` when it passes. -/
def Ctx.checkRead (x : Ctx) (a n : Nat) : Option Nat := if x.inRegion a n then none else some 0xC5

/-- The check of a span that a command writes (R394). -/
def Ctx.checkWrite (x : Ctx) (a n : Nat) : Option Nat :=
  if x.inRegion a n then (if x.hitsEngine a n then some 0xC4 else none) else some 0xC5

/-- The first code of a list of checks. -/
def firstCode (l : List (Option Nat)) : Option Nat := (l.filterMap id).head?

/-- An address check under its HOSTMAP bit (R394): host addresses are not checked against regions; 0 means none. -/
def Ctx.addrCheck (x : Ctx) (host wr optional : Bool) (a n : Nat) : Option Nat :=
  if host then none
  else if a == 0 && optional then none
  else if wr then x.checkWrite a n else x.checkRead a n

/-! ### Ownership (R272, R273, R278, R280, R306) -/

/-- The page of a Local Store offset, the extent of an HBM offset (R273, R278). -/
def pageOf (off : Nat) : Nat := off / 65536
/-- The extent of an HBM offset. -/
def extentOf (off : Nat) : Nat := off / 2 ^ 24

/-- Extents of stack `st` that exist and may be assigned: capacity less the checkpoint spare region (R278). -/
def State.stackExtents (s : State) (st : Nat) : Nat :=
  if s.get O_HBM_PORTS_UP / 2 ^ st % 2 == 1 then s.stackCaps.getD st 0 * 64 - 512 else 0

/-- Entry of PAGE_OWNER for a page (R306). A retired page stays with its context until that releases it (R458). -/
def State.pageOwner (s : State) (p : Nat) : Nat :=
  if p ≥ 7680 then 0xFFFE
  else match (s.ctxs.find? fun e => e.2.lsPages.contains p) with
    | some e => e.1
    | none =>
      if s.deadPages.contains p then 0xFFFE
      else if s.wipingPages.contains p then 0xFFFD
      else
      match (s.partnerPages.find? fun e => e.1 == p) with
      | some e => e.2
      | none => 0xFFFF

/-- Entry of EXTENT_OWNER for an extent (R306). -/
def State.extentOwner (s : State) (x : Nat) : Nat :=
  if x % 4096 ≥ s.stackExtents (x / 4096) then 0xFFFE
  else match (s.ctxs.find? fun e => e.2.hbmExtents.contains x) with
    | some e => e.1
    | none =>
      if s.deadExtents.contains x then 0xFFFE
      else if s.wipingExtents.contains x then 0xFFFD
      else
      match (s.partnerExtents.find? fun e => e.1 == x) with
      | some e => e.2
      | none => 0xFFFF

/-- The units of a span: pages of Local Store or extents of HBM. -/
def spanUnits (hbm : Bool) (off n : Nat) : List Nat :=
  let u := if hbm then 2 ^ 24 else 65536
  if n == 0 then [] else (List.range ((off + n - 1) / u + 1 - off / u)).map (· + off / u)

/-- Does a span lie wholly in pages or extents of the context (R281)? -/
def Ctx.owns (x : Ctx) (a n : Nat) : Bool :=
  let hbm := addrSpace a == 1
  (spanUnits hbm (addrOff a) n).all fun u => if hbm then x.hbmExtents.contains u else x.lsPages.contains u

/-- Does a span reach into one of these pages or extents? -/
def reaches (hbm : Bool) (units : List Nat) (a n : Nat) : Bool :=
  (addrSpace a == (if hbm then 1 else 0)) && (spanUnits hbm (addrOff a) n).any units.contains

/-! ### Host memory (R516) -/

/-- The HA modules that carry the engine's accesses to host memory (R516): named, trained, and no twin module. -/
def State.hostMods (s : State) : List Nat :=
  (List.range 8).filter fun m =>
    s.get O_HOST_MEM_MODULES / 2 ^ m % 2 == 1 && s.haModules.getD m 0 % 128 != 0 && s.get O_TWIN_MODULES / 2 ^ m % 2 == 0

/-- The state of an HA module as HA_MODULE_STATE shows it (R534). -/
def State.haState (s : State) (m : Nat) : Nat :=
  s.haModules.getD m 0 % 128 + (if s.get O_TWIN_MODULES / 2 ^ m % 2 == 1 then 128 else 0)

/-- Bytes of a host access counted at the modules that its 4 KiB blocks select (R440, R516). -/
def State.haCount (s : State) (out : Bool) (a n : Nat) : State :=
  let ms := s.hostMods
  if n == 0 || ms.isEmpty then s
  else
    (List.range ((a + n - 1) / 4096 + 1 - a / 4096)).foldl
      (fun s i =>
        let b := a / 4096 + i
        let lo := max a (4096 * b)
        let hi := min (a + n) (4096 * b + 4096)
        s.bump (unitKey (ms.getD (b % 16 % ms.length) 0) (if out then O_HA_BYTES_OUT else O_HA_BYTES_IN)) (hi - lo)) s

/-- Bytes written to host memory (R516). -/
def State.hostWrite (s : State) (a : Nat) (bs : Bytes) : State :=
  if bs.isEmpty then s else (s.emit (.hostWrite a bs)).haCount true a bs.length

/-! ### Format bytes (R39, R52, R108, R162) -/

/-- The element format of ELEM (R162). -/
def elemOf (f : Nat) : Option Elem :=
  match f / 16 % 16 with
  | 0 => some .e4m3
  | 1 => some .e5m2
  | 2 => some .e2m1
  | 3 => some .bf16
  | 4 => some .e3m2
  | 5 => some .e2m3
  | 6 => some .t2
  | 7 => some .fp32
  | _ => none

/-- The scale kind of SCALE (R162). -/
def scaleOf (f : Nat) : Scale :=
  match f / 4 % 4 with
  | 1 => .mx32
  | 2 => .b16
  | _ => .none

/-- ESC (R108, R162). -/
def escOf (f : Nat) : Bool := f / 2 % 2 == 1

/-- A format byte with bit [0] set or a reserved code (R162). -/
def fmtReserved (f : Nat) : Bool := f % 2 == 1 || f / 16 % 16 ≥ 8 || f / 4 % 4 == 3

/-- Does a scale kind take an element format (R39)? -/
def scaleTakes (e : Elem) (k : Scale) : Bool :=
  match k with
  | .none => e == .e4m3 || e == .e5m2 || e == .bf16 || e == .fp32
  | .mx32 => e == .e4m3 || e == .e5m2 || e == .e3m2 || e == .e2m3 || e == .e2m1
  | .b16 => e == .e4m3 || e == .e5m2 || e == .e3m2 || e == .e2m3 || e == .e2m1 || e == .t2

/-- Escapes apply to E2M1, E3M2 and E2M3 (R48). -/
def escTakes (e : Elem) : Bool := e == .e2m1 || e == .e3m2 || e == .e2m3

/-- Bytes of a row of `n` elements. -/
def rowBytes (e : Elem) (n : Nat) : Nat := (n * e.bits + 7) / 8

/-- Bytes of a scale area: header, block scales of `rows` rows, escape area (R40, R50). -/
def scaleAreaLen (k : Scale) (esc : Bool) (escOff rows n : Nat) : Nat :=
  let base := 16 + (if k.block == 0 then 0 else rows * (n / k.block))
  if esc then max base (escOff + 16 * (n / 128) + 16 * rows * (n / 128)) else base

/-! ### Tensor descriptors (R291) -/

/-- A tensor descriptor. -/
structure TDesc where
  base : Nat
  format : Nat
  rank : Nat
  layout : Nat
  dims : List Nat
  strides : List Nat
  scale : Nat
  handle : Nat
deriving DecidableEq, Repr

/-- The fields of a 64-byte image (R291). -/
def parseDesc (bs : Bytes) : TDesc :=
  ⟨fld bs 0 8, fld bs 8 1, fld bs 9 1, fld bs 10 1, (List.range 5).map fun i => fld bs (16 + 4 * i) 4,
    (List.range 4).map fun i => fld bs (36 + 4 * i) 4, fld bs 52 8, fld bs 60 4⟩

/-- SCALE_PTR and HANDLE share bytes [59:52] and [63:60]. -/
def TDesc.elem (d : TDesc) : Elem := (elemOf d.format).getD .bf16

/-- Bytes of one row of dimension 0. -/
def TDesc.rowLen (d : TDesc) : Nat := rowBytes d.elem (d.dims.getD 0 1)

/-- Dimension `i`. -/
def TDesc.dim (d : TDesc) (i : Nat) : Nat := d.dims.getD i 1

/-- The number of rows: product of the dimensions above 0. -/
def TDesc.rows (d : TDesc) : Nat := d.dim 1 * d.dim 2 * d.dim 3 * d.dim 4

/-- The indices of dimensions 1 to 4 of row number `r`, dimension 1 fastest. -/
def TDesc.idx (d : TDesc) (r : Nat) : List Nat :=
  [r % d.dim 1, r / d.dim 1 % d.dim 2, r / (d.dim 1 * d.dim 2) % d.dim 3, r / (d.dim 1 * d.dim 2 * d.dim 3)]

/-- The row number of indices of dimensions 1 to 4. -/
def TDesc.rowNo (d : TDesc) (ix : List Nat) : Nat :=
  ix.getD 0 0 + d.dim 1 * (ix.getD 1 0 + d.dim 2 * (ix.getD 2 0 + d.dim 3 * ix.getD 3 0))

/-- The offset of a row in linear layout. -/
def TDesc.rowOff (d : TDesc) (r : Nat) : Nat := ((d.idx r).zip d.strides).foldl (fun a p => a + p.1 * p.2) 0

/-- The bytes a linear tensor spans from BASE to the last byte of its last element (R292). -/
def TDesc.span (d : TDesc) : Nat :=
  if d.layout == 1 then d.dim 1 * d.rowLen
  else (((List.range 4).map fun i => (d.dim (i + 1) - 1) * d.strides.getD i 0).foldl (· + ·) 0) + d.rowLen

/-- The offset of byte `b` of row `r` of a diagonal tensor with `t` bands per row (R300, R301). -/
def diagOff (t r b : Nat) : Nat :=
  let n := r / 32 * t + b / 512
  let i := r % 32
  let j := b % 512 / 16
  n / 4 * 65536 + 2048 * i + 64 * ((i + j) % 32) + 16 * (n % 4) + b % 16

/-- The bytes of row `r`. -/
def State.descRow (s : State) (d : TDesc) (r : Nat) : Bytes :=
  if d.layout == 1 then
    ((List.range (d.rowLen / 16)).map fun w => s.rd (d.base + diagOff (d.rowLen / 512) r (16 * w)) 16).flatten
  else s.rd (d.base + d.rowOff r) d.rowLen

/-- Row `r` written. -/
def State.setDescRow (s : State) (d : TDesc) (r : Nat) (bs : Bytes) : State :=
  if d.layout == 1 then
    (chunks 16 bs).zipIdx.foldl (fun s p => s.wr (d.base + diagOff (d.rowLen / 512) r (16 * p.2)) p.1) s
  else s.wr (d.base + d.rowOff r) bs

/-- Block scales per row. -/
def TDesc.scalesPerRow (d : TDesc) : Nat :=
  let b := (scaleOf d.format).block
  if b == 0 then 0 else d.dim 0 / b

/-- The block scales of row `r`. -/
def State.descScales (s : State) (d : TDesc) (r : Nat) : Bytes :=
  s.rd (d.scale + 16 + r * d.scalesPerRow) d.scalesPerRow

/-- The length of a descriptor's scale area; 0 without one. -/
def State.descScaleLen (s : State) (d : TDesc) : Nat :=
  if d.scale == 0 then 0
  else scaleAreaLen (scaleOf d.format) (s.rdNat (d.scale + 5) 1 == 1) (s.rdNat (d.scale + 8) 4) d.rows (d.dim 0)

/-- Where the descriptor of a handle is stored (R292). -/
def State.descAddr (s : State) (c h : Nat) : Option Nat :=
  (((s.ctx c).regions)[s.cget c O_DESC_AREA]?).map fun r => r.base + 64 * h

/-- DESC_MAX: the length of the ENGINE region named by DESC_AREA over 64, at most 65,536 (R292). -/
def State.descMax (s : State) (c : Nat) : Nat :=
  match ((s.ctx c).regions)[s.cget c O_DESC_AREA]? with
  | some r => min (r.len / 64) 65536
  | none => 0

/-- The descriptor of a valid handle (R293). -/
def State.desc (s : State) (c h : Nat) : Option TDesc :=
  if (s.ctx c).handles.contains h && h < s.descMax c then
    (s.descAddr c h).map fun a => parseDesc (s.rd a 64)
  else none

/-- Is a byte span of a tensor or its scale area poisoned (R457)? -/
def State.descPoisoned (s : State) (d : TDesc) : Bool :=
  s.isPoisoned d.base d.span || s.isPoisoned d.scale (s.descScaleLen d)

/-! ### Operand rows (R39 to R43, R50) -/

/-- Escape values of row `r` from a scale area at `sp` (R50). -/
def State.escRow (s : State) (sp r n : Nat) : List (Nat × Dy) × Tally :=
  let off := sp + s.rdNat (sp + 8) 4
  let slabs := n / 128
  let l := (List.range slabs).map fun p =>
    let cnt := min 8 (s.rdNat (off + 16 * p) 1)
    let chs := (s.rd (off + 16 * p + 1) cnt).map (·.toNat)
    let e := off + 16 * slabs + 16 * (r * slabs + p)
    if cnt == 0 then ([], Tally.zero)
    else escapeValues p (s.rdNat e 1) chs ((s.rd (e + 1) cnt).map (·.toNat))
  ((l.map (·.1)).flatten, Tally.sum (l.map (·.2)))

/-- An operand row from packed bytes and a scale area at `sp` (0 none) in which it is row `r`. -/
def State.opRowAt (s : State) (e : Elem) (k : Scale) (bs : Bytes) (sp r n : Nat) : OpRow × Tally :=
  let codes := unpackElems e n bs
  if sp == 0 then opRow e .none codes [] [] 0x3F800000
  else
    let nb := if k.block == 0 then 0 else n / k.block
    let scales := (s.rd (sp + 16 + r * nb) nb).map (·.toNat)
    let (esc, t) := if s.rdNat (sp + 5) 1 == 1 then s.escRow sp r n else ([], Tally.zero)
    let (row, t') := opRow e k codes scales esc (s.rdNat sp 4)
    (row, t.add t')

/-- A row of BF16 codes from bytes, as FP32 codes. -/
def bf16Row (bs : Bytes) : List Nat := (chunks 2 bs).map fun b => bf16To32 (leNat b)

/-- The bytes of a row of BF16 codes. -/
def bf16Bytes (codes : List Nat) : Bytes := (codes.map (leBytes 2)).flatten

/-- The bytes of a row of FP32 codes. -/
def fp32Bytes (codes : List Nat) : Bytes := (codes.map (leBytes 4)).flatten

/-- A row of FP32 codes from bytes. -/
def fp32Row (bs : Bytes) : List Nat := (chunks 4 bs).map leNat

/-- A quantised row as bytes and its block scales, appended (R112, R113). -/
def QRow.bytes (q : QRow) (e : Elem) : Bytes := packElems e q.codes ++ q.scales.map (BitVec.ofNat 8)

end Sys2Proof.Machine
end

