-- ==== Sys2Proof/Machine/RingOps.lean ====
section
/-! DEFINITION. The sequencer's side of a command ring (R385 to R406): the ring header and slots in memory, the end of a
descriptor, pauses, refusals, and the issue of the descriptor at the front. -/

namespace Sys2Proof.Machine

open Sys2Proof

/-! ### Header and slots -/

/-- The address of the slot of a ring index (R387). -/
def State.slotAddr (s : State) (c i : Nat) : Nat :=
  s.cget c O_RING_BASE + 64 + 64 * (i % s.cget c O_RING_ENTRIES)

/-- PRODUCER as the ring header holds it (R386). -/
def State.producer (s : State) (c : Nat) : Nat := s.rdNat (s.cget c O_RING_BASE) 4

/-- The difference of two free-running indices (R387). -/
def idxDiff (a b : Nat) : Nat := (a + 2 ^ 32 - b) % 2 ^ 32

/-- States in which SQ polls a ring (R390, R407). -/
def polledState (st : Nat) : Bool := st == 1 || st == 2 || st == 3 || st == 4 || st == 5

/-- RING_STATE (R411): 0 STOPPED, 1 POLLING, 2 HOLDING, 3 PAUSED. -/
def State.ringStateOf (s : State) (c : Nat) : Nat :=
  let r := (s.ctx c).ring
  if !polledState (s.cstate c) || s.cget c O_RING_BASE == 0 then 0
  else if r.paused then 3
  else if !r.holds.isEmpty then 2 else 1

/-- RING_STATE brought up to date, and the engine's bytes [16:8] of the ring header written (R386). -/
def State.syncRing (s : State) (c : Nat) : State :=
  let s := s.cput c O_RING_STATE (s.ringStateOf c)
  if s.cget c O_RING_BASE == 0 then s
  else s.wr (s.cget c O_RING_BASE + 8)
    (leBytes 4 (s.cget c O_CONSUMER) ++ leBytes 4 (s.cget c O_COMPLETED) ++ leBytes 1 (s.cget c O_RING_STATE))

/-- CONSUMER or COMPLETED set, the header written and the advance mirrored (R386, R467). -/
def State.setIndices (s : State) (c cons comp : Nat) : State :=
  let s := ((s.cput c O_CONSUMER cons).cput c O_COMPLETED comp).syncRing c
  s.mirror .ringIndices c [cons, comp]

/-- A context changes state, and its ring with it (R408). -/
def State.toState (s : State) (c st code : Nat) : State := (s.setCState c st code).syncRing c

/-- STATUS and then DONE of the descriptor at an index written (R393). -/
def State.writeStatus (s : State) (c i code : Nat) (done : Bool) : State :=
  let s := s.wr (s.slotAddr c i + 2) (leBytes 1 code)
  if done then s.wr (s.slotAddr c i + 3) (leBytes 1 1) else s

/-- RESULT of the descriptor at an index written (R393). -/
def State.writeResult (s : State) (c i v : Nat) : State := s.wrNat (s.slotAddr c i + 4) 4 v

/-- COMPLETED after a run of ended descriptors (R387); `n` bounds the run. -/
def completedAfter : Nat → List Nat → Nat → Nat
  | 0, _, i => i
  | n + 1, ended, i => if ended.contains i then completedAfter n ended ((i + 1) % 2 ^ 32) else i

/-- COMPLETED moved over the descriptors that have ended. -/
def State.advance (s : State) (c : Nat) : State :=
  let r := (s.ctx c).ring
  let old := s.cget c O_COMPLETED
  let new := completedAfter r.ended.length r.ended old
  if new == old then s.syncRing c
  else
    let s := s.modRing c fun r => { r with ended := r.ended.filter fun i => idxDiff i old ≥ idxDiff new old }
    s.setIndices c (s.cget c O_CONSUMER) new

/-- A hold that belongs to the descriptor at an index. -/
def Hold.idx : Hold → Nat
  | .launchAt i _ _ => i
  | .waitBeat i _ => i
  | .fence i _ => i
  | .stepMark i _ _ _ => i
  | .collective i => i
  | .gradExport i _ => i
  | .windowLimit i => i
  | .stopOnError i => i
  | .checkpoint i _ => i
  | .stage1 i => i

/-- Holds of the descriptor at an index removed. -/
def Ring.unhold (r : Ring) (i : Nat) : Ring := { r with holds := r.holds.filter fun h => h.idx != i }

/-- The ring pauses; `onDesc` when CONSUMER stands on a refused descriptor (R400). -/
def State.pauseRing (s : State) (c : Nat) (onDesc : Bool) : State :=
  (s.modRing c fun r => { r with paused := true, onDesc := onDesc }).syncRing c

/-- The descriptor at an index ends with a status (R393, R395): STATUS, DONE, COMMAND_ERROR for a status other than 00h
and 26h, the ring paused when STOP_ON_ERROR was set, COMPLETED moved. -/
def State.endDesc (s : State) (c i code : Nat) : State :=
  let stop := (s.ctx c).ring.active.any fun a => a.idx == i && a.stop
  let s := s.writeStatus c i code true
  let s := if code != 0 && code != 0x26 then s.craise c O_SQ_FLAGS 2 else s
  let s := s.modRing c fun r =>
    let act := r.active.eraseP (·.idx == i)
    { r.unhold i with active := act, ended := if act.any (·.idx == i) then r.ended else i :: r.ended }
  let s := s.advance c
  if stop && code != 0 then s.pauseRing c false else s

/-- The context state and the beat of a refusal recorded (R388, R400). -/
def State.recordRefusal (s : State) (c i op code : Nat) : State :=
  let img := leBytes 4 i ++ leBytes 1 op ++ leBytes 1 code ++ leBytes 1 (s.cstate c) ++ [0] ++ leBytes 8 s.beat
  let s := s.modCtx c fun x => { x with lastRefusal := img }
  ((s.genUp (ctxKey c O_LAST_REFUSAL)).cbump c O_REFUSAL_COUNT 1).craise c O_SQ_FLAGS 0

/-- CONSUMER moved past the front descriptor. -/
def State.stepConsumer (s : State) (c i : Nat) : State :=
  let s := s.modRing c fun r => { r with fetched := r.fetched.filter (·.1 != i) }
  s.setIndices c ((i + 1) % 2 ^ 32) (s.cget c O_COMPLETED)

/-- A command is refused (R400): no side effect but the record, and the flag of an event of its own (STEP_ORDER R270,
SLOT_UNAVAILABLE and SLOT_SEQ_PASSED R384); the ring pauses on it, or passes over it when
CONTINUE_ON_REFUSAL is set. -/
def State.refuseCmd (s : State) (c i : Nat) (d : Bytes) (code : Nat) : State :=
  let s := s.writeStatus c i code false
  let s := s.recordRefusal c i (fld d 0 1) code
  let s := if code == 0xB5 then s.craise c O_DET_FLAGS 2 else s
  let s := if code == 0x47 then s.craise c O_WEIGHT_FLAGS 2 else s
  let s := if code == 0x48 then s.craise c O_WEIGHT_FLAGS 3 else s
  if fld d 1 1 % 2 == 1 then
    let s := s.wr (s.slotAddr c i + 3) (leBytes 1 1)
    let s := (s.modRing c fun r => { r.unhold i with ended := i :: r.ended }).stepConsumer c i
    s.advance c
  else (s.modRing c fun r => r.unhold i).pauseRing c true

/-! ### Issue -/

/-- The sequencer core that serves a context: c mod 4, or the next active core when that one is retired (R392, R460). -/
def State.coreOf (s : State) (c : Nat) : Nat :=
  (((List.range 4).map fun k => (c + k) % 4).find? fun k => s.coreStates.getD k 0 != 2).getD (c % 4)

/-- Is the core that serves a context at work? -/
def State.coreServes (s : State) (c : Nat) : Bool := s.coreStates.getD (s.coreOf c) 0 == 0

/-- Opcodes of R396. -/
def opcodes : List Nat :=
  [0x00, 0x01, 0x02, 0x03, 0x10, 0x11, 0x12, 0x20, 0x21, 0x22, 0x23, 0x30, 0x31, 0x32, 0x33, 0x34, 0x35, 0x40, 0x41,
   0x42]

/-- The descriptor at the front of a ring that may be taken now: the engine works, the context is polled, the ring is
neither paused nor held. -/
def State.front (s : State) (c : Nat) : Option (Nat × Bytes) :=
  let r := (s.ctx c).ring
  if s.coreUp && s.coreServes c && polledState (s.cstate c) && !r.paused && r.holds.isEmpty then r.fetched.head?
  else none

/-- Are the named bytes of a descriptor the only ones from byte 16 on that are not 0? `l` lists first byte and length of
the fields that the command names (R396). -/
def othersZero (d : Bytes) (l : List (Nat × Nat)) : Bool :=
  d.zipIdx.all fun p => p.1 == 0 || p.2 < 16 || l.any fun f => f.1 ≤ p.2 && p.2 < f.1 + f.2

/-- The reserved bits of DFLAGS (R393, R396). -/
def dflagsOk (d : Bytes) : Bool := fld d 1 1 < 4

/-- The step-1 check common to commands: DFLAGS, and bytes that the command does not name (R396, R400). -/
def reservedCheck (d : Bytes) (l : List (Nat × Nat)) : Option Nat :=
  if dflagsOk d && othersZero d l then none else some 0x12

/-- A condition as a check: its code when it does not hold. -/
def need (b : Bool) (code : Nat) : Option Nat := if b then none else some code

/-- Legal states of an opcode (R407), as a mask over CTX_STATE; a STEP_MARK without SET is not legal in CONFIGURED. -/
def legalMask (d : Bytes) : Nat :=
  match fld d 0 1 with
  | 0x00 => 0x3E
  | 0x35 => 0x3E
  | 0x31 => 0x3E
  | 0x33 => 0x3E
  | 0x34 => 0x3E
  | 0x42 => 0x3E
  | 0x10 => 0x3E
  | 0x11 => 0x3E
  | 0x21 => 0x3E
  | 0x23 => 0x3E
  | 0x30 => if fld d 24 1 % 2 == 1 then 0x2E else 0x2C
  | 0x32 => 0x2E
  | 0x22 => 0x2C
  | 0x41 => 0x2C
  | 0x12 => 0x3C
  | 0x40 => 0x3C
  | 0x01 => 0x0C
  | 0x02 => 0x0C
  | 0x03 => 0x0C
  | 0x20 => 0x0C
  | _ => 0

/-- The legal-state check (R400, step 2). -/
def State.stateCheck (s : State) (c : Nat) (d : Bytes) : Option Nat :=
  need (legalMask d / 2 ^ s.cstate c % 2 == 1) 0x21

/-- Commands whose issue makes an ARMED context RUNNING (R408). -/
def runsContext (op : Nat) : Bool := op == 0x01 || op == 0x02 || op == 0x03 || op == 0x20

/-- What an accepted command does first: the context runs, CONSUMER moves, the descriptor is active and counted; with
STOP_ON_ERROR it holds later commands until it has ended (R395, R408). -/
def State.accept (s : State) (c i : Nat) (d : Bytes) : State :=
  let s := if runsContext (fld d 0 1) && s.cstate c == 2 then s.toState c 3 0 else s
  let stop := fld d 1 1 / 2 % 2 == 1
  let s := s.modRing c fun r =>
    { r with active := ⟨i, fld d 0 1, stop⟩ :: r.active
             holds := if stop then .stopOnError i :: r.holds else r.holds }
  let s := s.stepConsumer c i
  let s := s.writeResult c i 0
  (s.cbump c O_COMMANDS_ISSUED 1).bump (unitKey (s.coreOf c) O_CORE_DESCRIPTORS) 1

/-- The front descriptor issued (R400): `checks` are the checks in their order, `run` the effect of the command. An
unlisted opcode is refused with UNSUPPORTED_OP. -/
def State.issueDesc (s : State) (c i : Nat) (d : Bytes) (checks : List (Option Nat)) (run : State → State) : State :=
  if !opcodes.contains (fld d 0 1) then s.refuseCmd c i d 0x13
  else match firstCode checks with
    | some code => s.refuseCmd c i d code
    | none => run (s.accept c i d)

/-- The front descriptor taken when it is the command `mine` speaks of, or one that no command knows. -/
def State.takeFront (s : State) (c : Nat) (mine : Bytes → Bool) (go : Nat → Bytes → State) : State :=
  match s.front c with
  | none => s
  | some (i, d) =>
    if !opcodes.contains (fld d 0 1) then s.refuseCmd c i d 0x13
    else if mine d then go i d else s

/-- A hold added for the descriptor at an index. -/
def State.hold (s : State) (c : Nat) (h : Hold) : State :=
  (s.modRing c fun r => { r with holds := r.holds ++ [h] }).syncRing c

end Sys2Proof.Machine
end

