-- ==== Sys2Proof/Machine/Route.lean ====
section
/-! DEFINITION. Nodes, racks and routes (R318, R320, R321), the bypass and link tables that routes are checked against
(R328), and membership of groups (R351). -/

namespace Sys2Proof.Machine

open Sys2Proof

/-- The rack of a node (R318). -/
def rackOf (n : Nat) : Nat := n / 64

/-- The slot of a node (R318). -/
def slotOf (n : Nat) : Nat := n % 64

/-- Is link `l` trained: UP or DEGRADED (R346)? -/
def State.linkUp (s : State) (l : Nat) : Bool :=
  s.get (unitKey l O_LINK_STATE) == 2 || s.get (unitKey l O_LINK_STATE) == 3

/-- Is some rack link trained? -/
def State.rackUp (s : State) : Bool := (List.range 8).any s.linkUp

/-- Opposite spine direction: 0 +X, 1 −X, 2 +Y, 3 −Y. -/
def oppDir (d : Nat) : Nat := if d % 2 == 0 then d + 1 else d - 1

/-- The node reached from a node by one torus hop (R318, R322). -/
def State.torusHop (s : State) (n d : Nat) : Nat :=
  let tx := s.get O_TORUS_X
  let ty := s.get O_TORUS_Y
  let x := rackOf n % tx
  let y := rackOf n / tx
  let x' := if d == 0 then (x + 1) % tx else if d == 1 then (x + tx - 1) % tx else x
  let y' := if d == 2 then (y + 1) % ty else if d == 3 then (y + ty - 1) % ty else y
  (y' * tx + x') * 64 + slotOf n

/-- Do the tables show the torus link of a node in a direction up (R321, R328)? This engine's own link must be
trained. -/
def State.torusLinkUp (s : State) (n d : Nat) : Bool :=
  !s.spineDown.contains (n * 4 + d) && !s.spineDown.contains (s.torusHop n d * 4 + oppDir d)
    && (n != s.node || s.linkUp (8 + d))

/-- A route (R311, R321): class, and whether the X and Y legs run in the minus direction. -/
structure RouteSel where
  cls : Nat
  xMinus : Bool
  yMinus : Bool
deriving DecidableEq, Repr

/-- Hops of a ring of `n` from `a` to `b` in a direction. -/
def ringHops (n a b : Nat) (minus : Bool) : Nat := if minus then (a + n - b) % n else (b + n - a) % n

/-- Is the minus direction the shorter one? A tie goes to plus (R321). -/
def shortMinus (n a b : Nat) : Bool := ringHops n a b true < ringHops n a b false

/-- The links of one leg: node and direction of each hop, and where it ends. -/
def State.leg (s : State) (d : Nat) : Nat → Nat → List (Nat × Nat) × Nat
  | n, 0 => ([], n)
  | n, k + 1 =>
    let r := State.leg s d (s.torusHop n d) k
    ((n, d) :: r.1, r.2)

/-- The two legs of a torus part from a node to a rack, in the order of a class. -/
def State.legs (s : State) (r : RouteSel) (start dstRack : Nat) : List (Nat × Nat) × Nat × Nat :=
  let tx := s.get O_TORUS_X
  let ty := s.get O_TORUS_Y
  let hx := ringHops tx (rackOf start % tx) (dstRack % tx) r.xMinus
  let hy := ringHops ty (rackOf start / tx) (dstRack / tx) r.yMinus
  let xd := if r.xMinus then 1 else 0
  let yd := if r.yMinus then 3 else 2
  let (d1, h1, d2, h2) := if r.cls == 1 then (yd, hy, xd, hx) else (xd, hx, yd, hy)
  let a := s.leg d1 start h1
  let b := s.leg d2 a.2 h2
  (a.1 ++ b.1, if h1 != 0 && h2 != 0 then a.2 else start, b.2)

/-- Is a route to another rack intact (R321)? -/
def State.intact (s : State) (r : RouteSel) (dst : Nat) : Bool :=
  let start := if r.cls == 2 then rackOf s.node * 64 + slotOf dst else s.node
  let (links, turn, entry) := s.legs r start (rackOf dst)
  links.all (fun l => s.torusLinkUp l.1 l.2)
    && (turn == s.node || !s.bypassed.contains turn)
    && (r.cls == 2 || !s.bypassed.contains entry)
    && (r.cls != 2 || start == s.node || (s.rackUp && !s.bypassed.contains start))

/-- The directions of a class in their order of preference (R321). -/
def State.routeDirs (s : State) (cls dst : Nat) : List RouteSel :=
  let tx := s.get O_TORUS_X
  let ty := s.get O_TORUS_Y
  let mx := shortMinus tx (rackOf s.node % tx) (rackOf dst % tx)
  let my := shortMinus ty (rackOf s.node / tx) (rackOf dst / tx)
  [⟨cls, mx, my⟩, ⟨cls, !mx, my⟩, ⟨cls, mx, !my⟩, ⟨cls, !mx, !my⟩]

/-- Every route to another rack in the order of preference. -/
def State.routes (s : State) (dst : Nat) : List RouteSel := ([0, 1, 2].map fun c => s.routeDirs c dst).flatten

/-- Is there a path to a node: loopback, a trained rack link, or an intact route (R320, R321)? -/
def State.pathTo (s : State) (dst : Nat) : Bool :=
  if dst == s.node then true
  else if rackOf dst == rackOf s.node then s.rackUp
  else (s.routes dst).any fun r => s.intact r dst

/-- Is there a path for a record to a relay (R127): class 00b, or 10b for an alternate relay? -/
def State.pathToRelay (s : State) (dst : Nat) (alt : Bool) : Bool :=
  if rackOf dst == rackOf s.node then s.pathTo dst
  else (s.routeDirs (if alt then 2 else 0) dst).any fun r => s.intact r dst

/-- The first link of a route, and of the paths inside the rack: the lowest trained rack link. -/
def State.firstLink (s : State) (dst : Nat) : Option Nat :=
  if dst == s.node then none
  else if rackOf dst == rackOf s.node then (List.range 8).find? s.linkUp
  else match (s.routes dst).find? fun r => s.intact r dst with
    | none => none
    | some r =>
      if r.cls == 2 && slotOf dst != slotOf s.node then (List.range 8).find? s.linkUp
      else ((s.legs r s.node (rackOf dst)).1.head?).map fun l => 8 + l.2

/-- Is a node held dead (R342)? -/
def State.nodeDead (s : State) (n : Nat) : Bool := s.deadNodes.contains n

/-- The members of a group: its list of 2-byte nodes in rank order (R351). -/
def Group.nodes (g : Group) : List Nat := (chunks 2 g.members).map leNat

/-- The members of context `c`'s exchange group (R154). -/
def State.members (s : State) (c : Nat) : List Nat := (s.group (s.cget c O_EXCHANGE_GROUP)).nodes

/-- The logical rank of a node in a context's exchange group (R263). -/
def State.rankOf (s : State) (c n : Nat) : Nat := ((s.members c).idxOf? n).getD 0

/-- The node as which the engine sends and answers for a context: its own, or the lost partner's for a context that it has
taken over (R469). -/
def State.nodeOf (s : State) (c : Nat) : Nat := if s.heldHalf.contains c then s.get O_PARTNER_NODE else s.node

/-- This engine's logical rank (R263). -/
def State.rank (s : State) (c : Nat) : Nat := s.rankOf c (s.nodeOf c)

end Sys2Proof.Machine
end

