-- ==== Sys2Proof/Machine/Pools.lean ====
section
/-! DEFINITION. Pools (R283 to R290): levels, requests, grants and frees, reference counts, the landing credits that a
pool's level withholds (R145, R146), and CREATE and DELETE. -/

namespace Sys2Proof.Machine

open Sys2Proof

/-- What the answer of a control write is: the new state, or the code of its refusal. -/
abbrev Eff := Except Nat State

/-- The object of the role that a purpose draws on (R289): 0 INPUT, 1 SEND (payloads), 2 LANDING, 3 RELAY, 4 RETURN
(output and statistics areas), 5 LEDGER, 6 RETENTION, 7 COLLECTIVE, 8 SEND (header array and node table), 9 RETURN (the
return area of R139). -/
def roleObj (role : Nat) : Nat := O_BIND_INPUT + (if role == 8 then 1 else if role == 9 then 4 else role)

/-- The pool that context `c` binds for a purpose; FFFFh none. -/
def State.poolFor (s : State) (c role : Nat) : Nat := s.cget c (roleObj role)

/-- A scalar object of pool `p`. -/
def State.pget (s : State) (p k : Nat) : Nat := s.get (unitKey p k)

/-- A scalar object of pool `p` set. -/
def State.pput (s : State) (p k v : Nat) : State := s.put (unitKey p k) v

/-- The size of a buffer of pool `p` (R283). -/
def State.bufSize (s : State) (p : Nat) : Nat := 2 ^ s.pget p O_BUF_SIZE_LOG2

/-- Buffers that `n` bytes take in the pool of a purpose. -/
def State.bufsFor (s : State) (c role n : Nat) : Nat :=
  let b := s.bufSize (s.poolFor c role)
  (n + b - 1) / b

/-! ### Levels (R145, R146, R288) -/

/-- The level entered at a count of free buffers (R288): 0 green, 1 amber, 2 red, 3 black. -/
def enteredLevel (free cnt amber red black : Nat) : Nat :=
  if free * 100 ≤ black * cnt then 3 else if free * 100 ≤ red * cnt then 2 else if free * 100 ≤ amber * cnt then 1 else 0

/-- The level after a change, from the level before (R288): a level is left only one percentage point above its
threshold. -/
def poolLevel (free cnt amber red black old : Nat) : Nat :=
  let raw := enteredLevel free cnt amber red black
  if raw ≥ old then raw
  else
    let left (t : Nat) : Bool := free * 100 ≥ (t + 1) * cnt
    let l := if old == 3 && left black then 2 else old
    let l := if l == 2 && left red then 1 else l
    let l := if l == 1 && left amber then 0 else l
    max l raw

/-- Every credit owed for landing (or relayed) records of context `c` granted at once (R146). -/
def State.grantOwed (s : State) (c : Nat) (relay : Bool) : State :=
  let l := (s.ctx c).owed
  let s := l.foldl (fun s o => if o.relay == relay && o.flits != 0 then s.emit (.credit o.node c o.flits) else s) s
  s.modCtx c fun x => { x with owed := l.filter fun o => o.relay != relay }

/-- FREE_MIN and LEVEL brought up to date (R288), POOL_RED and POOL_BLACK raised (R309), owed credits granted (R146). -/
def State.relevel (s : State) (p : Nat) : State :=
  let free := s.pget p O_FREE_NOW
  let s := s.pput p O_FREE_MIN (min free (s.pget p O_FREE_MIN))
  let old := s.pget p O_LEVEL
  let new := poolLevel free (s.pget p O_BUF_COUNT) (s.pget p O_AMBER_PCT) (s.pget p O_RED_PCT) (s.pget p O_BLACK_PCT) old
  if new == old then s
  else
    let s := s.pput p O_LEVEL new
    let c := s.pget p O_OWNER_CONTEXT
    let s := if new > old && new == 3 then s.craise c O_MEM_FLAGS 1 else s
    let s := if new > old && new == 2 then s.craise c O_MEM_FLAGS 0 else s
    if new < old && new ≤ 1 then
      let s := if s.poolFor c 2 == p then s.grantOwed c false else s
      if s.poolFor c 3 == p then s.grantOwed c true else s
    else s

/-! ### Holding, requesting, freeing (R285 to R287) -/

/-- Buffers that a holder has. -/
def State.held (s : State) (p c tag role : Nat) : Nat :=
  (((s.pool p).uses.filter fun u => u.ctx == c && u.tag == tag && u.role == role).map (·.buffers)).foldl (· + ·) 0

/-- References that a holder has. -/
def State.refsHeld (s : State) (p c tag role : Nat) : Nat :=
  (((s.pool p).uses.filter fun u => u.ctx == c && u.tag == tag && u.role == role).map (·.refs)).foldl (· + ·) 0

/-- A holder's entry set; an empty one is dropped. -/
def State.setUse (s : State) (p c tag role n refs : Nat) : State :=
  s.modPool p fun x =>
    let rest := x.uses.filter fun u => !(u.ctx == c && u.tag == tag && u.role == role)
    { x with uses := if n == 0 && refs == 0 then rest else rest ++ [⟨c, tag, role, n, refs⟩] }

/-- `n` free buffers given to a holder, their reference counts set to 1 (R287). -/
def State.takeBufs (s : State) (p c tag role n : Nat) : State :=
  if n == 0 then s
  else
    let s := s.pput p O_FREE_NOW (s.pget p O_FREE_NOW - n)
    let s := s.bump (unitKey p O_ALLOCS) n
    (s.setUse p c tag role (s.held p c tag role + n) (s.refsHeld p c tag role)).relevel p

/-- `n` buffers of a holder returned to the free list. -/
def State.giveBufs (s : State) (p c tag role n : Nat) : State :=
  let h := s.held p c tag role
  let n := min n h
  if n == 0 then s
  else
    let s := s.setUse p c tag role (h - n) (s.refsHeld p c tag role)
    (s.pput p O_FREE_NOW (s.pget p O_FREE_NOW + n)).relevel p

/-- References added to what a holder has in its pool (R287). -/
def State.addRefs (s : State) (p c tag role n : Nat) : State :=
  s.setUse p c tag role (s.held p c tag role) (s.refsHeld p c tag role + n)

/-- One reference given up; a decrement on a count of 0 is refused and counted as REFCOUNT_FAULT (R287). -/
def State.dropRef (s : State) (p c tag role : Nat) : State :=
  let r := s.refsHeld p c tag role
  if r == 0 then (s.cbump c O_REFCOUNT_FAULTS 1).craise c O_MEM_FLAGS 2
  else s.setUse p c tag role (s.held p c tag role) (r - 1)

/-- Is a list of numbers below another in the order of their first difference? -/
def keyLt : List Nat → List Nat → Bool
  | [], [] => false
  | [], _ => true
  | _, [] => false
  | a :: r, b :: q => a < b || (a == b && keyLt r q)

/-- A waiting request put in its place: order key, ties to the earlier request (R286). -/
def insertWait (w : PoolWait) : List PoolWait → List PoolWait
  | [] => [w]
  | v :: r => if keyLt w.key v.key then w :: v :: r else v :: insertWait w r

/-- A request for `n` buffers (R286): what is free and not waited for is handed out, the rest waits. -/
def State.request (s : State) (c tag role : Nat) (key : List Nat) (n : Nat) : State :=
  let p := s.poolFor c role
  if n == 0 then s
  else
    let free := if (s.pool p).waits.isEmpty then min n (s.pget p O_FREE_NOW) else 0
    let s := s.takeBufs p c tag role free
    if free == n then s
    else
      let s := s.bump (unitKey p O_ALLOC_WAITS) 1
      s.modPool p fun x => { x with waits := insertWait ⟨c, tag, role, key, n, free, s.beat⟩ x.waits }

/-- Does a holder still wait for buffers of a purpose? -/
def State.waits (s : State) (c tag role : Nat) : Bool :=
  (s.pool (s.poolFor c role)).waits.any fun w => w.ctx == c && w.tag == tag && w.role == role

/-- Buffers that a holder's waiting requests still want. -/
def State.wanted (s : State) (c tag role : Nat) : Nat :=
  (((s.pool (s.poolFor c role)).waits.filter fun w => w.ctx == c && w.tag == tag && w.role == role).map
    fun w => w.want - w.got).foldl (· + ·) 0

/-- A holder's waiting requests withdrawn. -/
def State.dropWaits (s : State) (c tag role : Nat) : State :=
  s.modPool (s.poolFor c role) fun x =>
    { x with waits := x.waits.filter fun w => !(w.ctx == c && w.tag == tag && w.role == role) }

/-- Everything a holder has or waits for under a purpose given back (R116, R149). -/
def State.releaseUse (s : State) (c tag role : Nat) : State :=
  let p := s.poolFor c role
  let s := s.modPool p fun x =>
    { x with waits := x.waits.filter fun w => !(w.ctx == c && w.tag == tag && w.role == role) }
  let s := s.giveBufs p c tag role (s.held p c tag role)
  s.setUse p c tag role 0 0

/-- A holder's buffers brought down to a number. -/
def State.shrinkUse (s : State) (c tag role n : Nat) : State :=
  let p := s.poolFor c role
  let h := s.held p c tag role
  if h > n then s.giveBufs p c tag role (h - n) else s

/-- BUFFER_GRANT (R286): a free buffer goes to the first waiting request in key order. -/
def grantOne (s : State) (p : Nat) : State :=
  match (s.pool p).waits with
  | [] => s
  | w :: r =>
    if s.pget p O_FREE_NOW == 0 || s.pget p O_POOL_STATE != 2 then s
    else
      let s := s.takeBufs p w.ctx w.tag w.role 1
      let w := { w with got := w.got + 1 }
      s.modPool p fun x => { x with waits := if w.got ≥ w.want then r else w :: r }

/-! ### Landing credits at the receiver (R137, R145, R148, R152) -/

/-- Credits owed to a sender. -/
def State.owedTo (s : State) (c node : Nat) (relay : Bool) : Owed :=
  ((s.ctx c).owed.find? fun o => o.node == node && o.relay == relay).getD ⟨node, relay, 0, false⟩

/-- Credits owed to a sender set. -/
def State.setOwed (s : State) (c : Nat) (o : Owed) : State :=
  s.modCtx c fun x =>
    let rest := x.owed.filter fun v => !(v.node == o.node && v.relay == o.relay)
    { x with owed := if o.flits == 0 && !o.half then rest else rest ++ [o] }

/-- `n` flits have passed into the landing or relay pool: credits granted, or owed, by the pool's level (R145). -/
def State.passFlits (s : State) (c node : Nat) (relay : Bool) (n : Nat) : State :=
  if n == 0 then s
  else
    let lvl := s.pget (s.poolFor c (if relay then 3 else 2)) O_LEVEL
    let o := s.owedTo c node relay
    if lvl == 0 then s.emit (.credit node c n)
    else if lvl == 1 then
      let m := n + (if o.half then 1 else 0)
      let s := if m / 2 == 0 then s else s.emit (.credit node c (m / 2))
      s.setOwed c ⟨node, relay, o.flits + (n - m / 2), m % 2 == 1⟩
    else s.setOwed c { o with flits := o.flits + n }

/-- Flits that a rule discards: their landing credit goes back to the sender at once (R148, R152). -/
def State.creditBack (s : State) (c node n : Nat) : State := if n == 0 then s else s.emit (.credit node c n)

/-! ### CREATE and DELETE (R283, R284, R290) -/

/-- May the owner's state change pool `p` now: CONFIGURED or HALTED (R307)? -/
def State.ownerOpen (s : State) (p : Nat) : Bool :=
  let c := s.pget p O_OWNER_CONTEXT
  c < 1024 && (s.cstate c == 1 || s.cstate c == 5)

/-- Bytes of the metadata of a pool of `n` buffers, rounded up to 4 KiB (R284). -/
def metaLen (n : Nat) : Nat := (6 * n + 4095) / 4096 * 4096

/-- The checks of CREATE beyond the state (R283, R284). -/
def State.poolCheck (s : State) (p : Nat) : Option Nat :=
  let x := s.ctx (s.pget p O_OWNER_CONTEXT)
  let me := s.nodeOf (s.pget p O_OWNER_CONTEXT)
  let size := s.bufSize p
  let base := s.pget p O_BASE
  let len := s.pget p O_LENGTH
  let m := s.pget p O_META_BASE
  let diag := s.pget p O_LAYOUT == 1
  firstCode
    [need (addrNode base == me && addrNode m == me) 0x12,
     need (addrSpace base == s.pget p O_SPACE && addrSpace m == 1) 0x12,
     need (base % size == 0 && len % size == 0) 0x12,
     need (len / size ≤ 4194304 && (!diag || 16 ≤ s.pget p O_BUF_SIZE_LOG2)) 0x12,
     need (x.inKind (if diag then 1 else 0) base len && x.inKind 2 m (metaLen (len / size))) 0xC4]

/-- The bytes of the free ring and the reference counts that CREATE writes (R284). -/
def freeRing (n : Nat) : Bytes := ((List.range n).map (leBytes 4)).flatten ++ List.replicate (2 * n) 0

/-- POOL_CTRL CREATE (R284): the metadata is written, and the pool is CREATING. -/
def ctlPoolCreate (s : State) (p : Nat) : Eff :=
  if !s.ownerOpen p || s.pget p O_POOL_STATE != 0 then .error 0x21
  else match s.poolCheck p with
    | some code => .error code
    | none =>
      let n := s.pget p O_LENGTH / s.bufSize p
      let s := s.wr (s.pget p O_META_BASE) (freeRing n)
      let s := ((s.pput p O_POOL_STATE 1).pput p O_BUF_COUNT n).pput p O_LEVEL 0
      .ok (s.modPool p fun _ => Pool.init)

/-- A pool becomes ACTIVE: every buffer is free. -/
def activatePool (s : State) (p : Nat) : State :=
  if s.pget p O_POOL_STATE != 1 then s
  else
    let n := s.pget p O_BUF_COUNT
    (((s.pput p O_POOL_STATE 2).pput p O_FREE_NOW n).pput p O_FREE_MIN n).relevel p

/-- POOL_ACTIVE (R284): the ring and the counts are written, and POOL_STATE becomes ACTIVE. -/
def execPoolActive (p : Nat) (s : State) : Host.Outcome State Fault Refusal :=
  finish s (if s.coreUp then activatePool s p else s)

/-- A pool that is NONE again. -/
def State.dropPool (s : State) (p : Nat) : State :=
  let s := (((s.pput p O_POOL_STATE 0).pput p O_BUF_COUNT 0).pput p O_FREE_NOW 0).pput p O_FREE_MIN 0
  ((s.pput p O_LEVEL 0).pput p O_COMMITTED 0).modPool p fun _ => Pool.init

/-- Is pool `p` bound to a role of its owner? -/
def State.poolBound (s : State) (p : Nat) : Bool :=
  (List.range 8).any fun r => s.cget (s.pget p O_OWNER_CONTEXT) (O_BIND_INPUT + r) == p

/-- POOL_CTRL DELETE (R290). -/
def ctlPoolDelete (s : State) (p : Nat) : Eff :=
  if !s.ownerOpen p || s.pget p O_POOL_STATE != 2 || s.poolBound p
      || s.pget p O_FREE_NOW != s.pget p O_BUF_COUNT then .error 0x21
  else .ok (s.dropPool p)

/-- The objects of a pool's configuration. -/
def poolConfig : List Nat :=
  [O_OWNER_CONTEXT, O_SPACE, O_LAYOUT, O_BUF_SIZE_LOG2, O_BASE, O_LENGTH, O_META_BASE, O_AMBER_PCT, O_RED_PCT,
   O_BLACK_PCT, O_ALLOCS, O_ALLOC_WAITS]

/-- Every pool of a context that becomes FREE, deleted and its configuration discarded (R290, R305). -/
def State.dropPools (s : State) (c : Nat) : State :=
  ((List.range 256).filter fun p => s.pget p O_OWNER_CONTEXT == c).foldl
    (fun s p => poolConfig.foldl (fun s k => s.pput p k (objDefault (unitKey p k))) (s.dropPool p)) s

/-- A pool number is bound as a role asks (R289): the pool belongs to the context and is ACTIVE. -/
def State.bindOk (s : State) (c p : Nat) : Bool :=
  p < 256 && s.pget p O_OWNER_CONTEXT == c && s.pget p O_POOL_STATE == 2

/-- Is any pool that the context binds at black (R21)? -/
def State.anyBlack (s : State) (c : Nat) : Bool :=
  (List.range 8).any fun r =>
    let p := s.cget c (O_BIND_INPUT + r)
    p < 256 && s.pget p O_LEVEL == 3

end Sys2Proof.Machine
end

