-- ==== Sys2Proof/Machine/Slots.lean ====
section
/-! DEFINITION. The expert map (R77, R78), the weight-slot table (R365 to R367), the states of the two weight slots (R374)
and the slot a window uses (R30, R375). -/

namespace Sys2Proof.Machine

open Sys2Proof

/-! ### Expert map entries (R77) -/

/-- HOME_RACK of a map entry. -/
def mapRack (v : Nat) : Nat := v / 2 ^ 55 % 512

/-- The number of replicas of a map entry. -/
def mapReps (v : Nat) : Nat := v / 2 ^ 48 % 4 + 1

/-- The field of replica `i`. -/
def mapField (v i : Nat) : Nat := v / 2 ^ (8 * i) % 256

/-- The node of replica `i`. -/
def mapNode (v i : Nat) : Nat := mapRack v * 64 + mapField v i % 64

/-- Is replica `i` live? -/
def mapLive (v i : Nat) : Bool := i < mapReps v && mapField v i / 128 % 2 == 1

/-- The live replicas of an expert in ascending number (R78). -/
def liveReps (v : Nat) : List Nat := (List.range 4).filter (mapLive v)

/-- The replica fields in use, LIVE or not, that point at a node. -/
def fieldsAt (map : List Nat) (node : Nat) : Nat :=
  (map.map fun v => ((List.range (mapReps v)).filter fun i => mapNode v i == node).length).foldl (· + ·) 0

/-- The experts that a map places on a node (R366). -/
def placements (map : List Nat) (node : Nat) : List Nat :=
  (map.zipIdx.filter fun p => (List.range (mapReps p.1)).any fun i => mapNode p.1 i == node).map (·.2)

/-- Every node that carries a LIVE replica, ascending (R101). -/
def liveNodes (map : List Nat) : List Nat :=
  (sortAsc ((map.map fun v => (liveReps v).map (mapNode v)).flatten)).eraseDups

/-! ### The slot table (R365, R366) -/

/-- The place of entry `pos` of the table. -/
def State.slotEntryAddr (s : State) (c pos : Nat) : Option Nat :=
  (((s.ctx c).regions)[s.cget c O_SLOT_TABLE_AREA]?).map fun r => r.base + 64 * pos

/-- How many entries the table holds at most. -/
def State.slotTableMax (s : State) (c : Nat) : Nat :=
  match ((s.ctx c).regions)[s.cget c O_SLOT_TABLE_AREA]? with
  | some r => r.len / 64
  | none => 0

/-- The image of entry `pos`. -/
def State.slotEntry (s : State) (c pos : Nat) : Bytes :=
  match s.slotEntryAddr c pos with
  | some a => s.rd a 64
  | none => List.replicate 64 0

/-- The fields of an entry (R365): expert, layer slot, slot, formats, COLD, pointers. -/
structure SlotEntry where
  expert : Nat
  layer : Nat
  slot : Nat
  wFmt : Nat
  dFmt : Nat
  cold : Bool
  gu : Nat
  guScale : Nat
  down : Nat
  downScale : Nat
  gradGu : Nat
  gradDown : Nat
deriving DecidableEq, Repr

/-- An entry read from its image. -/
def parseSlotEntry (b : Bytes) : SlotEntry :=
  ⟨fld b 0 2, fld b 2 2, fld b 4 1, fld b 5 1, fld b 6 1, fld b 7 1 % 2 == 1, fld b 8 8, fld b 16 8, fld b 24 8,
    fld b 32 8, fld b 40 8, fld b 48 8⟩

/-- The entries of the table, each with its mark. -/
def State.slotEntries (s : State) (c : Nat) : List (SlotMark × SlotEntry) :=
  (s.ctx c).slotMarks.map fun m => (m, parseSlotEntry (s.slotEntry c m.pos))

/-- The entry of a slot, layer slot and expert. -/
def State.findEntry (s : State) (c slot layer expert : Nat) : Option (SlotMark × SlotEntry) :=
  (s.slotEntries c).find? fun p => p.2.slot == slot && p.2.layer == layer && p.2.expert == expert

/-- Is a slot complete for a map: a router entry and one entry per placement of this node, for every layer slot (R366)? -/
def State.slotComplete (s : State) (c slot : Nat) (map : List Nat) : Bool :=
  let es := (s.slotEntries c).map (·.2)
  let want := 0xFFFF :: placements map (s.nodeOf c)
  (List.range (s.cget c O_LAYER_SLOTS)).all fun l =>
    want.all fun e => es.any fun x => x.slot == slot && x.layer == l && x.expert == e

/-- Has every entry of a slot every part written (R374)? -/
def State.slotWritten (s : State) (c slot : Nat) : Bool :=
  (s.slotEntries c).all fun p => p.2.slot != slot || (p.1.guDone && p.1.downDone)

/-- Element bytes and scale-area bytes of a compact matrix of `n` stored rows of `k` elements (R367). -/
def compactLen (fmt n k : Nat) : Nat × Nat :=
  let e := (elemOf fmt).getD .bf16
  let sc := scaleOf fmt
  (n * rowBytes e k, if sc.block == 0 && !escOf fmt then 0 else scaleAreaLen sc false 0 n k)

/-! ### Slot states (R374, R375) -/

/-- SLOT_STATE of a slot: 0 EMPTY, 1 WRITING, 2 READY, 3 ACTIVE, 4 DRAINING. -/
def State.slotState (s : State) (c i : Nat) : Nat := (s.ctx c).slotStates.getD i 0

/-- SLOT_STATE of a slot set. -/
def State.setSlot (s : State) (c i st : Nat) : State :=
  if s.slotState c i == st then s
  else (s.modCtx c fun x => { x with slotStates := x.slotStates.set i st }).genUp (ctxKey c O_SLOT_STATE)

/-- The active slot and the shadow. -/
def State.activeSlot (s : State) (c : Nat) : Nat := s.cget c O_ACTIVE_SLOT
/-- The slot that ACTIVE_SLOT does not name. -/
def State.shadowSlot (s : State) (c : Nat) : Nat := 1 - s.cget c O_ACTIVE_SLOT

/-- The sequence of a batch tag (R9). -/
def tagSeq (tag : Nat) : Nat := tag / 2 % 2 ^ 21

/-- The context of a batch tag (R9). -/
def tagCtx (tag : Nat) : Nat := tag / 2 ^ 22 % 1024

/-- Is sequence `a` at or after `b`, modulo 2^21 (R375)? -/
def seqGe (a b : Nat) : Bool := (a + 2 ^ 21 - b) % 2 ^ 21 < 2 ^ 20

/-- The lowest sequence of which, and after which, no half has launched (R375). -/
def State.lowSeq (s : State) (c : Nat) : Nat :=
  match (s.ctx c).seqTop with
  | none => 0
  | some q => (q + 1) % 2 ^ 21

/-- Can a sequence below `q` still launch (R375): the next one, a half B still to come, or a window that waits? -/
def State.belowCan (s : State) (c q : Nat) : Bool :=
  let x := s.ctx c
  !seqGe x.seqNext q || x.openA.any (fun a => !seqGe a.1 q)
    || x.windows.any fun w => w.phase == .issued && !w.bwd && !seqGe (tagSeq w.tag) q

/-- The slot on which a window of sequence `q` runs (R30, R375). -/
def State.slotFor (s : State) (c q : Nat) : Nat :=
  let a := s.activeSlot c
  match (s.ctx c).switch with
  | some w =>
    if !w.effective then a
    else if (s.ctx c).switchSeen then (if seqGe q w.s then a else 1 - a)
    else (if seqGe q w.s then 1 - a else a)
  | none => a

/-- Is a slot held by an open window that launched on it, or by a window part here that is not done (R374)? -/
def State.slotHeld (s : State) (c i : Nat) : Bool :=
  let x := s.ctx c
  x.windows.any (fun w => w.isOpen && w.phase != .issued && w.slot == i)
    || x.parts.any (fun p => !p.past && !p.done &&
      match x.known.find? fun k => k.tag == p.tag && k.bwd == p.bwd with
      | some ⟨_, _, _, some j, _, _, _, _, _, _⟩ => j == i
      | _ => !p.bwd && s.slotFor c (tagSeq p.tag) == i)

/-- The staging set of a layer slot and weight slot released when no open window and no window part here that is not done
uses it any more (R168). -/
def State.closeStage (s : State) (c slot layer : Nat) : State :=
  let x := s.ctx c
  let used := x.windows.any (fun w => w.isOpen && w.phase != .issued && w.slot == slot && w.layerSlot == layer)
    || x.parts.any fun p => !p.past && !p.done &&
      x.known.any fun k => k.tag == p.tag && k.bwd == p.bwd && k.layerSlot == layer && k.slot == some slot
  if used then s
  else s.modCtx c fun x => { x with stages := x.stages.filter fun g => !(g.slot == slot && g.layer == layer) }

/-- A DRAINING slot whose last holder has let go becomes READY, and a switch after which no sequence below S can launch
is over (R374, R375). Staging sets filled from the slot are released. -/
def State.settleSlots (s : State) (c : Nat) : State :=
  let s := match (s.ctx c).switch with
    | some w =>
      if (s.ctx c).switchSeen && !s.belowCan c w.s then
        s.modCtx c fun x => { x with switch := none, switchSeen := false }
      else s
    | none => s
  [0, 1].foldl (fun s i =>
    if s.slotState c i == 4 && !s.slotHeld c i then
      (s.modCtx c fun x => { x with stages := x.stages.filter fun g => g.slot != i }).setSlot c i 2
    else s) s

/-- The slot a launching window takes (R375): the first window of S or later makes the shadow ACTIVE and the old slot
DRAINING. -/
def State.launchSlot (s : State) (c q : Nat) : State × Nat :=
  let s := s.modCtx c fun x =>
    { x with seqTop := match x.seqTop with
        | none => some q
        | some t => if seqGe q t then some q else some t }
  match (s.ctx c).switch with
  | some w =>
    if w.effective && !(s.ctx c).switchSeen && seqGe q w.s then
      let old := s.activeSlot c
      let s := (s.cput c O_ACTIVE_SLOT (1 - old)).cbump c O_SLOT_SWITCHES 1
      let s := (s.setSlot c (1 - old) 3).setSlot c old 4
      let s := s.modCtx c fun x => { x with switchSeen := true }
      (s, 1 - old)
    else (s, s.slotFor c q)
  | none => (s, s.activeSlot c)

end Sys2Proof.Machine
end

