-- ==== Sys2Proof/Machine/Windows.lean ====
section
/-! DEFINITION. The closing of windows: missing answers, crumbs (R220), kept ledgers (R121), close notices (R147), the end
of a window that was cancelled or ended otherwise (R17, R18), the deadline close of a Loose or Set window (R15), and the
entry into HALTED (R409). -/

namespace Sys2Proof.Machine

open Sys2Proof

/-- The tag under which pools know a window: its batch tag, apart for a backward window. -/
def Window.holder (w : Window) : Nat := w.tag + (if w.bwd then 2 ^ 32 else 0)

/-- The order key of a window (R140): deadline beat, context, half, dispatch before return. -/
def Window.orderKey (w : Window) (c : Nat) : List Nat := [w.deadline, c, w.tag % 2, 0]

/-- The entry carries a copy: ORIGIN 01b or 11b (R119). -/
def copySent (e : LedgerCopy) : Bool := e.origin == 1 || e.origin == 3

/-- The entry takes part in the backward pass (R27, R122). -/
def copyBack (e : LedgerCopy) : Bool := copySent e && e.returned && !e.late

/-- The entries of a ledger that a window of a direction sends, each with its token. -/
def ledgerEntries (l : Ledger) (bwd : Bool) : List (Nat × LedgerCopy) :=
  (l.toks.zipIdx.map fun t => (t.1.copies.filter fun e => if bwd then copyBack e else copySent e).map fun e => (t.2, e)).flatten

/-- Has an answer been accepted for an entry of a window? -/
def Window.answered (w : Window) (t : Nat) (e : LedgerCopy) : Bool :=
  if w.bwd then w.ret.any fun r => r.token == t && r.pos == e.pos else e.returned

/-- Answers of a window that have not returned; before stage 2 has ended, every choice counts (R15, R22). -/
def Window.missing (w : Window) (topK : Nat) : Nat :=
  match w.ledger with
  | none => w.tokens * topK
  | some l => ((ledgerEntries l w.bwd).filter fun p => !w.answered p.1 p.2).length

/-- LATE set in every entry that was sent and has not returned (R217). -/
def ledgerMarkLate (l : Ledger) : Ledger :=
  { l with
    closed := true
    toks := l.toks.map fun t =>
      { t with copies := t.copies.map fun e => { e with late := e.late || (copySent e && !e.returned) } } }

/-! ### Crumbs (R220) -/

/-- A batch tag enters the crumb table of a context (R220). -/
def State.crumbEnter (s : State) (c tag : Nat) : State :=
  let l := ((s.ctx c).crumbs.filter (·.tag != tag))
  let full := l.length ≥ s.cget c O_CRUMB_DEPTH
  let s := if full then s.cbump c O_CRUMB_EVICTED 1 else s
  let l := (if full then l.drop (l.length + 1 - s.cget c O_CRUMB_DEPTH) else l) ++ [⟨tag, s.beat⟩]
  let s := (s.modCtx c fun x => { x with crumbs := l }).genUp (ctxKey c O_CRUMB_LIST)
  s.mirrorAll .crumb c ([O_CRUMB_HITS, O_ORPHANS, O_CRUMB_EVICTED].map fun k => (ctxKey c k, s.cget c k)) [tag, s.beat] [] none

/-- A crumb leaves the table because a window of its tag launches (R220). -/
def State.crumbLeave (s : State) (c tag : Nat) : State :=
  if (s.ctx c).crumbs.any (·.tag == tag) then
    (s.modCtx c fun x => { x with crumbs := x.crumbs.filter (·.tag != tag) }).genUp (ctxKey c O_CRUMB_LIST)
  else s

/-- CRUMB_EXPIRY (R220): an entry that has been held CRUMB_HOLD_BEATS leaves the table. -/
def execCrumbExpiry (c tag : Nat) (s : State) : Host.Outcome State Fault Refusal :=
  finish s <|
    if s.coreUp && (s.ctx c).crumbs.any fun k => k.tag == tag && s.beat ≥ k.beat + s.cget c O_CRUMB_HOLD_BEATS then
      s.crumbLeave c tag
    else s

/-! ### Kept ledgers (R121) -/

/-- A kept ledger freed, with its buffers. -/
def State.freeLedger (s : State) (c tag : Nat) : State :=
  (s.modCtx c fun x => { x with ledgers := x.ledgers.filter (·.tag != tag) }).releaseUse c tag 5

/-- The oldest kept ledgers beyond LEDGER_KEEP freed (R121); `n` bounds how many. -/
def State.evictLedgers (s : State) (c : Nat) : Nat → State
  | 0 => s
  | n + 1 =>
    match (s.ctx c).ledgers with
    | [] => s
    | l :: r =>
      if r.length + 1 > s.cget c O_LEDGER_KEEP then
        State.evictLedgers ((s.freeLedger c l.tag).cbump c O_LEDGER_EVICTED 1) c n
      else s

/-- The ledger of a forward window that closes: kept when LEDGER_KEEP is above 0, freed otherwise (R121). -/
def State.keepLedger (s : State) (c : Nat) (w : Window) : State :=
  match w.ledger with
  | none => s.releaseUse c w.holder 5
  | some l =>
    if s.cget c O_LEDGER_KEEP == 0 then s.releaseUse c w.holder 5
    else
      let s := s.modCtx c fun x => { x with ledgers := x.ledgers ++ [l] }
      let s := s.mirrorAll .ledger c [] [l.tag] [] (some l)
      s.evictLedgers c (s.ctx c).ledgers.length

/-! ### Next hops and close notices (R99 to R101, R147) -/

/-- The next hop of a copy bound for `dst` (R99, R100): node, relay, alternate; none when the rack cannot be reached. -/
def State.nextHop (s : State) (c : Nat) (dark : List Nat) (dst : Nat) : Option (Nat × Bool × Bool) :=
  if s.cget c O_EXCHANGE_MODE == 0 || rackOf dst == rackOf (s.nodeOf c) then some (dst, false, false)
  else
    let r := rackOf dst * 64 + slotOf (s.nodeOf c)
    if !dark.contains r then some (r, true, false)
    else
      let a := rackOf dst * 64 + (slotOf (s.nodeOf c) + 32) % 64
      if (s.members c).contains a && !dark.contains a then some (a, true, true) else none

/-- The nodes that a window's copies may go to: the live replicas of its map, or the nodes of its forward ledger. -/
def Window.finals (w : Window) : List Nat :=
  match w.bwd, w.ledger with
  | true, some l => (sortAsc ((ledgerEntries l true).map fun p => p.2.node)).eraseDups
  | _, _ => liveNodes w.map

/-- Insert a destination in ascending node order, once. -/
def insertDest (d : Nat × Bool × Bool) : List (Nat × Bool × Bool) → List (Nat × Bool × Bool)
  | [] => [d]
  | e :: r => if d.1 < e.1 then d :: e :: r else if d.1 == e.1 then e :: r else e :: insertDest d r

/-- The destination set of a window in ascending node order (R101): node, relay, alternate. -/
def State.destSet (s : State) (c : Nat) (w : Window) : List (Nat × Bool × Bool) :=
  (w.finals.filterMap (s.nextHop c w.dark)).foldl (fun acc d => insertDest d acc) []

/-- What a window that closes short does (R147): records not sent are counted, and a close notice goes to every node of
the destination set. -/
def State.closeNotices (s : State) (c : Nat) (w : Window) : State :=
  let sent := (w.flows.map (·.sent)).foldl (· + ·) 0
  let s := s.cbump c O_UNSENT_RECORDS (w.headers.length - sent)
  (s.destSet c w).foldl (fun s d => s.emit (.close d.1 w.tag (s.nodeOf c) d.2.1)) s

/-! ### Ends of windows -/

/-- Everything a window holds in pools given back, its ledger apart. -/
def State.releaseWindow (s : State) (c : Nat) (w : Window) : State :=
  [0, 1, 4, 8, 9].foldl (fun s r => s.releaseUse c w.holder r) s

/-- Known windows that have closed and whose part here has ended are forgotten (R538). -/
def State.dropKnown (s : State) (c : Nat) : State :=
  s.modCtx c fun x =>
    { x with known := x.known.filter fun k =>
        x.windows.any (fun w => w.tag == k.tag && w.bwd == k.bwd && w.isOpen)
          || !x.parts.any fun p => p.tag == k.tag && p.bwd == k.bwd && p.past && p.done }

/-- The descriptor of a window ends with a status, and the window is gone (R398). -/
def State.endWindow (s : State) (c : Nat) (w : Window) (code : Nat) : State :=
  let s := s.modCtx c fun x => x.dropWin w
  let s := s.mirror .windowState c [w.tag, 0]
  let s := if w.launched.isSome then s.closeStage c w.slot w.layerSlot else s
  ((s.endDesc c w.idx code).settleSlots c).dropKnown c

/-- A window that ends with no output: cancelled (26h), DEADLINE_MISS (33h), SEND_ABORTED (37h), BEAT_JUMP (B2h) or
LAUNCH_LATE (B4h). It closes at once, its tag becomes a crumb, its buffers and its ledger return (R17, R18, R121, R220). -/
def State.abandon (s : State) (c : Nat) (w : Window) (code : Nat) : State :=
  let s := if w.phase != .issued && w.missing (s.cget c O_TOP_K) != 0 then s.closeNotices c w else s
  let s := s.crumbEnter c w.tag
  let s := if code == 0x33 || code == 0x37 then
      (s.cbump c O_DEADLINE_MISS_COUNT 1).cput c O_LAST_SHORT_TAG w.tag
    else s
  let s := s.releaseWindow c w
  let s := if w.bwd then s else s.releaseUse c w.holder 5
  let s := if w.launched.isNone && !(s.ctx c).parts.any (fun p => p.tag == w.tag && p.bwd == w.bwd) then
      s.modCtx c fun x => { x with known := x.known.filter fun k => !(k.tag == w.tag && k.bwd == w.bwd) }
    else s
  s.endWindow c w code

/-- The context enters HALTED (R409): HALT_CAUSE, and every open window is cancelled; the window whose event it was ends
with that event's code. -/
def State.enterHalted (s : State) (c code : Nat) (cause : Option Window) : State :=
  let s := s.cput c O_HALT_CAUSE code
  let s := s.toState c 5 code
  ((s.ctx c).windows.filter Window.isOpen).foldl
    (fun s w => s.abandon c w (if cause.any (fun v => v.tag == w.tag && v.bwd == w.bwd && v.idx == w.idx) then code else 0x26)) s

/-- Is the context ARMED, RUNNING or DRAINING? -/
def State.working (s : State) (c : Nat) : Bool := s.cstate c == 2 || s.cstate c == 3 || s.cstate c == 4

/-- A D2 step ends with a code (R17, R151, R251, R255, R364): the context goes to HALTED. -/
def State.endStep (s : State) (c code : Nat) (cause : Option Window) : State :=
  if s.working c then s.enterHalted c code cause else s

/-- The counters of a window that closed with answers missing (R15, R155). -/
def State.countShort (s : State) (c tag miss : Nat) : State :=
  if miss == 0 then s
  else
    let s := (s.cbump c O_LATE_ANSWERS miss).cbump c O_WINDOWS_SHORT 1
    (s.bump O_WINDOWS_SHORT_ALL 1).cput c O_LAST_SHORT_TAG tag

/-- A window closed at its deadline in D0 or D1 (R15): the missing answers are counted, injection stops, LATE is set, and
the window accepts nothing more. Its remaining rows are formed afterwards (R229). -/
def State.closeDeadline (s : State) (c : Nat) (w : Window) : State :=
  let miss := w.missing (s.cget c O_TOP_K)
  let s := s.countShort c w.tag miss
  let s := if w.phase != .issued && miss != 0 then s.closeNotices c w else s
  let w := if w.bwd then w else { w with ledger := w.ledger.map ledgerMarkLate }
  let s := if w.bwd then
      s.modCtx c fun x => { x with ledgers := x.ledgers.map fun l => if l.tag == w.tag then { l with bwdDone := true } else l }
    else s.keepLedger c w
  let s := [0, 1, 8].foldl (fun s r => s.releaseUse c w.holder r) s
  let s := s.modCtx c fun x => x.setWin { w with phase := .closed, closedShort := miss != 0 }
  let s := if w.launched.isSome then s.closeStage c w.slot w.layerSlot else s
  ((s.mirror .windowState c [w.tag, 2]).settleSlots c).dropKnown c

end Sys2Proof.Machine
end

