-- ==== Sys2Proof/Machine/Wire.lean ====
section
/-! DEFINITION. Records on the wire: payload and record lengths (R112, R113, R138), the largest of them (R115, R141), and
the receive reservation (R141). -/

namespace Sys2Proof.Machine

open Sys2Proof

/-- A length rounded up to a multiple of 16. -/
def align16 (n : Nat) : Nat := (n + 15) / 16 * 16

/-- Element and block-scale bytes of a row of `h` elements in a format byte (R112). -/
def payBase (fmt h : Nat) : Nat :=
  rowBytes ((elemOf fmt).getD .bf16) h + (let b := (scaleOf fmt).block; if b == 0 then 0 else h / b)

/-- The payload length (R112, R113): `slabs` slabs carry escapes when the ESC bit is set; a backward dispatch has its gate
block. -/
def payLen (fmt h slabs : Nat) (gateBlock : Bool) : Nat :=
  align16 (payBase fmt h + (if escOf fmt then 16 + 32 * slabs else 0)) + (if gateBlock then 32 else 0)

/-- Are escapes used on dispatch payloads of context `c` (R111)? -/
def State.escDispatch (s : State) (c : Nat) : Bool :=
  elemOf (s.cget c O_DISPATCH_FMT) == some .e2m1 && s.cget c O_ESCAPE_DISPATCH == 1

/-- The FORMAT byte of a dispatch payload (R108, R111). -/
def State.dispatchFmt (s : State) (c : Nat) (bwd : Bool) : Nat :=
  if bwd then s.cget c O_BWD_DISPATCH_FMT else s.cget c O_DISPATCH_FMT + (if s.escDispatch c then 2 else 0)

/-- The FORMAT byte of a return (R138). -/
def State.returnFmt (s : State) (c : Nat) (bwd : Bool) : Nat :=
  if bwd then s.cget c O_BWD_RETURN_FMT else s.cget c O_RETURN_FMT

/-- The hidden width of a context. -/
def State.hidden (s : State) (c : Nat) : Nat := s.cget c O_HIDDEN_WIDTH

/-- The inner width of a context. -/
def State.inner (s : State) (c : Nat) : Nat := s.cget c O_INNER_WIDTH

/-- P_max: the payload length with every slab escaped (R115). -/
def State.payMax (s : State) (c : Nat) (bwd : Bool) : Nat :=
  payLen (s.dispatchFmt c bwd) (s.hidden c) (s.hidden c / 128) bwd

/-- The length of a return record (R138). -/
def State.returnLen (s : State) (c : Nat) (bwd : Bool) : Nat := 32 + payLen (s.returnFmt c bwd) (s.hidden c) 0 false

/-- L_max (R141). -/
def State.lMax (s : State) (c : Nat) : Nat :=
  max (32 + s.payMax c false + s.returnLen c false) (32 + s.payMax c true + s.returnLen c true)

/-- The quota of R80 for a window of `t` tokens. -/
def State.quota (s : State) (c t : Nat) : Nat :=
  let d := 16 * s.cget c O_EXPERT_COUNT
  if d == 0 then 0 else (s.cget c O_CAPACITY_FACTOR * t * s.cget c O_TOP_K + d - 1) / d

/-- RESERVE (R141) under a map. -/
def State.reserveFor (s : State) (c : Nat) (map : List Nat) : Nat :=
  s.cget c O_WINDOWS_OPEN_MAX * (s.members c).length * fieldsAt map (s.nodeOf c) * s.quota c (s.cget c O_WINDOW_TOKENS_MAX)
    * s.lMax c

/-- The length in bytes of a record (R112). -/
def recLen (r : Record) : Nat := 32 + r.payload.length

/-- Flits of 256 bytes (R131). -/
def flitsOf (n : Nat) : Nat := (n + 255) / 256

/-- KIND of a record (R109). -/
def recKind (h : RecHeader) : Nat := h.flags / 8 % 4

/-- A bit of FLAGS (R109): 0 LAST, 1 CONT, 2 RELAY, 5 ALT. -/
def recFlag (h : RecHeader) (b : Nat) : Bool := h.flags / 2 ^ b % 2 == 1

/-- FLAGS from its parts (R109). -/
def mkFlags (kind : Nat) (last cont relay alt : Bool) : Nat :=
  (if last then 1 else 0) + (if cont then 2 else 0) + (if relay then 4 else 0) + 8 * kind + (if alt then 32 else 0)

end Sys2Proof.Machine
end

