-- ==== Sys2Proof/Machine/Ctl.lean ====
section
/-! DEFINITION. The control writes of a context (CTX_CTRL, R408, R409, R537) and of its ring (RING_CTRL, R402): what each
does and the code it is refused with. -/

namespace Sys2Proof.Machine

open Sys2Proof

/-! ### Discarding a context -/

/-- Is a key an object of context `c`? -/
def isCtxKey (c k : Nat) : Bool := 0x800000 + c * 4096 ≤ k && k < 0x801000 + c * 4096

/-- STR and DOMAIN objects of a context that the engine updates when the context is discarded (R429). -/
def ctxDomains : List Nat :=
  [O_LAST_REFUSAL, O_EXPERT_ENABLE, O_STEP_REQUESTED, O_STEP_KEPT, O_STEP_DROPPED, O_STEP_SPILL_IN, O_EXPERT_MAP, O_BIAS,
   O_LS_PAGES, O_HBM_EXTENTS, O_REGIONS, O_SRC_WINDOWS, O_SNAP_RING, O_CRUMB_LIST, O_SLOT_STATE, O_COLL_LAST_RESULT]

/-- Every object, flag count and structure of a context at its default (R408, R415, R442). -/
def State.clearCtx (s : State) (c : Nat) : State :=
  let s := { s with
    objs := s.objs.filter fun p => !isCtxKey c p.1
    raises := s.raises.filter fun p => !isCtxKey c (p.1 / 32) }
  (s.setCtx c Ctx.init)

/-- The owner tables of 2300h have changed (R306, R429). -/
def State.ownersUp (s : State) : State := (s.genUp O_PAGE_OWNER).genUp O_EXTENT_OWNER

/-- Pages and extents of a context that leave it: they read WIPING until their wipe ends (R303, R304). -/
def State.wipeUnits (s : State) (pages extents : List Nat) : State :=
  if pages.isEmpty && extents.isEmpty then s
  else
    { s with
      wipingPages := s.wipingPages ++ sortAsc pages
      wipingExtents := s.wipingExtents ++ sortAsc extents }.ownersUp

/-- The groups of a context that becomes FREE, deleted (R352). -/
def State.dropGroups (s : State) (c : Nat) : State :=
  { s with groups := s.groups.filter fun p => p.2.owner != c }

/-- RESERVE released from the landing pool (R143). -/
def State.releaseReserve (s : State) (c : Nat) : State :=
  if s.cget c O_RESERVE_CHECK == 0 then s
  else
    let p := s.poolFor c 2
    s.pput p O_COMMITTED (s.pget p O_COMMITTED - s.cget c O_RESERVE)

/-- Does context `c` belong to this engine's half (R465)? -/
def State.ownHalf (s : State) (c : Nat) : Bool := (c / 512 == 0) == (s.get O_TWIN_ROLE == 0)

/-! ### ARM (R537) -/

/-- Is the exchange group a full product of racks and slots (R128)? -/
def fullProduct (nodes : List Nat) : Bool :=
  let racks := (nodes.map rackOf).eraseDups
  let slots := (nodes.map slotOf).eraseDups
  racks.all fun a => slots.all fun t => nodes.contains (a * 64 + t)

/-- The roles that the configuration needs (R289). -/
def State.rolesNeeded (s : State) (c : Nat) : List Nat :=
  [0, 1, 2, 4, 5] ++ (if s.cget c O_EXCHANGE_MODE == 1 then [3] else [])
    ++ (if s.cget c O_RETAIN_MODE != 0 then [6] else [])
    ++ (if (s.groups.any fun p => p.2.active && p.2.owner == c && p.1 != s.cget c O_EXCHANGE_GROUP)
          || (s.cget c O_CARAMEL_MODE == 1 && s.cget c O_SCOPE == 1) then [7] else [])

/-- The bytes of a staging set: every placement of one layer slot of a weight slot, the largest such (R167). -/
def State.stageSetLen (s : State) (c slot : Nat) : Nat :=
  listMax <| (List.range (s.cget c O_LAYER_SLOTS)).map fun l =>
    (((s.slotEntries c).map (·.2)).filter fun e => e.slot == slot && e.layer == l && e.expert != 0xFFFF).foldl
      (fun n e =>
        let a := compactLen e.wFmt (2 * s.inner c) (s.hidden c)
        let b := compactLen e.dFmt (s.hidden c) (s.inner c)
        n + a.1 + a.2 + b.1 + b.2) 0

/-- STAGE_REGION can hold STAGE_SETS sets (R308). -/
def State.stageFits (s : State) (c : Nat) : Bool :=
  s.cget c O_STAGE_SETS == 0 ||
    match ((s.ctx c).regions)[s.cget c O_STAGE_REGION]? with
    | some r => s.cget c O_STAGE_SETS * s.stageSetLen c (s.activeSlot c) ≤ r.len
    | none => false

/-- The capacity of a pool in bytes. -/
def State.poolBytes (s : State) (p : Nat) : Nat := s.pget p O_BUF_COUNT * s.bufSize p

/-- The checks of ARM in the order of R537. -/
def State.armCheck (s : State) (c : Nat) : Option Nat :=
  let g := s.group (s.cget c O_EXCHANGE_GROUP)
  let slot := s.activeSlot c
  let map := (s.ctx c).map
  let p := s.poolFor c 2
  firstCode
    [need (s.hidden c != 0 && s.inner c != 0 && s.cget c O_EXPERT_COUNT != 0
        && s.cget c O_TOP_K ≤ s.cget c O_EXPERT_COUNT) 0x12,
     need (g.active && g.owner == c && g.nodes.contains (s.nodeOf c)) 0x12,
     need (s.cget c O_EXCHANGE_MODE == 0 || fullProduct g.nodes) 0x12,
     need ((s.rolesNeeded c).all fun r => s.cget c (O_BIND_INPUT + r) != 0xFFFF) 0xC7,
     need (s.stageFits c) 0x23,
     need (s.slotState c slot == 2 && s.slotComplete c slot map) 0x47,
     need (s.cget c O_STAGE_SETS != 0 || !(s.slotEntries c).any fun e => e.2.slot == slot && e.2.cold) 0x23,
     need (s.cget c O_RESERVE_CHECK == 0 || s.pget p O_COMMITTED + s.reserveFor c map ≤ s.poolBytes p) 0x23]

/-- ARM accepted: RESERVE committed, the slot named by ACTIVE_SLOT becomes ACTIVE, every sender holds its landing credits
(R137, R143, R408). -/
def State.doArm (s : State) (c : Nat) : State :=
  let r := s.reserveFor c (s.ctx c).map
  let p := s.poolFor c 2
  let s := s.cput c O_RESERVE r
  let s := if s.cget c O_RESERVE_CHECK == 1 then s.pput p O_COMMITTED (s.pget p O_COMMITTED + r) else s
  let s := s.setSlot c (s.activeSlot c) 3
  let s := s.modCtx c fun x => { x with credits := [], owed := [] }
  s.toState c 2 0

/-! ### CTX_CTRL (R408) -/

/-- CLAIM (R408, R466). -/
def ctlClaim (s : State) (c : Nat) : Eff :=
  if s.cstate c != 0 then .error 0x21
  else if s.paired && !s.ownHalf c then .error 0xFC
  else .ok ((s.clearCtx c).toState c 1 0)

/-- ARM (R537). A refusal with SLOT_UNAVAILABLE raises its flag (R384). -/
def ctlArm (s : State) (c : Nat) : Eff :=
  if s.cstate c != 1 then .error 0x21
  else match s.armCheck c with
    | some code => .error code
    | none => .ok (s.doArm c)

/-- DISARM (R408): RESERVE is released; no slot is ACTIVE while the context is CONFIGURED. -/
def ctlDisarm (s : State) (c : Nat) : Eff :=
  if s.cstate c != 2 then .error 0x21
  else
    let s := s.releaseReserve c
    let s := [0, 1].foldl (fun s i => if s.slotState c i == 3 || s.slotState c i == 4 then s.setSlot c i 2 else s) s
    .ok (s.toState c 1 0)

/-- DRAIN (R408): windows that have not launched are cancelled; the context is ARMED once nothing is left. -/
def ctlDrain (s : State) (c : Nat) : Eff :=
  if s.cstate c != 3 then .error 0x21
  else
    let s := s.toState c 4 0
    .ok (((s.ctx c).windows.filter fun w => w.phase == .issued).foldl (fun s w => s.abandon c w 0x26) s)

/-- HALT (R408, R409). -/
def ctlHalt (s : State) (c : Nat) : Eff :=
  if s.working c then .ok (s.enterHalted c 0 none) else .error 0x21

/-- The pause of a ring ends: descriptors are read again from CONSUMER (R402). -/
def State.unpause (s : State) (c : Nat) : State :=
  (s.modRing c fun r => { r with paused := false, onDesc := false, fetched := [] }).syncRing c

/-- RESUME (R408). -/
def ctlResume (s : State) (c : Nat) : Eff :=
  if s.cstate c != 5 then .error 0x21
  else
    let s := if (s.ctx c).ring.paused then s.unpause c else s
    .ok (s.toState c 2 0)

/-- RELEASE (R408): the context becomes FREE; its memory is wiped, its groups and pools deleted, RESERVE released. -/
def ctlRelease (s : State) (c : Nat) : Eff :=
  let st := s.cstate c
  if st == 1 || st == 2 || st == 5 || st == 6 then
    let x := s.ctx c
    let s := if st == 1 then s else s.releaseReserve c
    let s := (s.dropGroups c).dropPools c
    let s := { s with items := s.items.filter (·.ctx != c), gradHeld := s.gradHeld.filter (·.ctx != c),
                      heldHalf := s.heldHalf.filter (· != c) }
    let s := s.setCState c 0 0
    let s := s.clearCtx c
    let s := ctxDomains.foldl (fun s k => s.genUp (ctxKey c k)) s
    .ok (s.wipeUnits x.lsPages x.hbmExtents)
  else .error 0x21

/-- A write of CTX_CTRL (R408, R536). -/
def ctlCtx (s : State) (c v : Nat) : Eff :=
  match v with
  | 1 => ctlClaim s c
  | 2 => ctlArm s c
  | 3 => ctlDisarm s c
  | 4 => ctlDrain s c
  | 5 => ctlHalt s c
  | 6 => ctlResume s c
  | 7 => ctlRelease s c
  | _ => .error 0x12

/-! ### RING_CTRL (R402) -/

/-- CONTINUE (R402): the paused descriptor is read again. -/
def ctlContinue (s : State) (c : Nat) : Eff :=
  if (s.ctx c).ring.paused then .ok (s.unpause c) else .error 0x21

/-- SKIP (R402): DONE on the paused descriptor, and the ring advances. -/
def ctlSkip (s : State) (c : Nat) : Eff :=
  let r := (s.ctx c).ring
  if !r.paused then .error 0x21
  else if !r.onDesc then .ok (s.unpause c)
  else
    let i := s.cget c O_CONSUMER
    let s := s.wr (s.slotAddr c i + 3) (leBytes 1 1)
    let s := s.modRing c fun r => { r with ended := i :: r.ended }
    .ok (((s.stepConsumer c i).advance c).unpause c)

/-- FLUSH (R402): every descriptor from CONSUMER up to PRODUCER ends with FLUSHED, open loops with it. -/
def State.flushRing (s : State) (c : Nat) : State :=
  let cons := s.cget c O_CONSUMER
  let prod := if s.cget c O_RING_BASE == 0 then cons else s.producer c
  let far := idxDiff prod cons
  let is := (List.range (min far (s.cget c O_RING_ENTRIES))).map fun i => (cons + i) % 2 ^ 32
  let loops := (s.ctx c).ring.loops
  let busy := (s.ctx c).ring.active.any fun a => !loops.any fun l => l.first == a.idx
  let s := is.foldl (fun s i => s.writeStatus c i 0x28 true) s
  let s := s.modRing c fun r =>
    { r with
      fetched := [], paused := false, onDesc := false, loops := [], producer := prod, afterLaunchAt := none
      holds := r.holds.filter fun h => match h with | .windowLimit _ => false | _ => true
      ended := (if busy then (List.range far).map fun i => (cons + i) % 2 ^ 32 else is) ++ r.ended }
  let s := s.setIndices c prod (s.cget c O_COMPLETED)
  let s := (loops.foldl (fun s l => s.endDesc c l.first 0x28) s).advance c
  if busy then s else (s.modRing c fun r => { r with ended := [] }).setIndices c prod prod

/-- FLUSH (R402): while the ring is paused, or in HALTED. -/
def ctlFlush (s : State) (c : Nat) : Eff :=
  if (s.ctx c).ring.paused || s.cstate c == 5 then .ok (s.flushRing c) else .error 0x21

/-- A write of RING_CTRL (R402, R536). -/
def ctlRing (s : State) (c v : Nat) : Eff :=
  match v with
  | 1 => ctlContinue s c
  | 2 => ctlSkip s c
  | 3 => ctlFlush s c
  | _ => .error 0x12

end Sys2Proof.Machine
end

