-- ==== Sys2Proof/Machine/Sq.lean ====
section
/-! DEFINITION. The sequencer's own commands (R385 to R406): the poll of a ring, NOP, WAIT_BEAT, FENCE, loops, CANCEL_BATCH,
STEP_MARK (R252, R253), DIGEST_SNAP (R265), and the order of events at one beat boundary (R254). -/

namespace Sys2Proof.Machine

open Sys2Proof

/-! ### The order at a boundary (R254) -/

/-- Is a window due to launch, and not waiting for admission? -/
def Window.launchDue (w : Window) (b : Nat) : Bool := w.phase == .issued && !w.deferred && w.dueBeat ≤ b

/-- Has the deadline beat of an open window come? -/
def Window.deadlineDue (w : Window) (b : Nat) : Bool :=
  w.isOpen && (w.launched.isSome || w.deferred) && w.deadline ≤ b

/-- The scheduled events of a context, each with its beat and its position in R254; launches count only while the context
can launch. -/
def Ctx.dueList (x : Ctx) (launches : Bool) : List (Nat × Nat) :=
  (x.ring.pendingSnaps.map fun p => (p.2, 1)) ++ (x.ring.pendingCancels.map fun p => (p.2.2, 7))
    ++ ((x.windows.filter fun w => w.isOpen && (w.launched.isSome || w.deferred)).map fun w => (w.deadline, 2))
    ++ (x.ring.holds.filterMap fun h => match h with
        | .checkpoint _ t => some (t, 3)
        | .stepMark _ _ t _ => some (t, 4)
        | .launchAt _ t _ => some (t, 4)
        | .waitBeat _ t => some (t, 7)
        | _ => none)
    ++ (match x.switch with
        | some w => if w.effective then [] else [(w.beat, 5)]
        | none => [])
    ++ (if launches then
          (x.windows.filter fun w => w.phase == .issued && !w.deferred).map fun w => (w.dueBeat, 6)
        else [])

/-- Is an event due that comes before one of beat `t` at position `pos`: in order of the due beat, then of R254 (R250)? -/
def State.dueBelow (s : State) (pos t : Nat) : Bool :=
  s.ctxs.any fun p => (p.2.dueList (s.cstate p.1 == 3)).any fun e =>
    e.1 ≤ s.beat && (e.1 < t || (e.1 == t && e.2 < pos))

/-! ### Uncorrectable reads (R457) -/

/-- A context that has read a poisoned line goes to HALTED with HALT_CAUSE E9h (R457). -/
def State.memHalt (s : State) (c : Nat) (cause : Option Window) : State :=
  let st := s.cstate c
  if st == 0 || st == 5 || st == 6 then s else s.enterHalted c 0xE9 cause

/-! ### Fetching (R389, R390) -/

/-- The descriptors of the fetch window: from CONSUMER up to PRODUCER, at most 16. -/
def State.fetchWindow (s : State) (c : Nat) : List (Nat × Bytes) :=
  let cons := s.cget c O_CONSUMER
  let n := min (idxDiff (s.ctx c).ring.producer cons) 16
  (List.range n).map fun k =>
    let i := (cons + k) % 2 ^ 32
    (i, s.rd (s.slotAddr c i) 64)

/-- Descriptors of the fetch window that have not been read before are read now (R390). -/
def State.fetchMore (s : State) (c : Nat) : State :=
  let l := s.fetchWindow c
  s.modRing c fun r =>
    { r with fetched := r.fetched ++ (l.filter fun p => !r.fetched.any fun q => q.1 == p.1) }

/-- The descriptors of the fetch window read afresh (R406). -/
def State.refetch (s : State) (c : Nat) : State :=
  let l := s.fetchWindow c
  s.modRing c fun r => { r with fetched := l }

/-- Contexts whose ring is due at a tick (R390). -/
def State.pollsDue (s : State) (t : Nat) : List Nat :=
  (s.claimed.filter fun c => polledState (s.cstate c)).filter fun c =>
    t % (s.ctx c).pollTicks == c % (s.ctx c).pollTicks

/-- A poll of the ring of context `c` (R386, R388, R390). -/
def pollRing (s : State) (c : Nat) : State :=
  let s := s.cbump c O_POLLS 1
  if s.cget c O_RING_BASE == 0 then s
  else
    let prod := s.producer c
    let cons := s.cget c O_CONSUMER
    if (s.ctx c).ring.paused then s
    else if idxDiff prod cons > s.cget c O_RING_ENTRIES then
      ((s.craise c O_SQ_FLAGS 1).recordRefusal c prod 0 0x25).pauseRing c false
    else if s.isPoisoned (s.cget c O_RING_BASE) (64 + 64 * s.cget c O_RING_ENTRIES) then s.memHalt c none
    else (s.modRing c fun r => { r with producer := prod }).fetchMore c

/-- RING_POLL (R390, R391): at its tick, or moved by a tick for each tick on which more than 64 polls are due. -/
def execRingPoll (c tick : Nat) (s : State) : Host.Outcome State Fault Refusal :=
  let p := (s.ctx c).pollTicks
  let moved := (tick + 256 - c % p) % p
  finish s <|
    if !(s.coreUp && s.coreServes c && polledState (s.cstate c) && tick < 256) then s
    else if tick == 0 && s.dueBelow 8 s.beat then s
    else if moved != 0 && (s.pollsDue ((tick + 256 - moved) % 256)).length ≤ 64 then s
    else pollRing (s.cbump c O_POLL_DEFERRED moved) c

/-! ### NOP and WAIT_BEAT (R396, R403) -/

/-- The checks of a command without operands (R396, R407). -/
def bareChecks (s : State) (c : Nat) (d : Bytes) : List (Option Nat) := [reservedCheck d [], s.stateCheck c d]

/-- NOP: ends at issue (R396). -/
def issueNop (s : State) (c i : Nat) (d : Bytes) : State :=
  s.issueDesc c i d (bareChecks s c d) fun s => s.endDesc c i 0

/-- NOP (R396). -/
def execNop (c : Nat) (s : State) : Host.Outcome State Fault Refusal :=
  finish s (s.takeFront c (fun d => fld d 0 1 == 0x00) fun i d => issueNop s c i d)

/-- The checks of WAIT_BEAT (R396, R403, R407). -/
def waitChecks (s : State) (c : Nat) (d : Bytes) : List (Option Nat) :=
  [reservedCheck d [(16, 8), (24, 1)], need (fld d 24 1 < 2) 0x12,
    need (fld d 24 1 != 1 || (1 ≤ fld d 16 8 && fld d 16 8 ≤ 2 ^ 32)) 0x12, s.stateCheck c d]

/-- The beat whose boundary a WAIT_BEAT waits for (R403): one that has begun means the next. -/
def State.waitTarget (s : State) (d : Bytes) : Nat :=
  let v := fld d 16 8
  if fld d 24 1 == 1 then s.beat + v else if v ≤ s.beat then s.beat + 1 else v

/-- WAIT_BEAT in either mode (R403). -/
def issueWaitBeat (s : State) (c i : Nat) (d : Bytes) : State :=
  s.issueDesc c i d (waitChecks s c d) fun s => s.hold c (.waitBeat i (s.waitTarget d))

/-- WAIT_BEAT in ABSOLUTE mode (R403). -/
def execWaitBeatAbsolute (c : Nat) (s : State) : Host.Outcome State Fault Refusal :=
  finish s (s.takeFront c (fun d => fld d 0 1 == 0x31 && fld d 24 1 != 1) fun i d => issueWaitBeat s c i d)

/-- WAIT_BEAT in RELATIVE mode (R403). -/
def execWaitBeatRelative (c : Nat) (s : State) : Host.Outcome State Fault Refusal :=
  finish s (s.takeFront c (fun d => fld d 0 1 == 0x31 && fld d 24 1 == 1) fun i d => issueWaitBeat s c i d)

/-- The WAIT_BEAT that holds a ring: its index and its beat. -/
def Ring.waiting (r : Ring) : Option (Nat × Nat) :=
  (r.holds.filterMap fun h => match h with | .waitBeat i b => some (i, b) | _ => none).head?

/-- WAIT_BEAT_RELEASE (R403): at the boundary of its beat, at position 7 of R254, the wait ends. -/
def execWaitBeatRelease (c : Nat) (s : State) : Host.Outcome State Fault Refusal :=
  finish s <|
    match (s.ctx c).ring.waiting with
    | some (i, b) => if s.coreUp && b ≤ s.beat && !s.dueBelow 7 b then s.endDesc c i 0 else s
    | none => s

/-! ### FENCE (R404) -/

/-- FENCE: holds later commands (R404). -/
def issueFence (s : State) (c i : Nat) (d : Bytes) : State :=
  s.issueDesc c i d (bareChecks s c d) fun s => s.hold c (.fence i s.nextId)

/-- FENCE (R404). -/
def execFence (c : Nat) (s : State) : Host.Outcome State Fault Refusal :=
  finish s (s.takeFront c (fun d => fld d 0 1 == 0x35) fun i d => issueFence s c i d)

/-- The FENCE that holds a ring: its index, and the first remote operation it does not wait for. -/
def Ring.fenced (r : Ring) : Option (Nat × Nat) :=
  (r.holds.filterMap fun h => match h with | .fence i u => some (i, u) | _ => none).head?

/-- A remote operation that FENCE and FLAGGED_STORE wait for: a store, an atomic or a copy chunk (R334, R404). -/
def opWrites : RemoteOp → Bool
  | .load => false
  | .copyGet => false
  | _ => true

/-- FENCE_RELEASE (R404): every other descriptor has ended, the loops around it apart, and every remote write that left
before it has been acknowledged or has ended under R343. -/
def execFenceRelease (c : Nat) (s : State) : Host.Outcome State Fault Refusal :=
  let r := (s.ctx c).ring
  finish s <|
    match r.fenced with
    | none => s
    | some (i, u) =>
      let busy := r.active.any fun a => a.idx != i && !r.loops.any fun l => l.first == a.idx
      let open_ := s.remotes.any fun q => q.req.srcCtx == c && opWrites q.req.op && q.req.id < u
      if !s.coreUp || busy || open_ then s
      else
        let lost := r.lostWrite.any (· < u)
        let s := s.modRing c fun r => { r with lostWrite := r.lostWrite.filter fun k => !(k < u) }
        s.endDesc c i (if lost then 0x51 else 0)

/-! ### Loops (R187, R406) -/

/-- Opcodes whose commands write memory, for which a LOOP_MEM waits (R187). -/
def writesMemory (op : Nat) : Bool :=
  [0x01, 0x02, 0x03, 0x10, 0x11, 0x12, 0x20, 0x21, 0x23, 0x41].contains op

/-- Does an earlier command of the ring still write memory, or a summary remain to be written (R187)? -/
def Ctx.writing (x : Ctx) : Bool :=
  x.ring.active.any (fun a => writesMemory a.op)
    || x.known.any fun k => k.summary != 0 && !x.parts.any fun p => p.tag == k.tag && p.bwd == k.bwd && p.done

/-- LOOP_MEM entered with a trip count. -/
def enterLoop (s : State) (c i len n : Nat) : State :=
  let last := (i + len - 1) % 2 ^ 32
  let s := s.writeResult c i n
  if n == 0 then
    let body := (List.range (len - 1)).map fun k => (i + 1 + k) % 2 ^ 32
    let s := body.foldl (fun s k => s.wr (s.slotAddr c k + 3) (leBytes 1 1)) s
    let s := s.modRing c fun r =>
      { r with fetched := r.fetched.filter fun p => !body.contains p.1, ended := body ++ r.ended }
    (s.setIndices c ((last + 1) % 2 ^ 32) (s.cget c O_COMPLETED)).endDesc c i 0
  else s.modRing c fun r => { r with loops := ⟨i, last, 0, n⟩ :: r.loops }

/-- The checks of LOOP_MEM's own operands (R396, R406). -/
def loopEarly (s : State) (c : Nat) (d : Bytes) : List (Option Nat) :=
  let addr := fld d 16 8
  let len := fld d 24 2
  [reservedCheck d [(16, 8), (24, 2)], need (2 ≤ len && len ≤ 1024 && addr % 4 == 0) 0x12,
    need (len ≤ s.cget c O_RING_ENTRIES) 0x12]

/-- Those of the state, the count's address and the body's last command (R406, R407). -/
def loopShape (s : State) (c i : Nat) (d : Bytes) : List (Option Nat) :=
  loopEarly s c d ++ [s.stateCheck c d, (s.ctx c).checkRead (fld d 16 8) 4,
    need (s.rdNat (s.slotAddr c ((i + fld d 24 2 - 1) % 2 ^ 32)) 1 == 0x34) 0x12]

/-- All checks of LOOP_MEM: the trip limit and the depth of nesting last (R406). -/
def loopChecks (s : State) (c i : Nat) (d : Bytes) : List (Option Nat) :=
  loopShape s c i d ++ [need (!(s.rdNat (fld d 16 8) 4 > s.cget c O_LOOP_TRIP_MAX)) 0x12,
    need ((s.ctx c).ring.loops.length < 4) 0x23]

/-- LOOP_MEM (R187, R406). It waits until PRODUCER covers its END_LOOP and no earlier command writes memory. -/
def issueLoopMem (s : State) (c i : Nat) (d : Bytes) : State :=
  let addr := fld d 16 8
  let len := fld d 24 2
  let x := s.ctx c
  let early := loopEarly s c d
  if (firstCode early).isSome then s.issueDesc c i d early id
  else if idxDiff x.ring.producer i < len || x.writing then s
  else
    let n := s.rdNat addr 4
    let tooMany := n > s.cget c O_LOOP_TRIP_MAX
    let checks := loopChecks s c i d
    let flag := firstCode (loopShape s c i d) == none && tooMany
    let s := if flag then s.craise c O_EF_FLAGS 3 else s
    if (firstCode checks).isNone && s.isPoisoned addr 4 then
      ((s.accept c i d).endDesc c i 0xE9).memHalt c none
    else s.issueDesc c i d checks fun s => enterLoop s c i len n

/-- LOOP_MEM (R187). -/
def execLoopMem (c : Nat) (s : State) : Host.Outcome State Fault Refusal :=
  finish s (s.takeFront c (fun d => fld d 0 1 == 0x33) fun i d => issueLoopMem s c i d)

/-- END_LOOP reached: the body is read again, or the loop ends (R406). -/
def endIteration (s : State) (c i : Nat) (l : LoopFrame) : State :=
  let s := s.cbump c O_LOOP_ITERATIONS 1
  let s := s.endDesc c i 0
  if l.iter + 1 < l.count then
    let n := idxDiff l.last l.first
    let s := s.modRing c fun r =>
      { r with
        loops := { l with iter := l.iter + 1 } :: r.loops.drop 1
        ended := r.ended.filter fun k => !(1 ≤ idxDiff k l.first && idxDiff k l.first ≤ n) }
    (s.setIndices c ((l.first + 1) % 2 ^ 32) (s.cget c O_COMPLETED)).refetch c
  else (s.modRing c fun r => { r with loops := r.loops.drop 1 }).endDesc c l.first 0

/-- The checks of END_LOOP: it must be the last command of the innermost loop (R396, R406, R407). -/
def endLoopChecks (s : State) (c i : Nat) (d : Bytes) : List (Option Nat) :=
  [reservedCheck d [], s.stateCheck c d, need ((s.ctx c).ring.loops.head?.any fun l => l.last == i) 0x12]

/-- END_LOOP (R406): refused outside any loop. -/
def issueEndLoop (s : State) (c i : Nat) (d : Bytes) : State :=
  let l := (s.ctx c).ring.loops.head?
  s.issueDesc c i d (endLoopChecks s c i d) fun s =>
    match l with
    | some l => endIteration s c i l
    | none => s

/-- END_LOOP (R406). -/
def execEndLoop (c : Nat) (s : State) : Host.Outcome State Fault Refusal :=
  finish s (s.takeFront c (fun d => fld d 0 1 == 0x34) fun i d => issueEndLoop s c i d)

/-! ### CANCEL_BATCH (R18, R405) -/

/-- The checks of CANCEL_BATCH (R396, R407). -/
def cancelChecks (s : State) (c : Nat) (d : Bytes) : List (Option Nat) := [reservedCheck d [(16, 4)], s.stateCheck c d]

/-- The window of a tag cancelled (R405). From the first tick of its deadline beat a window is no longer open. -/
def State.cancelTag (s : State) (c i tag : Nat) : State :=
  match (s.ctx c).findOpen tag with
  | some w => if w.deadlineDue s.beat then s.endDesc c i 0x24 else (s.abandon c w 0x26).endDesc c i 0
  | none => s.endDesc c i 0x24

/-- CANCEL_BATCH takes effect at issue (R405). -/
def issueCancelBatch (s : State) (c i : Nat) (d : Bytes) : State :=
  s.issueDesc c i d (cancelChecks s c d) fun s => s.cancelTag c i (fld d 16 4)

/-- CANCEL_BATCH in a run that a LAUNCH_AT releases at beat `b` (R255): it takes effect at position 7 of R254, after the
windows of the run have launched. -/
def releaseCancelBatch (s : State) (c i : Nat) (d : Bytes) (b : Nat) : State :=
  s.issueDesc c i d (cancelChecks s c d) fun s =>
    s.modRing c fun r => { r with pendingCancels := r.pendingCancels ++ [(i, fld d 16 4, b)] }

/-- A cancel of a released run carried out once everything before it at its boundary is over (R254, R255). -/
def State.cancelDue (s : State) (c : Nat) : State :=
  match (s.ctx c).ring.pendingCancels with
  | [] => s
  | (i, tag, b) :: l =>
    if s.coreUp && b ≤ s.beat && !s.dueBelow 7 b then
      (s.modRing c fun r => { r with pendingCancels := l }).cancelTag c i tag
    else s

/-- CANCEL_BATCH (R405). -/
def execCancelBatch (c : Nat) (s : State) : Host.Outcome State Fault Refusal :=
  finish s (s.takeFront c (fun d => fld d 0 1 == 0x40) fun i d => issueCancelBatch s c i d)

/-! ### STEP_MARK (R252, R253) -/

/-- The step counter of context `c` (R252). -/
def State.stepNo (s : State) (c : Nat) : Nat := s.cget c O_STEP % 2 ^ 48

/-- The checks of STEP_MARK: STEP_NO follows the step counter, but for a SET in CONFIGURED or HALTED (R252, R396). -/
def markChecks (s : State) (c : Nat) (d : Bytes) : List (Option Nat) :=
  [reservedCheck d [(16, 8), (24, 1)], need (fld d 16 8 < 2 ^ 48 && fld d 24 1 < 2) 0x12, s.stateCheck c d,
    need (fld d 16 8 == s.stepNo c + 1 || (fld d 24 1 % 2 == 1 && (s.cstate c == 1 || s.cstate c == 5))) 0xB5]

/-- STEP_MARK is issued (R252): it holds the ring until the boundary at which it takes effect (R253). -/
def issueStepMark (s : State) (c i : Nat) (d : Bytes) : State :=
  let n := fld d 16 8
  let set := fld d 24 1 % 2 == 1
  let at_ := (s.ctx c).ring.afterLaunchAt
  s.issueDesc c i d (markChecks s c d)
    fun s =>
      let s := s.modRing c fun r => { r with step := n, stepped := true, afterLaunchAt := none }
      let s := s.modCtx c fun x => { x with mbCounts := x.mbCounts.filter fun p => p.1 != n }
      s.hold c (.stepMark i n (at_.getD (s.beat + 1)) set)

/-- STEP_MARK (R252). -/
def execStepMark (c : Nat) (s : State) : Host.Outcome State Fault Refusal :=
  finish s (s.takeFront c (fun d => fld d 0 1 == 0x30) fun i d => issueStepMark s c i d)

/-- STEP objects moved to PREV objects and set to 0 (R57, R232). -/
def State.rollStep (s : State) (c : Nat) : State :=
  [(O_AMAX_FWD_STEP, O_AMAX_FWD_PREV), (O_AMAX_GRAD_STEP, O_AMAX_GRAD_PREV), (O_STEP_DIGEST, O_PREV_STEP_DIGEST),
   (O_RET_SENT_STEP, O_RET_SENT_PREV), (O_RET_ACC_STEP, O_RET_ACC_PREV)].foldl
    (fun s p => (s.cput c p.2 (s.cget c p.1)).cput c p.1 0) s

/-- An array of EXPERT_COUNT zeros. -/
def State.zeroCounts (s : State) (c : Nat) : List Nat := List.replicate (s.cget c O_EXPERT_COUNT) 0

/-- The counts of the step that mark `m` began (R86). -/
def State.stepCounts (s : State) (c m step : Nat) : StepCounts :=
  ((s.ctx c).counts.find? (·.mark == m)).getD
    ⟨m, step, s.zeroCounts c, s.zeroCounts c, s.zeroCounts c, s.zeroCounts c, false, false⟩

/-- The counts of a step put back, in the order in which the steps began. -/
def State.setStepCounts (s : State) (c : Nat) (k : StepCounts) : State :=
  s.modCtx c fun x =>
    { x with counts := if x.counts.any (·.mark == k.mark) then
        x.counts.map fun v => if v.mark == k.mark then k else v else x.counts ++ [k] }

/-- A written CARAMEL_MODE takes effect at the STEP_MARK (R90). -/
def State.applyCaramelMode (s : State) (c : Nat) : State :=
  match (s.ctx c).caramelReq with
  | none => s
  | some m =>
    let s := s.modCtx c fun x => { x with caramelReq := none }
    match m with
    | 1 => ((s.cput c O_CARAMEL_STATE 1).cput c O_STEPS_RUN 0).modCtx c fun x => { x with settled := 0 }
    | 2 => s.cput c O_CARAMEL_STATE 4
    | _ =>
      let s := (s.cput c O_CARAMEL_STATE 0).modCtx c fun x =>
        { x with
          bias := List.replicate (s.cget c O_EXPERT_COUNT) 0
          windows := x.windows.map fun w => if w.launched.isSome && w.bias.isNone then { w with bias := some x.bias } else w }
      s.genUp (ctxKey c O_BIAS)

/-- The actions of a STEP_MARK at its boundary, in one action (R57, R86, R88, R90, R93, R232, R252, R259). -/
def State.stepMarkEffect (s : State) (c n : Nat) : State :=
  let m := (s.ctx c).marks
  let k := s.stepCounts c m (s.stepNo c)
  let was := s.cget c O_CARAMEL_STATE == 1
  let s := s.setStepCounts c { k with marked := true }
  let s := s.applyCaramelMode c
  let due := was && s.cget c O_CARAMEL_STATE == 1
  let s := (s.rollStep c).cput c O_STEP n
  let s := s.cput c O_STEP_ANCHOR s.beat
  let s := s.modCtx c fun x =>
    { x with hasAnchor := true, lastLaunch := none, marks := m + 1
             caramelDue := if due then x.caramelDue ++ [m] else x.caramelDue }
  s.mirrorState c

/-- The STEP_MARK that holds a ring: its index, its step and its beat. -/
def Ring.marking (r : Ring) : Option (Nat × Nat × Nat) :=
  (r.holds.filterMap fun h => match h with | .stepMark i n b _ => some (i, n, b) | _ => none).head?

/-- STEP_MARK_EFFECT (R253): at its beat boundary, at position 4 of R254. -/
def execStepMarkEffect (c : Nat) (s : State) : Host.Outcome State Fault Refusal :=
  finish s <|
    match (s.ctx c).ring.marking with
    | some (i, n, b) =>
      if s.coreUp && b ≤ s.beat && !s.dueBelow 4 b then (s.stepMarkEffect c n).endDesc c i 0 else s
    | none => s

/-! ### DIGEST_SNAP (R265) -/

/-- The checks of DIGEST_SNAP (R396, R407). -/
def snapChecks (s : State) (c : Nat) (d : Bytes) : List (Option Nat) := [reservedCheck d [(16, 8)], s.stateCheck c d]

/-- DIGEST_SNAP is issued: the capture is due at its beat, or at the next boundary (R265). -/
def issueDigestSnap (s : State) (c i : Nat) (d : Bytes) : State :=
  let b := fld d 16 8
  s.issueDesc c i d (snapChecks s c d) fun s =>
    s.modRing c fun r => { r with pendingSnaps := r.pendingSnaps ++ [(i, if b ≤ s.beat then s.beat + 1 else b)] }

/-- DIGEST_SNAP (R265). -/
def execDigestSnap (c : Nat) (s : State) : Host.Outcome State Fault Refusal :=
  finish s (s.takeFront c (fun d => fld d 0 1 == 0x42) fun i d => issueDigestSnap s c i d)

/-- A snapshot entered in the ring of 8 entries (R265, R271). -/
def State.snap (s : State) (c : Nat) : State :=
  let e : Snapshot := ⟨s.beat, s.cget c O_STEP, s.cget c O_STEP_DIGEST, s.cget c O_RET_SENT_STEP, s.cget c O_RET_ACC_STEP⟩
  let s := s.modCtx c fun x =>
    let l := x.snaps ++ [e]
    { x with snaps := l.drop (l.length - 8) }
  (s.bumpW 32 (ctxKey c O_SNAP_COUNT) 1).genUp (ctxKey c O_SNAP_RING)

/-- DIGEST_SNAP_CAPTURE (R265): at the boundary of its beat, at position 1 of R254. -/
def execDigestSnapCapture (c : Nat) (s : State) : Host.Outcome State Fault Refusal :=
  finish s <|
    match (s.ctx c).ring.pendingSnaps.find? fun p => p.2 ≤ s.beat with
    | some (i, b) =>
      if s.coreUp && !s.dueBelow 1 b then
        let s := s.modRing c fun r => { r with pendingSnaps := r.pendingSnaps.erase (i, b) }
        (s.snap c).endDesc c i 0
      else s
    | none => s

end Sys2Proof.Machine
end

