-- ==== Sys2Proof/Machine/Layer.lean ====
section
/-! DEFINITION. The operands and checks of LAYER_FWD and LAYER_BWD (R397 to R400). -/

namespace Sys2Proof.Machine

open Sys2Proof

/-! ### The operands of a layer command -/

/-- Bytes of one row of a token mask (R66). -/
def maskRowLen (experts : Nat) : Nat := (experts + 511) / 512 * 64

/-- Bytes of an element of LOGIT_GRAD_FMT (R236). -/
def State.dzElem (s : State) (c : Nat) : Nat := if s.cget c O_LOGIT_GRAD_FMT == 0x30 then 2 else 4

/-- The step that a LAYER command belongs to (R253): that of the last STEP_MARK before it in the ring. -/
def State.ringStep (s : State) (c : Nat) : Nat :=
  let r := (s.ctx c).ring
  if r.stepped then r.step else s.stepNo c

/-- How many half-A windows of a step and layer slot have been issued (R264). -/
def Ctx.mbCount (x : Ctx) (step layer : Nat) : Nat :=
  match x.mbCounts.find? fun p => p.1 == step && p.2.1 == layer with
  | some p => p.2.2
  | none => 0

/-- The number of half-A windows of a step and layer slot set. -/
def Ctx.setMb (x : Ctx) (step layer n : Nat) : Ctx :=
  { x with mbCounts := x.mbCounts.filter (fun p => !(p.1 == step && p.2.1 == layer)) ++ [(step, layer, n)] }

/-- The send buffers hold a payload of every length the context may form (R115). -/
def State.sendFits (s : State) (c : Nat) (bwd : Bool) : Bool := s.payMax c bwd ≤ s.bufSize (s.poolFor c 1)

/-- The checks of LAYER_FWD in the order of R400. -/
def State.fwdChecks (s : State) (c : Nat) (d : Bytes) : List (Option Nat) :=
  let x := s.ctx c
  let t := fld d 56 4
  let hm := fld d 63 1
  let row := 2 * s.hidden c
  let halfB := fld d 62 1 == 1
  [reservedCheck d [(16, 48)],
   need (fld d 62 1 < 2 && hm < 16) 0x12,
   need (1 ≤ t && t ≤ s.cget c O_WINDOW_TOKENS_MAX && fld d 60 2 < s.cget c O_LAYER_SLOTS) 0x12,
   need (s.cget c O_EXPERT_COUNT != 0 && t * s.cget c O_TOP_K ≤ 1048576) 0x12,
   s.stateCheck c d,
   x.addrCheck (hm % 2 == 1) false false (fld d 16 8) (t * row),
   x.addrCheck (hm / 2 % 2 == 1) true false (fld d 24 8) (t * row),
   if s.cget c O_ROW_STATS == 0 then none else x.addrCheck (hm / 4 % 2 == 1) true true (fld d 32 8) (t * 16),
   x.addrCheck (hm / 8 % 2 == 1) false true (fld d 40 8) (t * maskRowLen (s.cget c O_EXPERT_COUNT)),
   x.addrCheck false true true (fld d 48 8) 32,
   need (!halfB || !x.openA.isEmpty) 0x12,
   need (halfB || x.mbCount (s.ringStep c) (fld d 60 2) < 2048) 0x12,
   need (s.sendFits c false) 0x12,
   need (s.det c != 2 || x.hasAnchor) 0xB5]

/-- The ledger that a LAYER_BWD names. -/
def Ctx.findLedger (x : Ctx) (tag : Nat) : Option Ledger := x.ledgers.find? (·.tag == tag)

/-- The checks of LAYER_BWD in the order of R400: the ledger is looked up before any address. -/
def State.bwdChecks (s : State) (c : Nat) (d : Bytes) : List (Option Nat) :=
  let x := s.ctx c
  let hm := fld d 20 1
  let l := x.findLedger (fld d 16 4)
  let t := (l.map (·.tokens)).getD 0
  let row := 2 * s.hidden c
  let e := s.cget c O_EXPERT_COUNT
  let grad := s.cget c O_ROUTER_GRAD == 1
  [reservedCheck d [(16, 5), (24, 40)],
   need (hm < 16) 0x12,
   s.stateCheck c d,
   need l.isSome 0x35,
   x.addrCheck (hm % 2 == 1) false false (fld d 24 8) (t * row),
   x.addrCheck (hm / 2 % 2 == 1) true false (fld d 32 8) (t * row),
   if grad then x.addrCheck (hm / 4 % 2 == 1) true false (fld d 40 8) (t * e * s.dzElem c) else none,
   if grad then x.addrCheck (hm / 8 % 2 == 1) false true (fld d 48 8) (t * e * 4) else none,
   x.addrCheck false true true (fld d 56 8) 32,
   need (s.sendFits c true) 0x12,
   need (s.det c != 2 || x.hasAnchor) 0xB5]

end Sys2Proof.Machine
end

