-- ==== Sys2Proof/Machine/Copy.lean ====
section
/-! DEFINITION. COPY in its five modes and LAYOUT (R294 to R298). The Tensor Mover's bytes move when the command issues; its
descriptor ends with TENSOR_MOVER_DONE. -/

namespace Sys2Proof.Machine

open Sys2Proof

/-- What moves together of a run of elements: element bytes, block scales, row entries of the escape area (R40, R50). -/
structure Piece where
  elems : Bytes
  scales : Bytes
  esc : Bytes
deriving DecidableEq, Repr

/-- Pieces one after the other. -/
def Piece.cat (l : List Piece) : Piece :=
  ⟨(l.map (·.elems)).flatten, (l.map (·.scales)).flatten, (l.map (·.esc)).flatten⟩

/-- Has the scale area of a tensor an escape area (R40)? -/
def State.descEsc (s : State) (d : TDesc) : Bool := d.scale != 0 && s.rdNat (d.scale + 5) 1 == 1

/-- Slabs of a row (R48). -/
def TDesc.slabs (d : TDesc) : Nat := d.dim 0 / 128

/-- Row `r` of a tensor with its scales and escapes. -/
def State.piece (s : State) (d : TDesc) (r : Nat) : Piece :=
  ⟨s.descRow d r, if d.scale == 0 then [] else s.descScales d r,
    if s.descEsc d then
      s.rd (d.scale + s.rdNat (d.scale + 8) 4 + 16 * d.slabs * (r + 1)) (16 * d.slabs)
    else []⟩

/-- The piece of all-zero bytes as long as a row of a tensor. -/
def State.zeroPiece (s : State) (d : TDesc) : Piece :=
  ⟨List.replicate d.rowLen 0, if d.scale == 0 then [] else List.replicate d.scalesPerRow 0,
    if s.descEsc d then List.replicate (16 * d.slabs) 0 else []⟩

/-- The slab headers of a tensor's escape area (R50). -/
def State.slabHeaders (s : State) (d : TDesc) : Bytes :=
  if s.descEsc d then s.rd (d.scale + s.rdNat (d.scale + 8) 4) (16 * d.slabs) else []

/-- Where the escape area of a tensor that is written begins: 16 bytes and the block scales before it, rounded up. -/
def TDesc.escStart (d : TDesc) : Nat := (16 + d.rows * d.scalesPerRow + 15) / 16 * 16

/-- Bytes of the scale area that a copy writes. -/
def TDesc.outScaleLen (d : TDesc) (esc : Bool) : Nat :=
  if d.scale == 0 then 0
  else if esc then d.escStart + 16 * d.slabs * (d.rows + 1) else 16 + d.rows * d.scalesPerRow

/-- One row written: elements, block scales, escape entries. -/
def State.setPiece (s : State) (d : TDesc) (esc : Bool) (r : Nat) (p : Piece) : State :=
  let s := s.setDescRow d r p.elems
  if d.scale == 0 then s
  else
    let s := s.wr (d.scale + 16 + r * d.scalesPerRow) p.scales
    if esc then s.wr (d.scale + d.escStart + 16 * d.slabs * (r + 1)) p.esc else s

/-- The header of a scale area that a copy writes: tensor scale and kind as in the source. -/
def State.setScaleHeader (s : State) (src d : TDesc) (heads : Bytes) : State :=
  if d.scale == 0 || src.scale == 0 then s
  else
    let esc := s.descEsc src
    let h := s.rd src.scale 5 ++ (if esc then [1] else [0]) ++ [0, 0] ++ leBytes 4 (if esc then d.escStart else 0)
      ++ leBytes 4 0
    let s := s.wr d.scale h
    if esc then s.wr (d.scale + d.escStart) heads else s

/-- Do two spans share a byte? -/
def overlap (a n b m : Nat) : Bool := n != 0 && m != 0 && a < b + m && b < a + n

/-- Does a destination overlap its source (R295)? -/
def State.copyOverlaps (s : State) (src dst : TDesc) : Bool :=
  let dl := dst.outScaleLen (s.descEsc src)
  let sl := s.descScaleLen src
  overlap dst.base dst.span src.base src.span || overlap dst.base dst.span src.scale sl
    || overlap dst.scale dl src.base src.span || overlap dst.scale dl src.scale sl

/-! ### Rows of the five modes -/

/-- A list entry clamped to the last block of each dimension (R296): its coordinates, and whether one was clamped. -/
def clampCoords (dims blk coords : List Nat) : List Nat × Bool :=
  let lim := (dims.zip blk).map fun p => p.1 / p.2 - 1
  let l := (coords.zip lim).map fun p => min p.1 p.2
  (l, l != coords)

/-- The row numbers of the block that an entry names, in the order of the block's own indices. -/
def blockRows (d : TDesc) (blk coords : List Nat) : List Nat :=
  let n := blk.foldl (· * ·) 1
  (List.range n).map fun j =>
    let o := [j % blk.getD 0 1, j / blk.getD 0 1 % blk.getD 1 1, j / (blk.getD 0 1 * blk.getD 1 1) % blk.getD 2 1,
      j / (blk.getD 0 1 * blk.getD 1 1 * blk.getD 2 1)]
    d.rowNo (((coords.zip blk).zip o).map fun p => p.1.1 * p.1.2 + p.2)

/-- What a copy writes: pairs of destination row and piece, and clamped entries; or the code it ends with. -/
abbrev CopyPlan := Except Nat (List (Nat × Piece) × Nat)

/-- Row for row (R294). -/
def State.planPlain (s : State) (src dst : TDesc) : CopyPlan :=
  if src.dims != dst.dims then .error 0x12
  else .ok ((List.range src.rows).map fun r => (r, s.piece src r), 0)

/-- Gather or scatter (R296): the side of blocks in a row is the destination of a gather, the source of a scatter. -/
def State.planBlocks (s : State) (gather : Bool) (src dst : TDesc) (blk : List Nat) (list : List (List Nat)) : CopyPlan :=
  let big := if gather then src else dst
  let small := if gather then dst else src
  let dims := big.dims.drop 1
  let per := blk.foldl (· * ·) 1
  if blk.any (· == 0) || !((dims.zip blk).all fun p => p.1 % p.2 == 0) || src.dim 0 != dst.dim 0
      || small.rows != list.length * per then .error 0x12
  else
    let cl := list.map (clampCoords dims blk)
    let rows := (cl.map fun p => blockRows big blk p.1).flatten
    let clamped := (cl.filter (·.2)).length
    .ok (rows.zipIdx.map fun p => if gather then (p.2, s.piece src p.1) else (p.1, s.piece src p.2), clamped)

/-- The width that an expansion asks of C (R297). -/
def expandable (src dst : TDesc) (n : Nat) : Bool :=
  src.dim 0 * src.elem.bits % 128 == 0 && dst.dim 0 == n * src.dim 0

/-- Causal one-dimensional expansion (R297). -/
def State.planExpand1 (s : State) (src dst : TDesc) (hist : Option TDesc) (w : Nat) : CopyPlan :=
  let t := src.rows
  let histOk := match hist with
    | none => true
    | some h => h.dim 0 == src.dim 0 && h.rows == w - 1 && h.format == src.format
  if !(2 ≤ w && w ≤ 8) || !expandable src dst w || dst.rows != t || !histOk
      || (s.descEsc src && src.dim 0 % 128 != 0) then .error 0x12
  else
    let row (k : Nat) : Piece :=
      if w - 1 ≤ k then s.piece src (k - (w - 1))
      else match hist with
        | some h => s.piece h k
        | none => s.zeroPiece src
    .ok ((List.range t).map fun r => (r, Piece.cat ((List.range w).map fun d => row (r + d))), 0)

/-- Two-dimensional expansion (R298): dimension 1 is the width, dimension 2 the height. -/
def State.planExpand2 (s : State) (src dst : TDesc) (kh kw sh sw ph pw : Nat) : CopyPlan :=
  let wd := src.dim 1
  let h := src.dim 2
  let sides := 1 ≤ kh && kh ≤ 8 && 1 ≤ kw && kw ≤ 8 && 1 ≤ sh && sh ≤ 4 && 1 ≤ sw && sw ≤ 4 && ph ≤ 7 && pw ≤ 7
  if !sides || src.dim 3 * src.dim 4 != 1 || h + 2 * ph < kh || wd + 2 * pw < kw || !expandable src dst (kh * kw)
      || (s.descEsc src && src.dim 0 % 128 != 0) then .error 0x12
  else
    let oh := (h + 2 * ph - kh) / sh + 1
    let ow := (wd + 2 * pw - kw) / sw + 1
    if dst.rows != oh * ow then .error 0x12
    else
      let pos (y x : Nat) : Piece :=
        if ph ≤ y && y < h + ph && pw ≤ x && x < wd + pw then s.piece src ((y - ph) * wd + (x - pw)) else s.zeroPiece src
      .ok ((List.range (oh * ow)).map fun r =>
        (r, Piece.cat (((List.range kh).map fun dy => (List.range kw).map fun dx =>
          pos (r / ow * sh + dy) (r % ow * sw + dx)).flatten)), 0)

/-- A copy carried out (R294 to R298): it ends with a code and writes nothing, or its bytes are moved. `reps` is how often
the slab headers of the source stand in the destination. -/
def runCopy (s : State) (c i : Nat) (src dst : TDesc) (reps : Nat) (more : Bool) (plan : CopyPlan) : State :=
  if src.format != dst.format then s.endDesc c i 0x12
  else match plan with
    | .error code => s.endDesc c i code
    | .ok (rows, clamped) =>
      if s.copyOverlaps src dst then s.endDesc c i 0xC6
      else if s.descPoisoned src || more then (s.endDesc c i 0xE9).memHalt c none
      else
        let esc := s.descEsc src
        let heads := (List.replicate reps (s.slabHeaders src)).flatten
        let s := s.setScaleHeader src dst heads
        let s := rows.foldl (fun s p => s.setPiece dst esc p.1 p.2) s
        let n := (rows.map fun p => p.2.elems.length + p.2.scales.length + p.2.esc.length).foldl (· + ·) 0
          + (if dst.scale == 0 then 0 else 16 + heads.length)
        let s := s.cbump c O_COPY_BYTES n
        if clamped == 0 then s else (s.cbump c O_CLAMPED_COORDS clamped).craise c O_MEM_FLAGS 3

/-- The checks common to COPY and LAYOUT (R394, R400). -/
def State.copyChecks (s : State) (c : Nat) (d : Bytes) (named : List (Nat × Nat)) (more : List (Option Nat))
    (handles : List Nat) (extra : List (Option Nat)) : List (Option Nat) :=
  [reservedCheck d named] ++ more ++ [s.stateCheck c d] ++ (handles.map fun h => need (s.desc c h).isSome 0xC5) ++ extra

/-- The descriptor of a handle that has passed its check. -/
def State.descOf (s : State) (c h : Nat) : TDesc := (s.desc c h).getD (parseDesc [])

/-- Does a COPY read a list of blocks, and does it read a history (R296, R297)? -/
def copyListed (d : Bytes) : Bool := fld d 22 1 == 1 || fld d 22 1 == 2

/-- Does a COPY read a history (R297)? -/
def copyHist (d : Bytes) : Bool := fld d 22 1 == 3 && fld d 20 2 != 0xFFFF

/-- The checks of COPY in its mode (R294 to R298, R396, R407). -/
def copyModeChecks (s : State) (c : Nat) (d : Bytes) : List (Option Nat) :=
  let mode := fld d 22 1
  let cnt := fld d 32 4
  let named := [(16, 7), (24, 12)] ++
    (if copyListed d then [(36, 8)] else if mode == 3 then [(36, 1)] else if mode == 4 then [(36, 6)] else [])
  s.copyChecks c d named [need (mode < 5) 0x12] ([fld d 16 2, fld d 18 2] ++ (if copyHist d then [fld d 20 2] else []))
    [if copyListed d && cnt != 0 then (s.ctx c).checkRead (fld d 24 8) (16 * cnt) else none]

/-- The plain mode of COPY (R295). -/
def runCopyPlain (s : State) (c i : Nat) (a b : TDesc) : State := runCopy s c i a b 1 false (s.planPlain a b)

/-- The modes of COPY with a list of blocks (R296). -/
def runCopyBlocks (s : State) (c i : Nat) (d : Bytes) (a b : TDesc) : State :=
  let la := fld d 24 8
  let cnt := fld d 32 4
  let blk := (List.range 4).map fun k => fld d (36 + 2 * k) 2
  let list := (List.range cnt).map fun e => (List.range 4).map fun k => s.rdNat (la + 16 * e + 4 * k) 4
  runCopy s c i a b 1 (s.isPoisoned la (16 * cnt)) (s.planBlocks (fld d 22 1 == 1) a b blk list)

/-- The one-dimensional expansion (R297). -/
def runExpand1 (s : State) (c i : Nat) (d : Bytes) (a b : TDesc) : State :=
  let h := if copyHist d then some (s.descOf c (fld d 20 2)) else none
  runCopy s c i a b (fld d 36 1) (h.any s.descPoisoned) (s.planExpand1 a b h (fld d 36 1))

/-- The two-dimensional expansion (R298). -/
def runExpand2 (s : State) (c i : Nat) (d : Bytes) (a b : TDesc) : State :=
  runCopy s c i a b (fld d 36 1 * fld d 37 1) false
    (s.planExpand2 a b (fld d 36 1) (fld d 37 1) (fld d 38 1) (fld d 39 1) (fld d 40 1) (fld d 41 1))

/-- COPY (R294 to R298). -/
def issueCopy (s : State) (c i : Nat) (d : Bytes) : State :=
  let a := s.descOf c (fld d 16 2)
  let b := s.descOf c (fld d 18 2)
  s.issueDesc c i d (copyModeChecks s c d) fun s =>
    match fld d 22 1 with
    | 0 => runCopyPlain s c i a b
    | 1 => runCopyBlocks s c i d a b
    | 2 => runCopyBlocks s c i d a b
    | 3 => runExpand1 s c i d a b
    | _ => runExpand2 s c i d a b

/-- COPY in a mode. -/
def isCopy (mode : Nat) (d : Bytes) : Bool := fld d 0 1 == 0x10 && fld d 22 1 == mode

/-- COPY in mode 0, or in a mode that is refused (R294). -/
def execCopy (c : Nat) (s : State) : Host.Outcome State Fault Refusal :=
  finish s (s.takeFront c (fun d => fld d 0 1 == 0x10 && (fld d 22 1 == 0 || fld d 22 1 > 4)) fun i d => issueCopy s c i d)

/-- COPY in gather mode (R296). -/
def execCopyGather (c : Nat) (s : State) : Host.Outcome State Fault Refusal :=
  finish s (s.takeFront c (isCopy 1) fun i d => issueCopy s c i d)

/-- COPY in scatter mode (R296). -/
def execCopyScatter (c : Nat) (s : State) : Host.Outcome State Fault Refusal :=
  finish s (s.takeFront c (isCopy 2) fun i d => issueCopy s c i d)

/-- COPY in one-dimensional expansion mode (R297). -/
def execCopyExpand1d (c : Nat) (s : State) : Host.Outcome State Fault Refusal :=
  finish s (s.takeFront c (isCopy 3) fun i d => issueCopy s c i d)

/-- COPY in two-dimensional expansion mode (R298). -/
def execCopyExpand2d (c : Nat) (s : State) : Host.Outcome State Fault Refusal :=
  finish s (s.takeFront c (isCopy 4) fun i d => issueCopy s c i d)

/-- The checks of LAYOUT (R294, R396, R407). -/
def layoutChecks (s : State) (c : Nat) (d : Bytes) : List (Option Nat) :=
  s.copyChecks c d [(16, 4)] [] [fld d 16 2, fld d 18 2] []

/-- LAYOUT (R294). -/
def issueLayout (s : State) (c i : Nat) (d : Bytes) : State :=
  let a := s.descOf c (fld d 16 2)
  let b := s.descOf c (fld d 18 2)
  s.issueDesc c i d (layoutChecks s c d) fun s => runCopyPlain s c i a b

/-- LAYOUT (R294). -/
def execLayout (c : Nat) (s : State) : Host.Outcome State Fault Refusal :=
  finish s (s.takeFront c (fun d => fld d 0 1 == 0x11) fun i d => issueLayout s c i d)

end Sys2Proof.Machine
end

