-- ==== Sys2Proof/Machine/Coll.lean ====
section
/-! DEFINITION. Collectives (R353 to R364): issue, entry, data, completion and abort on one member, and the arithmetic of a
reduction (R331, R355, R356). -/

namespace Sys2Proof.Machine

open Sys2Proof

/-! ### Reductions -/

/-- The type of a code (R396). -/
def numTypeOf (t : Nat) : NumType :=
  match t with
  | 0 => .int32
  | 1 => .int64
  | 2 => .fp32
  | _ => .bf16

/-- Bytes of an element of a type. -/
def numSize : NumType → Nat
  | .int32 => 4
  | .int64 => 8
  | .fp32 => 4
  | .bf16 => 2

/-- A two's complement number of `n` bytes. -/
def signedOf (n v : Nat) : Int := if v < 2 ^ (8 * n - 1) then (v : Int) else (v : Int) - (2 : Int) ^ (8 * n)

/-- The order of FP32 codes that are not NaN, with −0 below +0 (R331). -/
def f32Below (a b : Nat) : Bool := if f32Lt a b then true else if f32Lt b a then false else f32Neg a && !f32Neg b

/-- minimumNumber and maximumNumber of FP32 (R331). -/
def f32MinMax (max : Bool) (a b : Nat) : Nat :=
  if f32IsNan a && f32IsNan b then nan32 [a, b]
  else if f32IsNan a then b
  else if f32IsNan b then a
  else if f32Below a b != max then a else b

/-- One operation of R355: 0 SUM, 1 MIN, 2 MAX. BF16 elements stand as FP32 codes here. -/
def numOp (ty : NumType) (op a b : Nat) : Nat :=
  match ty with
  | .int32 | .int64 =>
    let n := numSize ty
    if op == 0 then (a + b) % 2 ^ (8 * n)
    else if (signedOf n a < signedOf n b) == (op == 1) then a else b
  | .fp32 | .bf16 => if op == 0 then f32Add a b else f32MinMax (op == 2) a b

/-- The elements of a vector; BF16 is widened. -/
def vecOf (ty : NumType) (bs : Bytes) : List Nat :=
  (chunks (numSize ty) bs).map fun b => if ty == .bf16 then bf16To32 (leNat b) else leNat b

/-- The bytes of a vector; BF16 is rounded once (R355). -/
def vecBytes (ty : NumType) (v : List Nat) : Bytes :=
  (v.map fun x => if ty == .bf16 then leBytes 2 (fBF16.of32 x).1 else leBytes (numSize ty) x).flatten

/-- The size of the left part of a pairwise sum of `n` vectors (R356): the largest power of two below `n`. -/
def leftPart (n : Nat) : Nat := 2 ^ Nat.log2 (n - 1)

/-- The pairwise reduction of R356; `fuel` bounds its depth. -/
def pairwise (ty : NumType) (op : Nat) : Nat → List (List Nat) → List Nat
  | 0, l => l.headD []
  | fuel + 1, l =>
    if l.length ≤ 1 then l.headD []
    else
      let m := leftPart l.length
      let a := pairwise ty op fuel (l.take m)
      let b := pairwise ty op fuel (l.drop m)
      (a.zip b).map fun p => numOp ty op p.1 p.2

/-- How many partial results a rank receives in the tree of R356. -/
def treeChildren : Nat → Nat → Nat → Nat
  | 0, _, _ => 0
  | fuel + 1, n, r =>
    if n ≤ 1 then 0
    else
      let m := leftPart n
      if r < m then (if r == 0 then 1 else 0) + treeChildren fuel m r else treeChildren fuel (n - m) (r - m)

/-! ### One collective on this member -/

/-- The members of a collective's group. -/
def State.collNodes (s : State) (k : Coll) : List Nat := (s.group k.group).nodes

/-- The rank of this engine in a collective. -/
def State.collRank (s : State) (k : Coll) : Nat := ((s.collNodes k).idxOf? (s.nodeOf (s.group k.group).owner)).getD 0

/-- The other members with their ranks. -/
def State.collOthers (s : State) (k : Coll) : List (Nat × Nat) :=
  ((s.collNodes k).zipIdx.filter fun p => p.1 != s.nodeOf (s.group k.group).owner).map fun p => (p.2, p.1)

/-- The group digest (R353). -/
def Group.digest (g : Group) : Nat := crc64 g.members

/-- The entry that this member sends (R353). -/
def State.collEntryOf (s : State) (k : Coll) : CollEntry :=
  ⟨(s.group k.group).digest, k.seq, k.op, k.ty, k.redOp, k.count, k.root⟩

/-- Bytes that one member supplies. -/
def Coll.inLen (k : Coll) : Nat := if k.op == 5 then 0 else k.count * numSize (numTypeOf k.ty)

/-- The element range that a rank receives in REDUCE_SCATTER (R354). -/
def shardOf (r count n : Nat) : Nat × Nat := (r * count / n, (r + 1) * count / n)

/-- Bytes that the member of a rank receives (R354). -/
def Coll.outLen (k : Coll) (r n : Nat) : Nat :=
  let e := numSize (numTypeOf k.ty)
  match k.op with
  | 1 => k.count * e
  | 2 => ((shardOf r k.count n).2 - (shardOf r k.count n).1) * e
  | 3 => n * k.count * e
  | 4 => k.count * e
  | _ => 0

/-- The ranks whose data this member needs. -/
def State.collNeeds (s : State) (k : Coll) : List Nat :=
  match k.op with
  | 4 => if s.collRank k == k.root then [] else [k.root]
  | 5 => []
  | _ => (s.collOthers k).map (·.1)

/-- The data of a rank, this member's own included. -/
def State.collDataOf (s : State) (k : Coll) (r : Nat) : Option Bytes :=
  if r == s.collRank k then some k.own else (k.data.find? fun p => p.1 == r).map (·.2)

/-- Bytes sent on VC6 (R359); what a BROADCAST sends is open. -/
def State.collTx (s : State) (k : Coll) : Nat :=
  let n := (s.collNodes k).length
  let r := s.collRank k
  let b := k.inLen
  match k.op with
  | 1 => if b < 16384 then b * (treeChildren 40 n r + (if r == 0 then 0 else 1)) else 2 * (n - 1) * b / n
  | 2 => (n - 1) * b / n
  | 3 => (n - 1) * b
  | 4 => Config.cycles s.freeCtr
  | _ => 0

/-- The result of a collective (R354 to R356). -/
def State.collResultOf (s : State) (k : Coll) : Bytes :=
  let nodes := s.collNodes k
  let n := nodes.length
  let ty := numTypeOf k.ty
  let all := (List.range n).map fun r => (s.collDataOf k r).getD []
  match k.op with
  | 1 => vecBytes ty (pairwise ty k.redOp n (all.map (vecOf ty)))
  | 2 =>
    let (a, b) := shardOf (s.collRank k) k.count n
    vecBytes ty ((pairwise ty k.redOp n (all.map (vecOf ty))).drop a |>.take (b - a))
  | 3 => all.flatten
  | 4 => all.getD k.root []
  | _ => []

/-- COLL_STATE and the collective set. -/
def State.setColl (s : State) (c : Nat) (k : Option Coll) : State :=
  (s.modCtx c fun x => { x with coll := k }).cput c O_COLL_STATE ((k.map (·.phase)).getD 0)

/-- COLL_LAST_RESULT (R383). -/
def State.setCollResult (s : State) (c : Nat) (k : Coll) (code late : Nat) : State :=
  let b := leBytes 1 code ++ [0] ++ leBytes 2 k.group ++ leBytes 4 k.seq ++ leBytes 2 late ++ List.replicate 6 0
  (s.modCtx c fun x => { x with collResult := b }).genUp (ctxKey c O_COLL_LAST_RESULT)

/-- The bytes of a tensor in row order, from its first byte on, written. -/
def State.writeVector (s : State) (d : TDesc) (bs : Bytes) : State :=
  let len := d.rowLen
  (chunks len bs).zipIdx.foldl
    (fun s p => s.setDescRow d p.2 (p.1 ++ (s.descRow d p.2).drop p.1.length)) s

/-- The first `n` bytes of a tensor in row order. -/
def State.readVector (s : State) (d : TDesc) (n : Nat) : Bytes :=
  (((List.range ((n + d.rowLen - 1) / d.rowLen)).map fun r => s.descRow d r).flatten).take n

/-- Bytes that a tensor holds. -/
def TDesc.bytes (d : TDesc) : Nat := d.rows * d.rowLen

/-- The collective ends on this member with its result (R361). The reduction of the caramel loop keeps its sums. -/
def State.collFinish (s : State) (c : Nat) (k : Coll) : State :=
  let res := s.collResultOf k
  let s := s.setColl c none
  let s := s.setCollResult c k 0 0xFFFF
  let s := (s.cbump c O_COLLECTIVES_RUN 1).bump O_COLL_RUN 1
  let s := s.releaseUse c (2 ^ 33) 7
  if k.caramel then s.modCtx c fun x => { x with caramelSums := some ((chunks 4 res).map leNat) }
  else
    let s := if k.op == 5 then s else s.writeVector (s.descOf c k.dst) res
    s.endDesc c k.idx 0

/-- The member reports done when it has its whole result (R361): rank 0 keeps its own report. -/
def State.collCheck (s : State) (c : Nat) : State :=
  match (s.ctx c).coll with
  | none => s
  | some k =>
    if k.phase != 2 || k.reported || !((s.collNeeds k).all fun r => (s.collDataOf k r).isSome) then s
    else
      let k := { k with phase := 3, reported := true }
      if s.collRank k == 0 then s.setColl c (some { k with dones := 0 :: k.dones })
      else (s.setColl c (some k)).emit (.collDone ((s.collNodes k).headD 0))

/-- Rank 0 sends complete once every member has reported, and ends the collective here (R361). -/
def State.collAllDone (s : State) (c : Nat) : State :=
  match (s.ctx c).coll with
  | none => s
  | some k =>
    if k.phase == 3 && s.collRank k == 0 && (List.range (s.collNodes k).length).all k.dones.contains then
      ((s.collOthers k).foldl (fun s p => s.emit (.collComplete p.2)) s).collFinish c k
    else s

/-- The lowest rank whose entry or data this member lacks (R362); FFFFh when it lacks nothing. -/
def State.collCandidate (s : State) (k : Coll) : Nat :=
  let n := (s.collNodes k).length
  ((List.range n).find? fun r =>
    r != s.collRank k && (!(k.entries.any fun e => e.1 == r)
      || ((s.collNeeds k).contains r && (s.collDataOf k r).isNone))).getD 0xFFFF

/-- A member aborts (R362, R363). -/
def State.collAbort (s : State) (c code cand : Nat) : State :=
  match (s.ctx c).coll with
  | none => s
  | some k =>
    if k.phase == 4 then s
    else
      let k := { k with phase := 4, code := code, candidate := cand, abortBeat := s.beat
                        notices := k.notices ++ [(s.collRank k, code, cand)] }
      let s := s.setColl c (some k)
      (s.collOthers k).foldl (fun s p => s.emit (.collAbort p.2 code k.seq cand)) s

/-- Entries that differ from this member's own abort the collective, with the lowest such rank; when every entry is here,
the transfer begins (R353, R359). -/
def State.collEntries (s : State) (c : Nat) : State :=
  match (s.ctx c).coll with
  | none => s
  | some k =>
    if k.phase != 1 then s
    else
      let own := s.collEntryOf k
      match ((List.range (s.collNodes k).length).find? fun r => k.entries.any fun e => e.1 == r && e.2 != own) with
      | some r => s.collAbort c 0x41 r
      | none =>
        if k.entries.length < (s.collNodes k).length then s
        else
          let s := s.setColl c (some { k with phase := 2 })
          let send := match k.op with
            | 4 => s.collRank k == k.root
            | 5 => false
            | _ => true
          let s := if send then (s.collOthers k).foldl (fun s p => s.emit (.collData p.2 k.own)) s else s
          let s := if k.op == 4 && send then
              (s.bump O_COLL_BYTES_TX (s.collTx k)).drawn
            else if send then s.bump O_COLL_BYTES_TX (s.collTx k) else s
          (s.collCheck c).collAllDone c

/-- This member enters a collective (R353, R357, R362): the source is read, and its entry goes to every member. It aborts at
once when it holds a member as dead (R363). -/
def State.collEnter (s : State) (c : Nat) (k : Coll) (own : Bytes) : State :=
  let e := s.collEntryOf k
  let early := (s.ctx c).collEarly
  let k := { k with phase := 1, entered := s.beat, own := own
                    entries := (s.collRank k, e) :: early.filter fun p => p.1 != s.collRank k }
  let s := (s.setColl c (some k)).modCtx c fun x => { x with collEarly := [] }
  let s := (s.collOthers k).foldl (fun s p => s.emit (.collEntry p.2 e)) s
  match (s.collOthers k).find? fun p => s.nodeDead p.2 with
  | some p => s.collAbort c 0x43 p.1
  | none => s.collEntries c

/-- A collective begun: its sequence number is taken (R358) and its staging buffers asked for (R357). -/
def State.collBegin (s : State) (c : Nat) (k : Coll) : State :=
  let s := s.setColl c (some { k with seq := (s.group k.group).seq })
  let s := s.modGroup k.group fun g => { g with seq := (g.seq + 1) % 2 ^ 32 }
  if k.op == 5 then s else s.request c (2 ^ 33) 7 [0, c] (s.bufsFor c 7 (max 1 k.inLen))

/-! ### The command -/

/-- The checks of COLLECTIVE (R354, R355, R394, R400). -/
def State.collChecks (s : State) (c : Nat) (d : Bytes) : List (Option Nat) :=
  let g := s.group (fld d 16 2)
  let op := fld d 18 1
  let ty := fld d 19 1
  let red := op == 1 || op == 2
  let n := g.nodes.length
  let k : Coll := ⟨0, 0, op, ty, fld d 20 1, fld d 22 2, fld d 24 4, 0, 0, 0, 0, 0, [], [], [], false, [], 0, 0, [], 0, false⟩
  let bar := op == 5
  let r := (g.nodes.idxOf? (s.nodeOf g.owner)).getD 0
  let src := s.descOf c (fld d 28 2)
  let dst := s.descOf c (fld d 30 2)
  [reservedCheck d [(16, 5), (22, 10)],
   need (1 ≤ op && op ≤ 5) 0x12,
   need (!red || (ty < 4 && fld d 20 1 < 3)) 0x13,
   need (red || ty < 4) 0x12,
   s.stateCheck c d,
   need (bar || (s.desc c (fld d 28 2)).isSome) 0xC5,
   need (bar || (s.desc c (fld d 30 2)).isSome) 0xC5,
   need (bar || (k.inLen ≤ src.bytes && k.outLen r n ≤ dst.bytes)) 0xC5,
   need (g.active && g.owner == c && (op != 4 || fld d 22 2 < n)) 0x12,
   need (s.poolFor c 7 != 0xFFFF) 0xC7]

/-- COLLECTIVE accepted (R357, R360). -/
def runCollective (s : State) (c i : Nat) (d : Bytes) : State :=
  let src := s.descOf c (fld d 28 2)
  let dst := s.descOf c (fld d 30 2)
  if fld d 18 1 != 5 && overlap dst.base dst.span src.base src.span then s.endDesc c i 0xC6
  else
    let s := s.collBegin c
      ⟨i, fld d 16 2, fld d 18 1, fld d 19 1, fld d 20 1, fld d 22 2, fld d 24 4, fld d 28 2, fld d 30 2, 0, 0, 0,
        [], [], [], false, [], 0, 0, [], 0, false⟩
    s.hold c (.collective i)

/-- COLLECTIVE at the front of a ring: it holds later commands, and is entered when no window is open (R360). -/
def issueCollective (s : State) (c i : Nat) (d : Bytes) : State :=
  if (s.ctx c).coll.isSome then s
  else
    s.issueDesc c i d (s.collChecks c d) fun s => runCollective s c i d

/-- COLLECTIVE with an operation code. -/
def isColl (op : Nat) (d : Bytes) : Bool := fld d 0 1 == 0x20 && fld d 18 1 == op

/-- ALL_REDUCE (R356), and a COLLECTIVE whose OP names no operation. -/
def execAllReduce (c : Nat) (s : State) : Host.Outcome State Fault Refusal :=
  finish s (s.takeFront c (fun d => fld d 0 1 == 0x20 && (fld d 18 1 == 1 || fld d 18 1 == 0 || fld d 18 1 > 5))
    fun i d => issueCollective s c i d)

/-- REDUCE_SCATTER (R354). -/
def execReduceScatter (c : Nat) (s : State) : Host.Outcome State Fault Refusal :=
  finish s (s.takeFront c (isColl 2) fun i d => issueCollective s c i d)

/-- ALL_GATHER (R354). -/
def execAllGather (c : Nat) (s : State) : Host.Outcome State Fault Refusal :=
  finish s (s.takeFront c (isColl 3) fun i d => issueCollective s c i d)

/-- BROADCAST (R354). -/
def execBroadcast (c : Nat) (s : State) : Host.Outcome State Fault Refusal :=
  finish s (s.takeFront c (isColl 4) fun i d => issueCollective s c i d)

/-- BARRIER (R354). -/
def execBarrier (c : Nat) (s : State) : Host.Outcome State Fault Refusal :=
  finish s (s.takeFront c (isColl 5) fun i d => issueCollective s c i d)

/-- The source that this member supplies, and whether a byte of it is poisoned. -/
def State.collSource (s : State) (c : Nat) (k : Coll) : Bytes × Bool :=
  if k.op == 5 || (k.op == 4 && s.collRank k != k.root) then ([], false)
  else
    let d := s.descOf c k.src
    (s.readVector d k.inLen, s.isPoisoned d.base d.span)

/-- COLLECTIVE_ENTRY (R360): a held COLLECTIVE is entered once no window of the context is open and its staging buffers are
there. -/
def execCollectiveEntry (c : Nat) (s : State) : Host.Outcome State Fault Refusal :=
  finish s <|
    match (s.ctx c).coll with
    | some k =>
      if s.coreUp && !k.caramel && k.phase == 0 && !(s.ctx c).windows.any Window.isOpen && !s.waits c (2 ^ 33) 7 then
        let (own, bad) := s.collSource c k
        if bad then ((s.setColl c none).endDesc c k.idx 0xE9).memHalt c none else s.collEnter c k own
      else s
    | none => s

/-! ### Messages -/

/-- COLL_ENTRY_MESSAGE (R353): kept until this member has entered, then compared. -/
def execCollEntryMessage (c rank : Nat) (entry : CollEntry) (s : State) : Host.Outcome State Fault Refusal :=
  finish s <|
    if !s.coreUp || s.cstate c == 0 then s
    else
      let keep (s : State) : State := s.modCtx c fun x =>
        { x with collEarly := x.collEarly.filter (fun p => p.1 != rank) ++ [(rank, entry)] }
      match (s.ctx c).coll with
      | none => keep s
      | some k =>
        if k.phase == 0 then keep s
        else if k.phase != 1 || rank == s.collRank k || (s.collNodes k).length ≤ rank || k.entries.any (fun e => e.1 == rank)
        then s
        else (s.setColl c (some { k with entries := k.entries ++ [(rank, entry)] })).collEntries c

/-- COLL_DATA (R359): the contribution of a rank arrives; the result is formed once all are here. -/
def execCollData (c rank : Nat) (data : Bytes) (s : State) : Host.Outcome State Fault Refusal :=
  finish s <|
    match (s.ctx c).coll with
    | some k =>
      if s.coreUp && (k.phase == 1 || k.phase == 2) && (s.collNeeds k).contains rank && data.length == k.inLen
          && !k.data.any (fun p => p.1 == rank) then
        ((s.setColl c (some { k with data := k.data ++ [(rank, data)] })).collCheck c).collAllDone c
      else s
    | none => s

/-- COLL_DONE_REPORT (R361): rank 0 sends complete once all have reported. -/
def execCollDoneReport (c rank : Nat) (s : State) : Host.Outcome State Fault Refusal :=
  finish s <|
    match (s.ctx c).coll with
    | some k =>
      if s.coreUp && s.collRank k == 0 && (k.phase == 2 || k.phase == 3) && rank < (s.collNodes k).length && rank != 0
          && !k.dones.contains rank then
        (s.setColl c (some { k with dones := rank :: k.dones })).collAllDone c
      else s
    | none => s

/-- COLLECTIVE_COMPLETE (R361). -/
def execCollectiveComplete (c : Nat) (s : State) : Host.Outcome State Fault Refusal :=
  finish s <|
    match (s.ctx c).coll with
    | some k => if s.coreUp && k.phase == 3 && s.collRank k != 0 then s.collFinish c k else s
    | none => s

/-- ABORT_NOTICE (R361, R362): the first one makes this member abort; one that is too late is counted. -/
def execAbortNotice (c rank code seq candidate : Nat) (s : State) : Host.Outcome State Fault Refusal :=
  finish s <|
    if !s.coreUp then s
    else match (s.ctx c).coll with
      | some k =>
        if k.seq != seq then s.bump O_ABORT_LATE_NOTICES 1
        else if k.phase == 4 then
          if s.beat < k.abortBeat + 64 then
            s.setColl c (some { k with notices := k.notices ++ [(rank, code, candidate)] })
          else s.bump O_ABORT_LATE_NOTICES 1
        else
          let s := s.setColl c (some { k with notices := k.notices ++ [(rank, code, candidate)] })
          s.collAbort c code (s.collCandidate k)
      | none => s.bump O_ABORT_LATE_NOTICES 1

/-- COLL_TIMEOUT (R362). -/
def execCollTimeout (c : Nat) (s : State) : Host.Outcome State Fault Refusal :=
  finish s <|
    match (s.ctx c).coll with
    | some k =>
      if s.coreUp && 1 ≤ k.phase && k.phase ≤ 3 && k.entered + s.cget c O_COLL_TIMEOUT_BEATS ≤ s.beat then
        s.collAbort c 0x44 (s.collCandidate k)
      else s
    | none => s

/-- The flag of an aborted collective (R384). -/
def collFlag (code : Nat) : Nat := if code == 0x41 then 0 else if code == 0x43 then 1 else 2

/-- The notice of the lowest rank. -/
def firstNotice (l : List (Nat × Nat × Nat)) : Option (Nat × Nat × Nat) :=
  l.foldl (fun acc p => match acc with
    | none => some p
    | some q => if p.1 < q.1 then some p else some q) none

/-- A destination whose contents are unspecified (R357). -/
def State.openVector (s : State) (d : TDesc) (n : Nat) : State :=
  (s.writeVector d ((List.range n).map fun j => Config.openByte (s.freeCtr + j))).drawn

/-- An aborted collective is over: the code of the lowest rank that gave one, and what the context makes of it (R362, R364,
R91). -/
def abortSettles (s : State) (c : Nat) (k : Coll) : State :=
  let code := ((firstNotice k.notices).map fun p => p.2.1).getD k.code
  let late := (k.notices.map fun p => p.2.2).foldl min 0xFFFF
  let s := (s.setColl c none).setCollResult c k code late
  let s := ((s.cbump c O_COLL_ABORTS 1).bump O_COLL_ABORTED 1).craise c O_COLL_FLAGS (collFlag code)
  let s := s.releaseUse c (2 ^ 33) 7
  let s :=
    if k.caramel then
      (s.cbump c O_SKIPPED_STEPS 1).modCtx c fun x =>
        { x with
          caramelDue := x.caramelDue.drop 1
          caramelSums := none
          counts := x.counts.filter fun k => !k.published || (x.caramelDue.drop 1).contains k.mark }
    else
      let s := if k.op == 5 then s
        else { s.openVector (s.descOf c k.dst) (k.outLen (s.collRank k) (s.collNodes k).length) with
          freeCtr := s.freeCtr + k.outLen (s.collRank k) (s.collNodes k).length }
      s.endDesc c k.idx code
  if s.det c == 2 then s.endStep c code none else s

/-- ABORT_SETTLE (R91, R362, R364): 64 beats after the abort the outcome is reported. -/
def execAbortSettle (c : Nat) (s : State) : Host.Outcome State Fault Refusal :=
  finish s <|
    match (s.ctx c).coll with
    | some k => if s.coreUp && k.phase == 4 && k.abortBeat + 64 ≤ s.beat then abortSettles s c k else s
    | none => s

/-- A member of the group of a running collective is held dead (R363). -/
def State.collMemberDead (s : State) (c node : Nat) : State :=
  match (s.ctx c).coll with
  | some k =>
    match (s.collNodes k).idxOf? node with
    | some r => if 1 ≤ k.phase && k.phase ≤ 3 && node != s.nodeOf c then s.collAbort c 0x43 r else s
    | none => s
  | none => s

end Sys2Proof.Machine
end

