-- ==== Sys2Proof/Machine/Fu.lean ====
section
/-! DEFINITION. The function units (R191 to R208): the activations and their derivatives, EXP and RSQRT, exactly rounded
or faithful, the softmax row and the row statistics. Transcendental values are formed in 1,024-bit fixed point, far
beyond what decides a rounding of an FP32 input. -/

namespace Sys2Proof.Machine

open Sys2Proof

/-- Fraction bits of the fixed-point working form. -/
def fxP : Nat := 1024

/-- One in fixed point. -/
def fxOne : Nat := 2 ^ fxP

/-- 1/√(2π) in fixed point. -/
def fxInvSqrt2Pi : Nat :=
  0x662114CF50D942343F2CF1402EAE38BFD3829F30512706D8C0471B4802639D2E9DF8AC55447D3DB723F5D3ABB374E88DEB14277970BE1513278E993445F08CFF98282E1FD947CE4B4ECDBD6E65C23395CACB544DE69EEA32C276937B1BC567691C1CEC4882C77AACEFE1F6708329AB3FC8D2AB2435EE45C9150C426BBB49487E

/-- A dyadic number in fixed point, rounded toward minus infinity. -/
def fxOfDy (x : Dy) : Int :=
  let e := x.e + fxP
  if e ≥ 0 then x.m * 2 ^ e.toNat else x.m / 2 ^ (-e).toNat

/-- Taylor sum of e^r for 0 ≤ r < 2^−8: terms n, n+1, ... -/
def fxExpTaylor : Nat → Nat → Nat → Nat → Nat → Nat
  | 0, _, _, _, acc => acc
  | fuel + 1, r, n, t, acc => fxExpTaylor fuel r (n + 1) (t * r / fxOne / (n + 1)) (acc + t)

/-- Repeated squaring. -/
def fxSquare : Nat → Nat → Nat
  | 0, v => v
  | k + 1, v => fxSquare k (v * v / fxOne)

/-- e^x for x ≥ 0, below 2^9. -/
def fxExpPos (x : Nat) : Nat := fxSquare 18 (fxExpTaylor 120 (x / 2 ^ 18) 0 fxOne 0)

/-- e^x for |x| below 2^9; beyond, the nearest bound. -/
def fxExp (x : Int) : Nat :=
  if x ≥ 0 then fxExpPos (min x.toNat (511 * fxOne))
  else max 1 (fxOne * fxOne / fxExpPos (min (-x).toNat (511 * fxOne)))

/-- σ(y) = 1 / (1 + e^(−y)), never below one unit. -/
def fxSigma (y : Int) : Nat := max 1 (fxOne * fxOne / (fxOne + fxExp (-y)))

/-- φ(x), the normal density. -/
def fxPhi (x : Int) : Nat := fxInvSqrt2Pi * fxExp (-(x * x / fxOne / 2)) / fxOne

/-- The series Σ x^(2n+1) / (1·3·5···(2n+1)) for x ≥ 0. -/
def fxMills : Nat → Nat → Nat → Nat → Nat → Nat
  | 0, _, _, _, acc => acc
  | fuel + 1, x2, n, t, acc => fxMills fuel x2 (n + 1) (t * x2 / fxOne / (2 * n + 3)) (acc + t)

/-- Φ(x), the normal distribution function; below −25 one unit, above 25 one. -/
def fxCdf (x : Int) : Nat :=
  let a := x.natAbs
  if a > 25 * fxOne then (if x > 0 then fxOne else 1)
  else
    let t := fxPhi x * fxMills 2500 (a * a / fxOne) 0 a 0 / fxOne
    if x ≥ 0 then fxOne / 2 + t else max 1 (fxOne / 2 - t)

/-- √(2/π) rounded to FP32 (R192). -/
def cTanhA : Nat := 0x3F4C422A
/-- 0.044715 rounded to FP32 (R192). -/
def cTanhB : Nat := 0x3D372713

/-- 2u of TANH_RECT, clamped to ±500 in fixed point (R192). -/
def fxTanh2u (x : Dy) : Int :=
  let u := Dy.mul (f32 cTanhA).dy (Dy.add x (Dy.mul (f32 cTanhB).dy (Dy.mul x (Dy.mul x x))))
  max (-(500 * fxOne : Nat)) (min (500 * fxOne : Nat) (2 * fxOfDy u))

/-- An exact or all but exact real result: NaN, an infinity, or a signed fraction. -/
inductive Exact where
  | nan
  | inf (neg : Bool)
  | rat (neg : Bool) (n d : Nat)
deriving DecidableEq, Repr

/-- The exact value of an FP32 code. -/
def Exact.of32 (a : Nat) : Exact :=
  match f32 a with
  | .nan => .nan
  | .inf neg => .inf neg
  | .fin neg m e => let (n, d) := dyFrac m e; .rat neg n d

/-- Exact product. -/
def Exact.mul (a b : Exact) : Exact :=
  match a, b with
  | .nan, _ => .nan
  | _, .nan => .nan
  | .inf x, .inf y => .inf (xor x y)
  | .inf x, .rat y n _ => if n == 0 then .nan else .inf (xor x y)
  | .rat x n _, .inf y => if n == 0 then .nan else .inf (xor x y)
  | .rat x n d, .rat y n' d' => .rat (xor x y) (n * n') (d * d')

/-- A signed fixed-point result. -/
def Exact.ofFx (v : Int) : Exact := .rat (v < 0) v.natAbs fxOne

/-- An argument clamped for the fixed-point functions. -/
def clampDy (x : Dy) (lim : Nat) : Int :=
  if Dy.lt ⟨lim, 0⟩ x then (lim * fxOne : Nat)
  else if Dy.lt x ⟨-(lim : Int), 0⟩ then -(lim * fxOne : Nat) else fxOfDy x

/-- The factor S of a rectifier x·S(x): Φ(x), σ(2u) or σ(x). -/
def rectFactor (fn : Nat) (x : Dy) : Nat :=
  if fn == 1 then fxCdf (clampDy x 26)
  else if fn == 2 then fxSigma (fxTanh2u x)
  else fxSigma (clampDy x 500)

/-- Is x at or above the seam of the identity segment (R201)? -/
def rectIdentity (fn : Nat) (x : Dy) : Bool := !Dy.lt x (if fn == 1 || fn == 2 then ⟨8, 0⟩ else ⟨32, 0⟩)

/-- act(x) for ACT codes 00h (identity), 01h ERF_RECT, 02h TANH_RECT, 03h SIG_RECT, 04h SIGMOID (R192, R193, R201). -/
def actExact (fn a : Nat) : Exact :=
  if fn == 0 then Exact.of32 a
  else match f32 a with
  | .nan => .nan
  | .inf neg =>
    if fn == 4 then .rat false (if neg then 0 else 1) 1
    else if neg then .rat true 0 1 else .inf false
  | .fin neg m e =>
    let x := (Val.fin neg m e).dy
    if fn == 4 then
      if rectIdentity fn x then .rat false 1 1 else .rat false (fxSigma (clampDy x 500)) fxOne
    else
      let (n, d) := dyFrac m e
      if m == 0 || rectIdentity fn x then .rat neg n d else .rat neg (n * rectFactor fn x) (d * fxOne)

/-- act′(x) (R198). -/
def actDeriv (fn a : Nat) : Exact :=
  match f32 a with
  | .nan => .nan
  | .inf neg =>
    if fn == 4 then .rat false 0 1 else .rat neg (if neg then 0 else 1) 1
  | .fin neg m e =>
    let x := (Val.fin neg m e).dy
    if fn == 0 then .rat false 1 1
    else if fn == 1 then
      let xf := clampDy x 26
      Exact.ofFx (fxCdf xf + xf * fxPhi xf / fxOne)
    else if fn == 2 then
      let s : Int := fxSigma (fxTanh2u x)
      let xf := clampDy x 64
      let du := Dy.mul (f32 cTanhA).dy
        (Dy.add ⟨1, 0⟩ (Dy.mul ⟨3, 0⟩ (Dy.mul (f32 cTanhB).dy (Dy.mul ⟨xf, -(fxP : Int)⟩ ⟨xf, -(fxP : Int)⟩))))
      Exact.ofFx (s + 2 * (xf * fxOfDy du / fxOne) * (s * (fxOne - s) / fxOne) / fxOne)
    else if fn == 3 then
      let xf := clampDy x 500
      let s : Int := fxSigma xf
      Exact.ofFx (s * (fxOne + xf * (fxOne - s) / fxOne) / fxOne)
    else
      let s : Int := fxSigma (clampDy x 500)
      Exact.ofFx (s * (fxOne - s) / fxOne)

/-- x_m of R202: the FP32 input at which a rectifier turns. -/
def rectMin (fn : Nat) : Nat := if fn == 1 then 0xBF4075F7 else if fn == 2 then 0xBF40A3D7 else 0xBFA3A5E3

/-- Does an input take the upper of the two values of bracket `cell` (R195, R202)? Functions 1 to 3 fall up to x_m and rise
from there, SIGMOID (4) and EXP (5) rise: each has one place in a bracket, on either side of x_m, at which it passes from
one value to the other, and which is left open. Other functions are left open input by input. -/
def faithfulUpper (fn key cell : Nat) : Bool :=
  if fn == 0 || 5 < fn then Config.faithfulUp fn key
  else
    let x := f32Order key
    let rise := Config.faithfulCut fn cell true
    if fn ≥ 4 then decide (rise ≤ x)
    else
      let m := f32Order (rectMin fn)
      let fall := Config.faithfulCut fn cell false
      if m ≤ fall ∧ rise ≤ m then true
      else if x < m then decide (x ≤ fall)
      else decide (m < x ∧ rise ≤ x)

/-- A result in FP32, faithful (R195): the exact value when it is a number of the format, a zero when it rounds to zero
(R193), else one of the two brackets, monotone where R202 says so and otherwise left open. -/
def faithful32 (fn key : Nat) (x : Exact) : Nat :=
  match x with
  | .nan => nan32 [fn, key]
  | .inf neg => fFP32.infCode neg
  | .rat neg n d =>
    let s := if neg then 0x80000000 else 0
    let (lo, ex) := fFP32.floor n d
    if ex || fFP32.rne n d == 0 then s + min lo 0x7F800000
    else s + min (if xor (faithfulUpper fn key (s + lo)) neg then lo + 1 else lo) 0x7F800000

/-- A result exactly rounded to a format (R194). -/
def exactTo (f : Fmt) (key : Nat) (x : Exact) : Nat × Tally :=
  match x with
  | .nan => f.conv .nan (Config.nanPick [key])
  | .inf neg => f.conv (.inf neg) 0
  | .rat neg n d => f.convRat neg n d

/-- A result in an unscaled output format: FP32 faithful, the others exactly rounded (R194, R195). -/
def fuResult (f : Fmt) (fn key : Nat) (x : Exact) : Nat × Tally :=
  if f.mb == 23 then
    let c := faithful32 fn key x
    (c, if f32IsNan c then { Tally.zero with nan := 1 } else if f32IsInf c then { Tally.zero with sat := 1 }
        else Tally.zero)
  else exactTo f key x

/-- The GLU product act(γ) × υ with one rounding (R196). The identity form in FP32 is γ × υ rounded to nearest. -/
def fuGlu (f : Fmt) (fn g u : Nat) : Nat × Tally :=
  if fn == 0 then f.conv (f32 (f32Mul g u)) (Config.nanPick [g, u])
  else fuResult f (fn + 16) (g * 2 ^ 32 + u) (Exact.mul (actExact fn g) (Exact.of32 u))

/-- EXP in FP32 (R192, R193, R201). -/
def fuExp (a : Nat) : Nat :=
  match f32 a with
  | .nan => nan32 [a]
  | .inf neg => if neg then 0 else 0x7F800000
  | .fin neg m e =>
    let x := (Val.fin neg m e).dy
    if Dy.lt x ⟨-104, 0⟩ then 0
    else if Dy.lt ⟨89, 0⟩ x then 0x7F800000
    else if m == 0 then 0x3F800000
    else faithful32 5 a (.rat false (fxExp (fxOfDy x)) fxOne)

/-- Integer square root by bits: `bit` counts down. -/
def isqrtAux : Nat → Nat → Nat → Nat
  | 0, _, r => r
  | b + 1, n, r => let t := r + 2 ^ b; isqrtAux b n (if t * t ≤ n then t else r)

/-- Floor of the square root. -/
def isqrt (n : Nat) : Nat := isqrtAux (Nat.log2 n / 2 + 1) n 0

/-- RSQRT in FP32 (R192, R195). -/
def fuRsqrt (a : Nat) : Nat :=
  match f32 a with
  | .nan => nan32 [a]
  | .inf neg => if neg then nan32 [a] else 0
  | .fin neg m e =>
    if m == 0 then fFP32.infCode neg
    else if neg then nan32 [a]
    else
      let (n, d) := dyFrac m e
      let r := isqrt (d * 2 ^ (2 * fxP) / n)
      faithful32 6 a (.rat false r (2 ^ fxP))

/-- SIGMOID in FP32 for the router (R204). -/
def fuSigmoid (a : Nat) : Nat := faithful32 4 a (actExact 4 a)

/-- The largest of a row of FP32 codes that are not NaN. -/
def f32MaxRow : List Nat → Nat
  | [] => 0xFF800000
  | z :: zs => zs.foldl f32Max z

/-- Softmax of one logit row (R203). -/
def softmaxRow (z : List Nat) : List Nat :=
  let m := f32MaxRow z
  let t := z.map fun x => fuExp (f32Sub x m)
  let (s, c) := t.foldl compAdd (0, 0)
  let d := f32Add s c
  t.map fun x => f32Div x d

/-- Statistics of a row: mean, second moment, reciprocal deviation, and whether one is infinite or NaN. -/
structure RowStat where
  mean : Nat
  second : Nat
  rstd : Nat
  bad : Bool
deriving DecidableEq, Repr

/-- Row statistics in the LAYER form (R205). `xs` are FP32 codes of the BF16 row. -/
def rowStatsLayer (xs : List Nat) (eps : Nat) : RowStat :=
  let n := f32Nat xs.length
  let k := xs.headD 0
  let ((s1, c1), (s2, c2)) := xs.foldl
    (fun (acc : (Nat × Nat) × (Nat × Nat)) x =>
      let d := f32Sub x k
      (compAdd acc.1 d, compAdd acc.2 (f32Mul d d))) ((0, 0), (0, 0))
  let t1 := f32Add s1 c1
  let t2 := f32Add s2 c2
  let t := f32Div t1 n
  let v := f32Fnma t2 t t1
  let var0 := f32Div v n
  let var := if !f32IsNan var0 && f32Neg var0 then 0 else var0
  let mean := f32Add k t
  let rstd := fuRsqrt (f32Add var eps)
  ⟨mean, var, rstd, !(f32Finite mean && f32Finite var && f32Finite rstd)⟩

/-- Row statistics in the RMS form (R207). -/
def rowStatsRms (xs : List Nat) (eps : Nat) : RowStat :=
  let (s, c) := xs.foldl (fun acc x => compAdd acc (f32Mul x x)) (0, 0)
  let ms := f32Div (f32Add s c) (f32Nat xs.length)
  let ms := if xs.any f32IsNan then nan32 [ms] else ms
  let rstd := fuRsqrt (f32Add ms eps)
  ⟨0, ms, rstd, !(f32Finite ms && f32Finite rstd)⟩

/-- A statistics record (R208). -/
def statRecord (rms : Bool) (r : RowStat) : Bytes :=
  leBytes 4 r.mean ++ leBytes 4 r.second ++ leBytes 4 r.rstd
    ++ leBytes 4 ((if r.bad then 1 else 0) + (if rms then 2 else 0))

end Sys2Proof.Machine
end

