-- ==== Sys2Proof/Machine/Weights.lean ====
section
/-! DEFINITION. Fresh weights: the writing of slot-table entries (R365, R366), WEIGHT_INTAKE in its forms (R368 to R373),
slot states (R374), SLOT_SWITCH (R375, R376), GRAD_EXPORT (R377), and the end of Tensor Mover work. -/

namespace Sys2Proof.Machine

open Sys2Proof

/-! ### Tensors quantised whole (R45, R46, R49, R50) -/

/-- A tensor quantised: rows of element codes and block scales, the escape channels by slab and the escape entries of each
row. -/
structure QTensor where
  tscale : Nat
  escapes : List (List Nat)
  rows : List QRow
  entries : List (List (Nat × List Nat))
  tally : Tally
deriving DecidableEq, Repr

/-- A tensor of FP32 rows quantised to a format, with escapes when `esc` is set (R45, R46, R49, R50). -/
def quantTensor (e : Elem) (k : Scale) (esc : Bool) (thr : Nat) (rnd : Nat → Rounding) (rows : List (List Nat))
    (kdim : Nat) : QTensor :=
  let (ch, capped) := if esc then tensorEscapes thr rows kdim else ([], 0)
  let pos := escPositions ch
  let st := tensorScale e k pos rows
  let qs := rows.zipIdx.map fun p => quantRow e k (rnd p.2) st pos p.1
  let es := if esc then rows.map fun r => (ch.zip (chunks 128 r)).map fun p => escapeEntry st p.1 p.2 else []
  let t := (Tally.sum (qs.map (·.2))).add (Tally.sum (es.flatten.map (·.2.2)))
  ⟨st, ch, qs.map (·.1), es.map fun r => r.map fun p => (p.1, p.2.1), { t with capped := capped }⟩

/-- A 16-byte slab header (R50). -/
def slabHeader (chs : List Nat) : Bytes :=
  (leBytes 1 chs.length ++ chs.map (BitVec.ofNat 8) ++ List.replicate 16 0).take 16

/-- A 16-byte row entry of the escape area (R50). -/
def slabEntry (p : Nat × List Nat) : Bytes :=
  (leBytes 1 p.1 ++ p.2.map (BitVec.ofNat 8) ++ List.replicate 16 0).take 16

/-- The scale kind's code in the header of a scale area (R40). -/
def scaleCode : Scale → Nat
  | .none => 0
  | .mx32 => 1
  | .b16 => 2

/-- The element bytes of a quantised tensor. -/
def QTensor.elemBytes (q : QTensor) (e : Elem) : Bytes := (q.rows.map fun r => packElems e r.codes).flatten

/-- The scale area of a quantised tensor (R40, R50). -/
def QTensor.scaleBytes (q : QTensor) (k : Scale) (esc : Bool) : Bytes :=
  let blk := (q.rows.map fun r => r.scales.map (BitVec.ofNat 8)).flatten
  let off := (16 + blk.length + 15) / 16 * 16
  let head := leBytes 4 q.tscale ++ leBytes 1 (scaleCode k) ++ (if esc then [1] else [0]) ++ [0, 0]
    ++ leBytes 4 (if esc then off else 0) ++ leBytes 4 0
  if esc then
    head ++ blk ++ List.replicate (off - 16 - blk.length) 0 ++ (q.escapes.map slabHeader).flatten
      ++ (q.entries.map fun r => (r.map slabEntry).flatten).flatten
  else head ++ blk

/-! ### Slot-table entries (R365, R366) -/

/-- The formats of expert weights (R52). -/
def weightFmtOk (f : Nat) : Bool :=
  match elemOf f with
  | some e =>
    let k := scaleOf f
    (match e with
      | .e2m1 | .e3m2 | .e2m3 | .e4m3 => k == .mx32 || k == .b16
      | .t2 => k == .b16
      | .bf16 => k == .none
      | _ => false) && (!escOf f || escTakes e)
  | none => false

/-- Stored rows and inputs of a part of an entry (R365, R367): gate and up, or down. -/
def State.partDims (s : State) (c expert : Nat) (down : Bool) : Nat × Nat :=
  if expert == 0xFFFF then (s.cget c O_EXPERT_COUNT, s.hidden c)
  else if down then (s.hidden c, s.inner c) else (2 * s.inner c, s.hidden c)

/-- The scale area that weights at a pointer have; with escapes it reaches to the escape area that its header names. -/
def compactScaleLen (fmt n k : Nat) : Nat :=
  let sc := scaleOf fmt
  if sc.block == 0 then 0
  else
    let off := (16 + n * (k / sc.block) + 15) / 16 * 16
    scaleAreaLen sc (escOf fmt) off n k

/-- Do the pointers of one part lie in registered linear regions (R366)? -/
def State.partInRegion (s : State) (c : Nat) (fmt n k ptr sp : Nat) : Bool :=
  let x := s.ctx c
  let e := (elemOf fmt).getD .bf16
  let sl := compactScaleLen fmt n k
  x.inKind 0 ptr (n * rowBytes e k) && (sl == 0 || x.inKind 0 sp sl)

/-- A gradient pointer is 0 or lies in a registered linear region. -/
def State.gradInRegion (s : State) (c n k ptr : Nat) : Bool := ptr == 0 || (s.ctx c).inKind 0 ptr (n * k * 4)

/-- The checks of SLOT_ENTRY_WRITE (R366). -/
def State.slotEntryCheck (s : State) (c : Nat) (d : Bytes) : Option Nat :=
  let e := parseSlotEntry d
  let router := e.expert == 0xFFFF
  let flags := fld d 7 1
  let st := s.cstate c
  let (gn, gk) := s.partDims c e.expert false
  let (dn, dk) := s.partDims c e.expert true
  let used := s.slotEntries c
  firstCode
    [need (flags < 2 && fld d 56 8 == 0 && !fmtReserved e.wFmt && (router || !fmtReserved e.dFmt)) 0x12,
     need (e.slot < 2 && e.layer < s.cget c O_LAYER_SLOTS) 0x12,
     need (!used.any fun p => p.2.slot == e.slot && p.2.layer == e.layer && p.2.expert == e.expert) 0x12,
     need (!(e.cold && (e.gradGu != 0 || e.gradDown != 0))) 0x12,
     need (used.length < s.slotTableMax c) 0x12,
     need (if router then e.wFmt == 0x30 && e.dFmt == 0 else weightFmtOk e.wFmt && weightFmtOk e.dFmt) 0x13,
     need (e.cold || s.partInRegion c e.wFmt gn gk e.gu e.guScale) 0xC5,
     need (e.cold || router || s.partInRegion c e.dFmt dn dk e.down e.downScale) 0xC5,
     need (s.gradInRegion c gn gk e.gradGu && (router || s.gradInRegion c dn dk e.gradDown)) 0xC5,
     need (e.slot != s.activeSlot c || st == 1 || st == 5) 0x47]

/-- The first free place of the table. -/
def Ctx.freePos (x : Ctx) : Nat :=
  ((List.range (x.slotMarks.length + 1)).find? fun p => !x.slotMarks.any fun m => m.pos == p).getD 0

/-- An entry stored (R366). A READY slot that gains an entry has not had every part written. -/
def State.storeSlotEntry (s : State) (c : Nat) (d : Bytes) : State :=
  let e := parseSlotEntry d
  let pos := (s.ctx c).freePos
  match s.slotEntryAddr c pos with
  | none => s
  | some a =>
    let s := s.wr a d
    let s := s.modCtx c fun x => { x with slotMarks := x.slotMarks ++ [⟨pos, false, e.expert == 0xFFFF⟩], slotImage := d }
    if s.slotState c e.slot == 2 then s.setSlot c e.slot 0 else s

/-! ### Intake (R368 to R373) -/

/-- An FP8 E4M3 code as an FP32 code. -/
def e4m3To32 (v : Nat) : Nat :=
  if v % 128 == 127 then 0x7FC00000
  else f32Dy (fE4M3.dec v).dy (v ≥ 128)

/-- A source row as FP32 codes: 0 BF16, 1 FP32, 2 E4M3. -/
def sourceRow (kind : Nat) (bs : Bytes) : List Nat :=
  match kind with
  | 0 => bf16Row bs
  | 1 => fp32Row bs
  | _ => bs.map fun b => e4m3To32 b.toNat

/-- Bytes of a source element. -/
def sourceElem (kind : Nat) : Nat := if kind == 0 then 2 else if kind == 1 then 4 else 1

/-- `n` rows of `k` elements of an unscaled source with a row stride. -/
def sourceRows (kind stride n k : Nat) (bs : Bytes) : List (List Nat) :=
  (List.range n).map fun r => sourceRow kind ((bs.drop (r * stride)).take (k * sourceElem kind))

/-- Bytes that a strided source spans. -/
def sourceSpan (kind stride n k : Nat) : Nat := if n == 0 then 0 else (n - 1) * stride + k * sourceElem kind

/-- Gate and up rows interleaved into stored rows: 128 gate rows and then 128 up rows in each panel of 256 (R367). -/
def interleave (gate up : List (List Nat)) : List (List Nat) :=
  (((chunks 128 gate).zip (chunks 128 up)).map fun p => p.1 ++ p.2).flatten

/-- A chunk decompressed (R371); none when it ends inside a literal run. -/
def unpackChunk : Nat → Bytes → Option Bytes
  | _, [] => some []
  | 0, _ => none
  | fuel + 1, b :: r =>
    let c := b.toNat
    if c < 128 then
      if r.length < c + 1 then none
      else (unpackChunk fuel (r.drop (c + 1))).map fun t => r.take (c + 1) ++ t
    else (unpackChunk fuel r).map fun t => List.replicate (c - 0x7E) 0 ++ t

/-- The chunks of a pack, each with its stated output length (R370, R371). -/
def unpackChunks : List Nat → Nat → Bytes → Option Bytes
  | [], _, _ => some []
  | w :: ws, left, bs =>
    let len := w % 2 ^ 24
    let want := if ws.isEmpty then left else 65536
    let raw := bs.take len
    if raw.length < len then none
    else
      match (if w / 2 ^ 31 % 2 == 1 then some raw else unpackChunk len raw) with
      | none => none
      | some out =>
        if out.length != want then none
        else (unpackChunks ws (left - want) (bs.drop len)).map fun t => out ++ t

/-- T5 bytes expanded to T2 codes, and how many bytes were invalid (R37). -/
def t5Codes (bs : Bytes) : List Nat × Nat :=
  let l := bs.map fun b =>
    let v := b.toNat
    if v > 0xF2 then ([0, 0, 0, 0, 0], 1)
    else ([v % 3, v / 3 % 3, v / 9 % 3, v / 27 % 3, v / 81 % 3].map fun t => if t == 2 then 3 else t, 0)
  ((l.map (·.1)).flatten, (l.map (·.2)).foldl (· + ·) 0)

/-- A weight pack read (R370): elements, scale area, counts and whether the digest differs; none when it does not match its
part. -/
def readPack (bs : Bytes) (part fmt n k : Nat) : Option (Bytes × Bytes × Tally × Bool) :=
  let cnt := fld bs 16 4
  let eb := fld bs 20 4
  let sb := fld bs 24 4
  let t5 := fld bs 5 1 == 1
  let e := (elemOf fmt).getD .bf16
  let perRow := if t5 then (k + 4) / 5 else rowBytes e k
  let words := (List.range cnt).map fun i => fld bs (64 + 4 * i) 4
  if fld bs 0 2 != 0x5742 || fld bs 2 1 != 1 || fld bs 3 1 != part || fld bs 4 1 != fmt || fld bs 5 1 > 1
      || fld bs 8 4 != k || fld bs 12 4 != n || eb != n * perRow || (t5 && e != .t2)
      || words.any (fun w => w / 2 ^ 24 % 128 != 0) then none
  else
    match unpackChunks words (eb + sb - 65536 * (cnt - 1)) (bs.drop (64 + 4 * cnt)) with
    | none => none
    | some out =>
      if out.length != eb + sb then none
      else
        let raw := out.take eb
        let (elems, bad) :=
          if t5 then
            let rows := (chunks perRow raw).map t5Codes
            ((rows.map fun r => packElems .t2 (r.1.take k)).flatten, (rows.map (·.2)).foldl (· + ·) 0)
          else (raw, 0)
        some (elems, out.drop eb, { Tally.zero with tern := bad }, sha256 out != (bs.drop 32).take 32)

/-- What an intake will write (R368 to R372): elements, scale area, counts, whether the digest differs, source bytes read;
none when the source does not match its part. -/
def State.intakeData (s : State) (c : Nat) (e : SlotEntry) (part kind stride : Nat) (src src2 : Bytes) :
    Option (Bytes × Bytes × Tally × Bool × Nat) :=
  let down := part == 1
  let (n, k) := s.partDims c e.expert down
  let fmt := if down then e.dFmt else e.wFmt
  let el := (elemOf fmt).getD .bf16
  if kind == 3 then
    if part == 2 then none
    else (readPack src part fmt n k).map fun r => (r.1, r.2.1, r.2.2.1, r.2.2.2, src.length)
  else if el == .t2 || (part == 2 && kind == 2) then none
  else
    let per := if part == 0 then n / 2 else n
    let span := sourceSpan kind stride per k
    if src.length < span || (part == 0 && src2.length < span) then none
    else
      let rows :=
        if part == 0 then interleave (sourceRows kind stride per k src) (sourceRows kind stride per k src2)
        else sourceRows kind stride per k src
      let sc := scaleOf fmt
      let esc := escOf fmt && part != 2
      let q := quantTensor el sc esc (s.cget c O_ESCAPE_THRESHOLD) (fun _ => .nearest) rows k
      let bytes := (if part == 0 then 2 else 1) * per * k * sourceElem kind
      some (q.elemBytes el, if sc.block == 0 then [] else q.scaleBytes sc esc, q.tally, false,
        if el == .bf16 then bytes else 2 * bytes)

/-- The slot that an intake writes (R368). -/
def State.intakeSlot (s : State) (c : Nat) : Nat := if s.cstate c == 1 then s.activeSlot c else s.shadowSlot c

/-- The first intake into a READY or EMPTY slot (R374): it becomes WRITING, every part is unwritten, and the ledgers and
retained parts whose window used it are freed. -/
def State.openSlot (s : State) (c slot : Nat) : State :=
  if s.slotState c slot == 0 || s.slotState c slot == 2 then
    let pos := ((s.slotEntries c).filter fun p => p.2.slot == slot).map fun p => (p.1.pos, p.2.expert == 0xFFFF)
    let s := s.modCtx c fun x =>
      { x with slotMarks := x.slotMarks.map fun m =>
          match pos.find? fun p => p.1 == m.pos with
          | some p => { m with guDone := false, downDone := p.2 }
          | none => m }
    let tags := ((s.ctx c).ledgers.filter (·.slot == slot)).map (·.tag)
    let s := tags.foldl (fun s t => s.freeLedger c t) s
    let rt := ((s.ctx c).retained.filter (·.slot == slot)).map (·.tag)
    let s := rt.foldl (fun s t => s.releaseUse c t 6) s
    let s := s.modCtx c fun x => { x with retained := x.retained.filter (·.slot != slot) }
    s.setSlot c slot 1
  else s

/-- Intakes that waited for a DRAINING slot begin once it is READY (R374). -/
def State.beginIntakes (s : State) (c : Nat) : State :=
  (s.ctx c).intakes.foldl
    (fun s k =>
      if k.waiting && s.slotState c k.slot != 4 then
        let s := s.openSlot c k.slot
        s.modCtx c fun x =>
          { x with intakes := x.intakes.map fun j => if j.idx == k.idx then { j with waiting := false } else j }
      else s) s

/-- Is a fabric address of another node covered by a source window of the context for a permission (R340)? -/
def Ctx.windowed (x : Ctx) (a n perm : Nat) : Bool :=
  x.srcWindows.any fun w => w.nodeFirst ≤ addrNode a && addrNode a ≤ w.nodeLast && w.space == addrSpace a
    && w.perm / 2 ^ perm % 2 == 1 && w.offset ≤ addrOff a && addrOff a + n ≤ w.offset + w.length

/-- WINDOW_VIOLATION (R340). -/
def State.windowViolation (s : State) (c : Nat) : State :=
  (s.cbump c O_WINDOW_VIOLATIONS 1).craise c O_FABRIC_CTX_FLAGS 0

/-- The bytes of a source of WEIGHT_INTAKE (R368, R370). -/
def State.intakeSpan (s : State) (c : Nat) (d : Bytes) : Nat :=
  let part := fld d 48 1
  let kind := fld d 49 1
  let (n, k) := s.partDims c (fld d 44 2) (part == 1)
  if kind == 3 then fld d 32 8 else sourceSpan kind (fld d 40 4) (if part == 0 then n / 2 else n) k

/-- Does a WEIGHT_INTAKE have two sources: gate and up, not packed (R368)? -/
def intakeTwo (d : Bytes) : Bool := fld d 48 1 == 0 && fld d 49 1 != 3

/-- The checks of WEIGHT_INTAKE (R368, R374, R396, R407). -/
def intakeChecks (s : State) (c : Nat) (d : Bytes) : List (Option Nat) :=
  let a1 := fld d 16 8
  let a2 := fld d 24 8
  let hm := fld d 50 1
  let two := intakeTwo d
  let span := s.intakeSpan c d
  let x := s.ctx c
  let own (a : Nat) : Bool := addrNode a == s.nodeOf c
  [reservedCheck d [(16, 35)],
   need (fld d 48 1 < 3 && fld d 49 1 < 4 && hm < 4 && (two || a2 == 0)) 0x12,
   s.stateCheck c d,
   if own a1 then x.addrCheck (hm % 2 == 1) false false a1 span else none,
   if two && own a2 then x.addrCheck (hm / 2 % 2 == 1) false false a2 span else none,
   need (s.slotState c (s.intakeSlot c) != 3 && !x.switch.isSome) 0x47]

/-- WEIGHT_INTAKE accepted (R368 to R371): its source is read and converted, or it ends with a code. -/
def runIntake (s : State) (c i : Nat) (d : Bytes) (src src2 : Bytes) : State :=
  let a1 := fld d 16 8
  let a2 := fld d 24 8
  let stride := fld d 40 4
  let expert := fld d 44 2
  let part := fld d 48 1
  let kind := fld d 49 1
  let hm := fld d 50 1
  let two := intakeTwo d
  let span := s.intakeSpan c d
  let x := s.ctx c
  let own (a : Nat) : Bool := addrNode a == s.nodeOf c
  let slot := s.intakeSlot c
  let far (a : Nat) (host : Bool) : Bool := !host && !own a && !x.windowed a span 3
  if far a1 (hm % 2 == 1) || (two && far a2 (hm / 2 % 2 == 1)) then (s.windowViolation c).endDesc c i 0x50
  else match s.findEntry c slot (fld d 46 2) expert with
    | none => s.endDesc c i 0x12
    | some (m, e) =>
      let bring (a : Nat) (host : Bool) (given : Bytes) : Bytes := if !host && own a then s.rd a span else given.take span
      let sick (a : Nat) (host : Bool) : Bool := !host && own a && s.isPoisoned a span
      if sick a1 (hm % 2 == 1) || (two && sick a2 (hm / 2 % 2 == 1)) then (s.endDesc c i 0xE9).memHalt c none
      else
        let data := if (part == 2) != (expert == 0xFFFF) then none
          else s.intakeData c e part kind stride (bring a1 (hm % 2 == 1) src)
            (if two then bring a2 (hm / 2 % 2 == 1) src2 else [])
        match data with
        | none => (s.craise c O_WEIGHT_FLAGS 0).endDesc c i 0x45
        | some (elems, scales, t, bad, n) =>
          let wait := s.slotState c slot == 4
          let s := if wait then s else s.openSlot c slot
          let s := s.tally c .wgt 0 t
          let s := if hm % 2 == 1 then s.haCount false a1 span else s
          let s := if two && hm / 2 % 2 == 1 then s.haCount false a2 span else s
          s.modCtx c fun x =>
            { x with intakes := x.intakes ++ [⟨i, m.pos, slot, part, elems, scales, n, wait, s.beat, bad⟩] }

/-- WEIGHT_INTAKE at the front of a ring (R368). -/
def issueIntake (s : State) (c i : Nat) (d : Bytes) (src src2 : Bytes) : State :=
  s.issueDesc c i d (intakeChecks s c d) fun s => runIntake s c i d src src2

/-- WEIGHT_INTAKE of a part from unscaled rows. -/
def isIntake (part : Nat) (d : Bytes) : Bool := fld d 0 1 == 0x21 && fld d 49 1 != 3 && fld d 48 1 == part

/-- WEIGHT_INTAKE of gate and up from unscaled rows (R368, R369), and one whose PART names no part. -/
def execWeightIntakeGateUp (c : Nat) (src src2 : Bytes) (s : State) : Host.Outcome State Fault Refusal :=
  finish s (s.takeFront c (fun d => isIntake 0 d || (fld d 0 1 == 0x21 && fld d 49 1 != 3 && fld d 48 1 > 2))
    fun i d => issueIntake s c i d src src2)

/-- WEIGHT_INTAKE of the down weights from unscaled rows (R368, R369). -/
def execWeightIntakeDown (c : Nat) (src : Bytes) (s : State) : Host.Outcome State Fault Refusal :=
  finish s (s.takeFront c (isIntake 1) fun i d => issueIntake s c i d src [])

/-- WEIGHT_INTAKE of router weights (R368). -/
def execWeightIntakeRouter (c : Nat) (src : Bytes) (s : State) : Host.Outcome State Fault Refusal :=
  finish s (s.takeFront c (isIntake 2) fun i d => issueIntake s c i d src [])

/-- WEIGHT_INTAKE from a weight pack (R370). -/
def execWeightIntakePack (c : Nat) (src : Bytes) (s : State) : Host.Outcome State Fault Refusal :=
  finish s (s.takeFront c (fun d => fld d 0 1 == 0x21 && fld d 49 1 == 3) fun i d => issueIntake s c i d src [])

/-- Bytes of a weight part put at their pointer: in memory, or in host memory for a COLD entry (R373). -/
def State.putWeights (s : State) (cold : Bool) (p : Nat) (bs : Bytes) : State :=
  if bs.isEmpty then s else if cold then s.hostWrite p bs else s.wr p bs

/-- An intake ends (R372): bytes are written; the part counts as written unless the digest differs. -/
def finishIntake (s : State) (c : Nat) (k : Intake) : State :=
  let e := parseSlotEntry (s.slotEntry c k.pos)
  let down := k.part == 1
  if e.cold && s.hostMods.isEmpty then
    (s.modCtx c fun x => { x with intakes := x.intakes.filter (·.idx != k.idx) }).endDesc c k.idx 0x36
  else
  let s := s.putWeights e.cold (if down then e.down else e.gu) k.elems
  let s := s.putWeights e.cold (if down then e.downScale else e.guScale) k.scales
  let s := (s.cbump c O_INTAKE_BYTES_IN k.bytesIn).bump O_INTAKE_BYTES k.bytesIn
  let s := s.cbump c O_INTAKE_BYTES_OUT (k.elems.length + k.scales.length)
  let s := s.modCtx c fun x => { x with intakes := x.intakes.filter (·.idx != k.idx) }
  if k.digestBad then (s.craise c O_WEIGHT_FLAGS 1).endDesc c k.idx 0x46
  else
    let s := s.modCtx c fun x =>
      { x with slotMarks := x.slotMarks.map fun m =>
          if m.pos == k.pos then (if down then { m with downDone := true } else { m with guDone := true }) else m }
    let s := if s.slotState c k.slot == 1 && s.slotComplete c k.slot (s.ctx c).map && s.slotWritten c k.slot then
        s.setSlot c k.slot 2
      else s
    if k.part == 2 && (s.paired || s.get O_TWIN_STATE == 1) then
      let s := s.mirrorAll .routerWeights c [] [k.pos] [(k.pos, k.elems)] none
      { s with unacked := s.unacked.map fun (u : Unacked) =>
          if u.seq + 1 == s.mirrorNext then { u with ends := (c, k.idx) :: u.ends } else u }
    else s.endDesc c k.idx 0

/-- INTAKE_COMPLETE (R372). -/
def execIntakeComplete (c idx : Nat) (s : State) : Host.Outcome State Fault Refusal :=
  finish s <|
    match (s.ctx c).intakes.find? (·.idx == idx) with
    | some k =>
      if !s.coreUp then s
      else if k.waiting then s.beginIntakes c else finishIntake s c k
    | none => s

/-! ### SLOT_SWITCH (R375, R376) -/

/-- Has a half of a sequence, or of a later one, launched (R376)? -/
def Ctx.seqPassed (x : Ctx) (q : Nat) : Bool := x.seqTop.any fun t => seqGe t q

/-- The checks of SLOT_SWITCH (R376, R396, R407). -/
def switchChecks (s : State) (c : Nat) (d : Bytes) : List (Option Nat) :=
  let q := fld d 16 4
  let x := s.ctx c
  let sh := s.shadowSlot c
  let any := q == 0xFFFFFFFF
  [reservedCheck d [(16, 4)], need (q < 2 ^ 21 || any) 0x12, s.stateCheck c d,
   need (s.slotState c sh == 2 && s.slotComplete c sh x.map && x.switch.isNone) 0x47,
   need (any || !x.seqPassed q) 0x48,
   need (any || (q + 2 ^ 21 - s.lowSeq c) % 2 ^ 21 ≤ 1024) 0x12]

/-- SLOT_SWITCH is issued (R376). -/
def issueSlotSwitch (s : State) (c i : Nat) (d : Bytes) (at_ : Option Nat) : State :=
  let q := fld d 16 4
  s.issueDesc c i d (switchChecks s c d)
    fun s => s.modCtx c fun x => { x with switch := some ⟨i, q, at_.getD (s.beat + 1), false, 0⟩, switchSeen := false }

/-- SLOT_SWITCH (R376). -/
def execSlotSwitch (c : Nat) (s : State) : Host.Outcome State Fault Refusal :=
  finish s (s.takeFront c (fun d => fld d 0 1 == 0x22) fun i d => issueSlotSwitch s c i d none)

/-- A switch takes effect: S is fixed and the switch is pending; or it is refused because S has been passed (R375, R376). -/
def State.switchEffect (s : State) (c : Nat) (w : Switch) : State :=
  let q := if w.seqOperand == 0xFFFFFFFF then s.lowSeq c else w.seqOperand
  if (s.ctx c).seqPassed q then
    let go := s.rdNat (s.slotAddr c w.idx + 1) 1 % 2 == 1
    let s := s.modCtx c fun x => { x with switch := none }
    let s := (s.recordRefusal c w.idx 0x22 0x48).craise c O_WEIGHT_FLAGS 3
    let s := s.endDesc c w.idx 0x48
    if go then s else s.pauseRing c false
  else
    let s := s.modCtx c fun x => { x with switch := some { w with effective := true, s := q } }
    (s.cput c O_SWITCH_SEQ q).endDesc c w.idx 0

/-- SLOT_SWITCH_EFFECT (R375): at the boundary, at position 5 of R254. -/
def execSlotSwitchEffect (c : Nat) (s : State) : Host.Outcome State Fault Refusal :=
  finish s <|
    match (s.ctx c).switch with
    | some w => if s.coreUp && !w.effective && w.beat ≤ s.beat && !s.dueBelow 5 w.beat then s.switchEffect c w else s
    | none => s

/-! ### GRAD_EXPORT (R377) -/

/-- The gradient buffer that GRAD_EXPORT names; none without one, or for a COLD entry. -/
def State.gradBuffer (s : State) (c : Nat) (d : Bytes) : Option Nat :=
  match s.findEntry c (fld d 29 1) (fld d 26 2) (fld d 24 2) with
  | none => none
  | some (_, e) =>
    let p := if fld d 28 1 == 1 then e.gradDown else e.gradGu
    if e.cold || p == 0 || e.expert == 0xFFFF then none else some p

/-- Bytes that GRAD_EXPORT writes. -/
def exportLen (fmt n k : Nat) : Nat := n * rowBytes ((elemOf fmt).getD .fp32) k + (if fmt == 0x14 then n * (k / 32) else 0)

/-- The checks of GRAD_EXPORT (R377, R396, R407). -/
def exportChecks (s : State) (c : Nat) (d : Bytes) : List (Option Nat) :=
  let fmt := fld d 30 1
  let gx := fld d 31 1
  let (n, k) := s.partDims c (fld d 24 2) (fld d 28 1 == 1)
  [reservedCheck d [(16, 16)], need (fld d 28 1 < 2 && fld d 29 1 < 2 && gx < 4 && !fmtReserved fmt) 0x12,
   need (fmt == 0x70 || fmt == 0x30 || fmt == 0x14) 0x13, s.stateCheck c d,
   (s.ctx c).addrCheck (gx / 2 % 2 == 1) true false (fld d 16 8) (exportLen fmt n k)]

/-- GRAD_EXPORT is issued (R377): it holds later commands until it ends. -/
def issueGradExport (s : State) (c i : Nat) (d : Bytes) : State :=
  s.issueDesc c i d (exportChecks s c d)
    fun s => if (s.gradBuffer c d).isNone then s.endDesc c i 0x12 else s.hold c (.gradExport i d)

/-- GRAD_EXPORT (R377). -/
def execGradExport (c : Nat) (s : State) : Host.Outcome State Fault Refusal :=
  finish s (s.takeFront c (fun d => fld d 0 1 == 0x23) fun i d => issueGradExport s c i d)

/-- The rounding of an exported row (R53, R54, R263, R377). -/
def State.exportRounding (s : State) (c : Nat) (d : Bytes) (k row : Nat) : Rounding :=
  if s.cget c O_SR_ENABLE / 4 % 2 == 1 then
    .stochastic (philoxWords
      ⟨s.cget c O_SEED, s.rank c, if fld d 28 1 == 1 then 0x13 else 0x12, 0, 0, fld d 24 2, row, s.stepNo c, fld d 26 2⟩ k)
  else .nearest

/-- The export carried out (R377). -/
def runGradExport (s : State) (c i : Nat) (d : Bytes) : State :=
  match s.gradBuffer c d with
  | none => s.endDesc c i 0x12
  | some p =>
    let fmt := fld d 30 1
    let gx := fld d 31 1
    let (n, k) := s.partDims c (fld d 24 2) (fld d 28 1 == 1)
    if s.isPoisoned p (n * k * 4) then (s.endDesc c i 0xE9).memHalt c none
    else
      let rows := (List.range n).map fun r => fp32Row (s.rd (p + r * k * 4) (k * 4))
      let (out, t) :=
        if fmt == 0x70 then ((rows.map fp32Bytes).flatten, Tally.zero)
        else if fmt == 0x30 then
          let q := rows.zipIdx.map fun r => quantRow .bf16 .none (s.exportRounding c d k r.2) 0x3F800000 [] r.1
          ((q.map fun r => packElems .bf16 r.1.codes).flatten, Tally.sum (q.map (·.2)))
        else
          let q := rows.zipIdx.map fun r => quantRow .e5m2 .mx32 (s.exportRounding c d k r.2) 0x3F800000 [] r.1
          ((q.map fun r => packElems .e5m2 r.1.codes).flatten
            ++ (q.map fun r => r.1.scales.map (BitVec.ofNat 8)).flatten, Tally.sum (q.map (·.2)))
      let s := s.tally c .grad (s.ctx c).marks t
      let s := s.putWeights (gx / 2 % 2 == 1) (fld d 16 8) out
      let s := if gx % 2 == 1 then s.wr p (List.replicate (n * k * 4) 0) else s
      s.endDesc c i 0

/-- The GRAD_EXPORT that holds a ring. -/
def Ring.exporting (r : Ring) : Option (Nat × Bytes) :=
  (r.holds.filterMap fun h => match h with | .gradExport i d => some (i, d) | _ => none).head?

/-- TENSOR_MOVER_DONE (R299, R377, R395): a COPY or LAYOUT has written every byte, or a GRAD_EXPORT whose earlier
LAYER_BWDs have ended has been carried out. -/
def execTensorMoverDone (c idx : Nat) (s : State) : Host.Outcome State Fault Refusal :=
  let r := (s.ctx c).ring
  finish s <|
    if !s.coreUp then s
    else if r.active.any fun a => a.idx == idx && (a.op == 0x10 || a.op == 0x11) then s.endDesc c idx 0
    else match r.exporting with
      | some (i, d) => if i == idx && !r.active.any (fun a => a.op == 0x02) then runGradExport s c i d else s
      | none => s

end Sys2Proof.Machine
end

