-- ==== Sys2Proof/Machine/Items.lean ====
section
/-! DEFINITION. Work items (R157 to R160, R169, R173): rates by format pair (R61), cost, shapes, order keys; what a
window's conversions count (R56 to R59), function-unit results (R214), and operand rows of expert and router weights. -/

namespace Sys2Proof.Machine

open Sys2Proof

/-! ### Rates and costs -/

/-- MAC per cell per arithmetic cycle of a pair of operands; `none` for a pair that is not listed (R61). -/
def pairRate (weight act : Elem) : Option Nat :=
  let narrow (e : Elem) : Bool := e == .e2m1 || e == .e3m2 || e == .e2m3 || e == .e4m3 || e == .e5m2
  if weight == .bf16 then (if narrow act || act == .bf16 then some 8 else none)
  else if act == .bf16 then (if narrow weight || weight == .t2 then some 8 else none)
  else if weight == .t2 then (if act == .e2m1 then some 128 else if narrow act then some 32 else none)
  else if narrow weight && narrow act then some (if weight == .e2m1 && act == .e2m1 then 64 else 32)
  else none

/-- Arithmetic cycles of an item of h rows and w columns over k at a rate (R158). -/
def itemCost (h w k rate : Nat) : Nat := (h * w * k + 256 * rate - 1) / (256 * rate) + 32

/-- The height of a row block that holds `r` rows (R169). -/
def blockHeight (r : Nat) : Nat := 16 * ((r + 15) / 16)

/-- Width and height of the items of a single-group operation of m rows and n columns (R169). -/
def singleShape (m n active : Nat) : Nat × Nat :=
  let fits (p : Nat × Nat) : Bool := (m + p.2 - 1) / p.2 * ((n + p.1 - 1) / p.1) ≥ 4 * active
  let shapes := ([256, 128, 64, 32].map fun w => (List.range 8).map fun i => (w, 128 - 16 * i)).flatten
  (shapes.find? fits).getD (32, 16)

/-- Tiles at work on the whole engine. -/
def State.activeTotal (s : State) : Nat := (s.activeRegions.map fun r => (s.activeTiles r).length).foldl (· + ·) 0

/-- Items committed (R190, R438). -/
def State.countItems (s : State) (c n cycles : Nat) : State :=
  ((s.cbump c O_ITEMS_RUN n).cbump c O_ARITH_CYCLES cycles).bump O_ARITH_CYCLES_ALL cycles

/-- Results that function units delivered (R214). The manual does not give how many take the slow path, nor the cycles
that cells wait. -/
def State.fuCount (s : State) (c n : Nat) : State :=
  if n == 0 then s
  else
    let s := (s.cbump c O_FU_RESULTS n).cbump c O_FU_SLOW_PATH (Config.slowPath s.freeCtr % (n + 1))
    (s.cbump c O_FU_STALL_CYCLES (Config.cycles s.freeCtr)).drawn

/-! ### What is counted -/

/-- An event that raises a flag of context `c` several times (R441, R442). -/
def State.craiseN (s : State) (c k bit n : Nat) : State :=
  if n == 0 then s
  else
    let s := s.craise c k bit
    { s with raises := tblPut 0 s.raises (raiseKey (ctxKey c k) bit) ((s.raiseCount (ctxKey c k) bit + (n - 1)) % 2 ^ 32) }

/-- Saturations of a window counted on this engine; SATURATION is raised when they exceed SAT_ALERT_LEVEL (R58, R59). -/
def State.satWindow (s : State) (c tag : Nat) (bwd : Bool) (n : Nat) : State :=
  match (s.ctx c).known.find? fun k => k.tag == tag && k.bwd == bwd with
  | none => s
  | some k =>
    let lvl := s.cget c O_SAT_ALERT_LEVEL
    let s := s.modCtx c fun x =>
      { x with known := x.known.map fun v => if v.tag == tag && v.bwd == bwd then { v with sats := v.sats + n } else v }
    if k.sats ≤ lvl && k.sats + n > lvl then s.craise c O_NUMERIC_FLAGS 0 else s

/-- Conversions of a window counted (R56 to R59). -/
def State.winTally (s : State) (c tag : Nat) (bwd : Bool) (mark : Nat) (t : Tally) : State :=
  (s.tally c (if bwd then .grad else .fwd) mark t).satWindow c tag bwd t.sat

/-! ### Weights as operand rows -/

/-- The rows of a compact matrix of `n` rows of `k` elements at a pointer (R367), with what decoding them counts. -/
def State.matrixRows (s : State) (fmt ptr sp n k : Nat) : List OpRow × Tally :=
  let e := (elemOf fmt).getD .bf16
  let len := rowBytes e k
  let l := (List.range n).map fun r => s.opRowAt e (scaleOf fmt) (s.rd (ptr + r * len) len) sp r k
  (l.map (·.1), (Tally.sum (l.map (·.2))).oneTensor)

/-- The bytes that a compact matrix and its scale area take, poisoned or not (R457). -/
def State.matrixBad (s : State) (fmt ptr sp n k : Nat) : Bool :=
  s.isPoisoned ptr (n * rowBytes ((elemOf fmt).getD .bf16) k)
    || s.isPoisoned sp (if sp == 0 then 0 else compactScaleLen fmt n k)

/-- Does a context hold a collective under which it starts no item (R29, R181)? -/
def Ctx.collHolds (x : Ctx) : Bool := x.coll.any fun k => k.phase != 0

end Sys2Proof.Machine
end

