-- ==== Sys2Proof/Machine/Sorter.lean ====
section
/-! DEFINITION. The dispatch sorter (R99 to R122): payloads quantised once for the wire, records formed by next hop, their
order, the node table, and stage 3. -/

namespace Sys2Proof.Machine

open Sys2Proof

/-! ### Payloads (R111 to R113) -/

/-- The escape section of a token's payload (R113). -/
def escapeSection (chs : List (List Nat)) (entries : List (Nat × List Nat)) : Bytes :=
  let flags := chs.map fun l => !l.isEmpty
  let map := leBytes 16 (bitsOf flags)
  map ++ (((chs.zip entries).filter fun p => !p.1.isEmpty).map fun p => slabHeader p.1 ++ slabEntry p.2).flatten

/-- Zero bytes up to a multiple of 16. -/
def pad16 (bs : Bytes) : Bytes := bs ++ List.replicate (align16 bs.length - bs.length) 0

/-- The payloads of a quantised window (R112), without gate blocks. -/
def QTensor.payloads (q : QTensor) (e : Elem) (esc : Bool) : List Bytes :=
  q.rows.zipIdx.map fun p =>
    pad16 (p.1.bytes e ++ (if esc then escapeSection q.escapes (q.entries.getD p.2 []) else []))

/-- The quantisation pass of a window (R111, R117): rows of FP32 codes to payloads. -/
def State.quantWindow (s : State) (c : Nat) (w : Window) (rows : List (List Nat)) : Quant × Tally :=
  let fmt := s.dispatchFmt c w.bwd
  let e := (elemOf fmt).getD .e4m3
  let esc := escOf fmt
  let sr := w.bwd && s.cget c O_SR_ENABLE % 2 == 1
  let rnd (t : Nat) : Rounding :=
    if sr then
      .stochastic (philoxWords ⟨s.cget c O_SEED, s.rank c, 0x10, w.tag % 2, w.mb, 0, t, w.step, w.layerSlot⟩ (s.hidden c))
    else .nearest
  let q := quantTensor e (scaleOf fmt) esc (s.cget c O_ESCAPE_THRESHOLD) rnd rows (s.hidden c)
  (⟨fmt, q.tscale, q.escapes, q.payloads e esc⟩, q.tally)

/-- Buffers that the payloads take (R115): no payload straddles two. -/
def State.payloadBufs (s : State) (c : Nat) (q : Quant) : Nat :=
  let per := s.bufSize (s.poolFor c 1) / max 1 ((q.payloads.headD []).length)
  (q.payloads.length + max 1 per - 1) / max 1 per

/-! ### Records (R103 to R106) -/

/-- A record that the sorter forms: next hop, relay and alternate marks, token, its place among the records of the same
token and hop, and its copies in ascending expert id. -/
structure RecPlan where
  hop : Nat
  relay : Bool
  alt : Bool
  token : Nat
  part : Nat
  copies : List LedgerCopy
deriving DecidableEq, Repr

/-- The sort key of a record (R105). -/
def RecPlan.key (r : RecPlan) : List Nat := [r.hop, (r.copies.map (·.expert)).headD 0, r.token, r.part]

/-- Insertion by key. -/
def insertPlan (r : RecPlan) : List RecPlan → List RecPlan
  | [] => [r]
  | q :: l => if keyLt r.key q.key then r :: q :: l else q :: insertPlan r l

/-- Insertion of a copy by expert id. -/
def insertCopy (e : LedgerCopy) : List LedgerCopy → List LedgerCopy
  | [] => [e]
  | f :: l => if e.expert < f.expert then e :: f :: l else f :: insertCopy e l

/-- The records of one token (R103): copies grouped by next hop, five to a record. -/
def State.tokenPlans (s : State) (c : Nat) (dark : List Nat) (t : Nat) (copies : List LedgerCopy) : List RecPlan :=
  let hops := copies.filterMap fun e => (s.nextHop c dark e.node).map fun h => (h, e)
  let keys := (hops.map (·.1)).eraseDups
  (keys.map fun h =>
    let es := (hops.filter fun p => p.1 == h).foldl (fun acc p => insertCopy p.2 acc) []
    (chunks 5 es).zipIdx.map fun p => ⟨h.1, h.2.1, h.2.2, t, p.2, p.1⟩).flatten

/-- The records of a window in the order of the header array (R105, R106, R122). -/
def State.recPlans (s : State) (c : Nat) (w : Window) : List RecPlan :=
  match w.ledger with
  | none => []
  | some l =>
    let es := ledgerEntries l w.bwd
    let all := ((List.range l.toks.length).map fun t =>
      s.tokenPlans c w.dark t ((es.filter fun p => p.1 == t).map (·.2))).flatten
    all.foldl (fun acc r => insertPlan r acc) []

/-- Does some copy of a window lack a next hop (R100, R151)? -/
def State.lacksHop (s : State) (c : Nat) (w : Window) : Bool :=
  match w.ledger with
  | none => false
  | some l => (ledgerEntries l w.bwd).any fun p => (s.nextHop c w.dark p.2.node).isNone

/-- The header of a record (R107 to R110); `last` on the last record to its next hop. -/
def RecPlan.header (r : RecPlan) (node c : Nat) (w : Window) (q : Quant) (last : Bool) : RecHeader :=
  ⟨w.tag, node, c, r.token, q.fmt, mkFlags (if w.bwd then 1 else 0) last (r.part != 0) r.relay r.alt, q.tscale,
    r.copies.map fun e => ⟨e.replica, e.node % 64, e.expert⟩⟩

/-- The headers of a list of records. -/
def planHeaders (node c : Nat) (w : Window) (q : Quant) : List RecPlan → List RecHeader
  | [] => []
  | r :: l => r.header node c w q (!l.any fun v => v.hop == r.hop) :: planHeaders node c w q l

/-- The node table (R114): one entry per node of the destination set. -/
def State.nodeTableOf (s : State) (c : Nat) (w : Window) (plans : List RecPlan) (recLen : Nat) : List NodeEntry :=
  (s.destSet c w).map fun d =>
    let n := (plans.filter fun r => r.hop == d.1).length
    ⟨d.1, d.2.1, (plans.filter fun r => r.hop < d.1).length, n, n * recLen / 16, d.2.2⟩

/-- The buffers of the header array and of the node table (R115). -/
def State.sendListBufs (s : State) (c : Nat) (w : Window) : Nat :=
  s.bufsFor c 8 (32 * (s.recPlans c w).length) + max 1 (s.bufsFor c 8 (16 * (s.destSet c w).length))

/-- The length of a dispatch record of a window. -/
def Window.recLen (w : Window) : Nat :=
  match w.quant with
  | some q => 32 + (q.payloads.headD []).length + (if w.bwd then 32 else 0)
  | none => 32

/-- RECORD written in a ledger (R120): the index of the record that carries each copy. -/
def ledgerPlace (l : Ledger) (plans : List RecPlan) : Ledger :=
  { l with toks := l.toks.zipIdx.map fun t =>
      { t.1 with copies := t.1.copies.map fun e =>
          match plans.findIdx? fun r => r.token == t.2 && r.copies.any fun v => v.pos == e.pos with
          | some i => if copySent e then { e with record := i } else e
          | none => e } }

/-- A window whose stage work may go on: its deadline beat has not come (R15, R539). -/
def State.live (s : State) (w : Window) : Bool := s.coreUp && !w.deadlineDue s.beat

/-- Stage 3 of a window (R101 to R122, R124). -/
def sortWindow (s : State) (c : Nat) (w : Window) (q : Quant) : State :=
  let plans := s.recPlans c w
  let hs := planHeaders (s.nodeOf c) c w q plans
  let len := w.recLen
  let copies := (plans.map fun r => r.copies.length).foldl (· + ·) 0
  let w := { w with
    headers := hs
    nodeTable := s.nodeTableOf c w plans len
    ledger := if w.bwd then w.ledger else w.ledger.map fun l => ledgerPlace l plans
    phase := .sorted }
  let s := s.modCtx c fun x => x.setWin w
  let s := (s.cbump c O_RECORDS_BUILT hs.length).cbump c O_COPIES_MERGED (copies - hs.length)
  let s := s.cbump c O_CONT_RECORDS (plans.filter fun r => r.part != 0).length
  let s := s.cbump c O_WIRE_BYTES (hs.length * len)
  let s := s.cbump c O_LOOPBACK_RECORDS (plans.filter fun r => r.hop == s.nodeOf c).length
  s.request c w.holder 9 (w.orderKey c) (s.bufsFor c 9 (w.tokens * s.cget c O_TOP_K * s.returnLen c w.bwd))

/-- The window of a tag in a phase, forward before backward. -/
def Ctx.inPhase (x : Ctx) (tag : Nat) (p : WinPhase) : Option Window :=
  x.windows.find? fun w => w.tag == tag && w.phase == p

/-- SORT_AND_PACK (R118): choices present and send buffers granted, the send list is built. -/
def execSortAndPack (c tag : Nat) (s : State) : Host.Outcome State Fault Refusal :=
  finish s <|
    match (s.ctx c).inPhase tag .selected with
    | some w =>
      match w.quant with
      | some q => if s.live w && !s.waits c w.holder 1 && !s.waits c w.holder 8 then sortWindow s c w q else s
      | none => s
    | none => s

end Sys2Proof.Machine
end

