-- ==== Sys2Proof/Machine/Router.lean ====
section
/-! DEFINITION. The router: scoring (R60, R62 to R64), scores and gate weights (R65 to R73), choice within the rack limit
(R74 to R76), replicas (R78), the quota and spill (R80 to R85), counters and their publication (R86, R87), and the caramel
loop (R88 to R93). -/

namespace Sys2Proof.Machine

open Sys2Proof

/-! ### Stage 1 (R60, R62 to R64) -/

/-- The logit rows of a window (R62, R63): activations quantised to E4M3 MX32, BF16 weights. -/
def scoreRows (rows : List (List Nat)) (weights : List OpRow) : List (List Nat) × Tally :=
  let qs := rows.map fun r => quantRow .e4m3 .mx32 .nearest 0x3F800000 [] r
  let ops := qs.map fun p => (opRow .e4m3 .mx32 p.1.codes p.1.scales [] 0x3F800000).1
  (ops.map fun a => weights.map fun w => dot a w, Tally.sum (qs.map (·.2)))

/-- The items of a scoring group counted, and dealt to tiles (R64, R169, R173). In D0 the manual leaves open which tile
runs which. -/
def State.countScore (s : State) (c m : Nat) : State :=
  let n := s.cget c O_EXPERT_COUNT
  let act := s.activeTotal
  let (w, h) := singleShape m n act
  let blocks := (m + h - 1) / h
  let panels := (n + w - 1) / w
  let cost := itemCost h w (s.hidden c) 8
  let s := (s.countItems c (blocks * panels) (blocks * panels * cost)).cbump c O_PAD_ROWS (blocks * h - m)
  let regs := s.activeRegions.filter fun r => !(s.activeTiles r).isEmpty
  let off := if s.det c == 0 then Config.order s.freeCtr else 0
  let posts := ((List.range blocks).map fun j => (List.range panels).map fun p => (j, p)).flatten
  let s := posts.foldl
    (fun s q =>
      let r := regs.getD ((q.1 + off) % max 1 regs.length) 0
      let ts := s.activeTiles r
      let t := ts.getD ((q.1 / max 1 regs.length * panels + q.2 + off) % max 1 ts.length) 0
      ((s.bump (unitKey r O_REG_ITEMS_POSTED) 1).bump (unitKey t O_TILE_ITEMS) 1).bump (unitKey t O_TILE_ARITH_CYCLES) cost) s
  s.drawn

/-- Bytes of the score rows that a backward window reads for its logit gradients (R235). -/
def State.scoreLen (s : State) (c : Nat) (w : Window) : Nat :=
  if w.bwd && s.cget c O_ROUTER_GRAD == 1 then w.tokens * s.cget c O_EXPERT_COUNT * 4 else 0

/-- The bytes that the host supplies for a window: its rows, cold router weights (R378), and the score rows of a backward
window (R394). -/
def State.hostNeeds (s : State) (c : Nat) (w : Window) (cold : Bool) : Nat :=
  (if w.hostmap % 2 == 1 then w.tokens * 2 * s.hidden c else 0)
    + (if cold then s.cget c O_EXPERT_COUNT * 2 * s.hidden c else 0)
    + (if w.hostmap / 8 % 2 == 1 then s.scoreLen c w else 0)

/-- The input rows of a window as FP32 codes, from memory or from the bytes the host supplied. -/
def State.inputRows (s : State) (c : Nat) (w : Window) (given : Bytes) : List (List Nat) :=
  let len := 2 * s.hidden c
  let bs := if w.hostmap % 2 == 1 then given.take (w.tokens * len) else s.rd w.inAddr (w.tokens * len)
  (chunks len bs).map bf16Row

/-- Payloads kept, their buffers asked for (R115, R117). -/
def State.beginSend (s : State) (c : Nat) (w : Window) (q : Quant) : State :=
  s.request c w.holder 1 (w.orderKey c) (s.payloadBufs c q)

/-- Stage 1 of a forward window. -/
def scoreForward (s : State) (c : Nat) (w : Window) (e : SlotEntry) (given : Bytes) : State :=
  let n := s.cget c O_EXPERT_COUNT
  let len := 2 * s.hidden c
  let rows := s.inputRows c w given
  let fromHost := if w.hostmap % 2 == 1 then w.tokens * len else 0
  let ws : List OpRow × Tally :=
    if e.cold then
      let l := (chunks len (given.drop fromHost)).map fun b => s.opRowAt .bf16 .none b 0 0 (s.hidden c)
      (l.map (·.1), Tally.sum (l.map (·.2)))
    else s.matrixRows 0x30 e.gu 0 n (s.hidden c)
  let (logits, t) := scoreRows rows ws.1
  let (q, tq) := s.quantWindow c w rows
  let s := s.haCount false w.inAddr fromHost
  let s := if e.cold then (s.haCount false e.gu (n * len)).cbump c O_COLD_BYTES (n * len) else s
  let s := s.winTally c w.tag false w.mark (t.add ws.2)
  let s := if q.fmt == 0x04 then s else s.winTally c w.tag false w.mark tq
  let s := s.countScore c w.tokens
  let w := { w with rows := rows, logits := logits, quant := some q, phase := .scored }
  (s.modCtx c fun x => x.setWin w).beginSend c w q

/-- The first stages of a backward window: its rows have landed and are quantised; the choices are those of its ledger
(R98, R117, R122). -/
def landBackward (s : State) (c : Nat) (w : Window) (given : Bytes) : State :=
  let rows := s.inputRows c w given
  let (q, t) := s.quantWindow c w rows
  let s := if w.hostmap % 2 == 1 then s.haCount false w.inAddr (w.tokens * 2 * s.hidden c) else s
  let s := s.winTally c w.tag true w.mark t
  let n := s.scoreLen c w
  let fromHost := w.hostmap / 8 % 2 == 1
  let at_ := if w.hostmap % 2 == 1 then w.tokens * 2 * s.hidden c else 0
  let s := if fromHost then s.haCount false w.scoreAddr n else s
  let sc := if n == 0 then [] else chunks (s.cget c O_EXPERT_COUNT)
    (fp32Row (if fromHost then (given.drop at_).take n else s.rd w.scoreAddr n))
  let w := { w with rows := rows, logits := sc, quant := some q, phase := .selected }
  let s := (s.modCtx c fun x => x.setWin w).beginSend c w q
  s.request c w.holder 8 (w.orderKey c) (s.sendListBufs c w)

/-- SCORE (R62): the rows of a launched window have landed; its logits are formed. -/
def execScore (c tag : Nat) (rows : Bytes) (s : State) : Host.Outcome State Fault Refusal :=
  finish s <|
    match (s.ctx c).inPhase tag .launched with
    | none => s
    | some w =>
      let entry := s.findEntry c w.slot w.layerSlot 0xFFFF
      let cold := !w.bwd && entry.any fun p => p.2.cold
      let need := s.hostNeeds c w cold
      let len := w.tokens * 2 * s.hidden c
      if !s.live w || s.waits c w.holder 0 || rows.length < need || (need != 0 && s.hostMods.isEmpty) then s
      else if (w.hostmap % 2 == 0 && s.isPoisoned w.inAddr len)
          || (w.hostmap / 8 % 2 == 0 && s.isPoisoned w.scoreAddr (s.scoreLen c w)) then s.memHalt c (some w)
      else if w.bwd then landBackward s c w rows
      else match entry with
        | none => s
        | some (_, e) =>
          if (s.ctx c).collHolds then s
          else if !e.cold && s.isPoisoned e.gu (s.cget c O_EXPERT_COUNT * 2 * s.hidden c) then s.memHalt c (some w)
          else scoreForward s c w e rows

/-! ### Scores (R65 to R70) -/

/-- The logit of a masked expert (R67): −3.0 × 10^38. -/
def maskedLogit : Nat := 0xFF61B1E6

/-- p of one row (R67); `ok` tells the experts that are not masked. -/
def scoreRow (fn : Nat) (z : List Nat) (ok : List Bool) : List Nat :=
  let zz := (z.zip ok).map fun p => if p.2 then p.1 else maskedLogit
  if fn == 1 then (z.zip ok).map fun p => if p.2 then fuSigmoid p.1 else 0
  else
    let m := f32MaxRow zz
    let t := (zz.zip ok).map fun p => if p.2 then fuExp (f32Sub p.1 m) else 0
    let sc := t.foldl compAdd (0, 0)
    let d := f32Add sc.1 sc.2
    t.map fun x => f32Div x d

/-- An expert that a token may choose: id, home rack, p, selection score, tie-break salt. -/
structure Cand where
  id : Nat
  rack : Nat
  p : Nat
  s : Nat
  salt : Nat
deriving DecidableEq, Repr

/-- The selection score (R72). -/
def selScore (p amp word : Nat) (bias : Int) : Nat :=
  let b := f32Dy ⟨bias, -12⟩ false
  if amp == 0 then f32Add p b
  else
    let v := f32Dy ⟨2 * ((word / 256 : Nat) : Int) - 2 ^ 24, -24⟩ false
    f32Add (f32Mul p (f32Add 0x3F800000 (f32Mul amp v))) b

/-- Is a candidate before another in expert-key order (R74)? -/
def Cand.before (a b : Cand) : Bool :=
  f32Lt b.s a.s || (!f32Lt a.s b.s && (a.salt < b.salt || (a.salt == b.salt && a.id < b.id)))

/-- The value at which a candidate competes (R74). -/
def Cand.value (a : Cand) (racks : List Nat) (limit margin : Nat) : Option Nat :=
  if racks.contains a.rack then some a.s
  else if racks.length < limit then some (f32Sub a.s margin) else none

/-- The better of two candidates with their values. -/
def betterCand (a b : Cand × Nat) : Cand × Nat :=
  if f32Lt a.2 b.2 then b else if f32Lt b.2 a.2 then a else if a.1.before b.1 then a else b

/-- The picks of a row (R74): at most `n` more. -/
def pickRow (limit margin : Nat) : Nat → List Nat → List Cand → List Cand
  | 0, _, _ => []
  | n + 1, racks, l =>
    match l.filterMap fun a => (a.value racks limit margin).map fun v => (a, v) with
    | [] => []
    | p :: q =>
      let x := (q.foldl betterCand p).1
      x :: pickRow limit margin n (if racks.contains x.rack then racks else x.rack :: racks) (l.filter fun a => a.id != x.id)

/-- The gate weight (R70). -/
def gateOf (norm scale d p : Nat) : Nat :=
  let g := f32Mul scale p
  if norm == 0 then g else if d == 0 then 0 else f32Div g d

/-- A row after selection: non-finite logits, scores, choices, spares and D. -/
structure Row where
  bad : Nat
  empty : Bool
  p : List Nat
  chosen : List Cand
  spare : List Cand
  d : Nat
deriving DecidableEq, Repr

/-- Stage 2 of one row (R65 to R75). -/
def State.selectRow (s : State) (c : Nat) (w : Window) (bias : List Int) (mask : Bytes) (t : Nat) (z : List Nat) : Row :=
  let n := s.cget c O_EXPERT_COUNT
  let rowLen := maskRowLen n
  let masked (e : Nat) : Bool :=
    mask.length != 0 && (mask.getD (t * rowLen + e / 8) 0).toNat / 2 ^ (e % 8) % 2 == 0
  let ok := (List.range n).map fun e =>
    w.enable / 2 ^ e % 2 == 1 && !masked e && !(liveReps (w.map.getD e 0)).isEmpty && f32Finite (z.getD e 0)
  let bad := (z.filter fun v => !f32Finite v).length
  if !ok.any id then ⟨bad, true, List.replicate n 0, [], [], 0⟩
  else
    let p := scoreRow (s.cget c O_SCORE_FN) z ok
    let key (purpose : Nat) : RandKey := ⟨s.cget c O_SEED, s.rank c, purpose, w.tag % 2, w.mb, 0, t, w.step, w.layerSlot⟩
    let cands := (List.range n).filterMap fun e =>
      if ok.getD e false then
        some (⟨e, mapRack (w.map.getD e 0), p.getD e 0,
          selScore (p.getD e 0) w.sprinkle (if w.sprinkle == 0 then 0 else philoxWord (key 1) e) (bias.getD e 0),
          if w.sprinkle == 0 then 0 else philoxWord (key 2) e⟩ : Cand)
      else none
    let k := s.cget c O_TOP_K
    let order := pickRow (s.cget c O_RACK_LIMIT) (s.cget c O_RACK_MARGIN) (5 * k) [] cands
    let chosen := order.take k
    let d := if s.cget c O_GATE_NORM == 1 then chosen.foldl (fun a x => f32Add a x.p) 0 else 0
    ⟨bad, false, p, chosen, order.drop k, d⟩

/-! ### Quota and spill (R80 to R82) -/

/-- A copy on its way through the quota: token, position, original and present p and expert, and whether it is kept (1),
dropped (2) or kept by spill (3); 0 while it overflows. -/
structure QCopy where
  token : Nat
  pos : Nat
  expert0 : Nat
  p0 : Nat
  expert : Nat
  p : Nat
  state : Nat
deriving DecidableEq, Repr

/-- Is a copy before another in the ranking of an expert (R81): descending p, ties to the lower token? -/
def QCopy.ahead (a b : QCopy) : Bool := f32Lt b.p a.p || (!f32Lt a.p b.p && a.token < b.token)

/-- Copies of `e` in state 0 marked with `st` while fewer than `room` stand ahead of them. -/
def keepBest (room st e : Nat) (l : List QCopy) : List QCopy :=
  let at_ := l.filter fun x => x.state == 0 && x.expert == e
  l.map fun x =>
    if x.state == 0 && x.expert == e && (at_.filter fun y => y.ahead x).length < room then { x with state := st } else x

/-- Copies kept for an expert. -/
def keptOf (e : Nat) (l : List QCopy) : Nat := (l.filter fun x => (x.state == 1 || x.state == 3) && x.expert == e).length

/-- Insertion by descending original p, ties to the earlier position. -/
def insertOrig (x : QCopy) : List QCopy → List QCopy
  | [] => [x]
  | y :: r => if f32Lt y.p0 x.p0 then x :: y :: r else y :: insertOrig x r

/-- The copies of one token that spill, aimed at its next spare entries from `ptr` on; `none` when none is left (R82). -/
def aimToken (spare : List Cand) (ptr : Nat) (cs : List QCopy) : List QCopy :=
  (cs.foldl (fun acc x => insertOrig x acc) []).zipIdx.map fun p =>
    match spare[ptr + p.2]? with
    | some a => { p.1 with expert := a.id, p := a.p }
    | none => { p.1 with state := 2 }

/-- One spill pass (R82): every copy in state 0 aims anew, then experts with room keep the best. `ptrs` count the spare
entries that each token has used. -/
def spillPass (q : Nat) (rows : List Row) (st : List QCopy × List Nat) : List QCopy × List Nat :=
  let (l, ptrs) := st
  let tokens := ((l.filter fun x => x.state == 0).map (·.token)).eraseDups
  let aimed := (tokens.map fun t =>
    aimToken ((rows.map (·.spare)).getD t []) (ptrs.getD t 0) (l.filter fun x => x.state == 0 && x.token == t)).flatten
  let l1 := l.map fun x => (aimed.find? fun y => y.token == x.token && y.pos == x.pos && x.state == 0).getD x
  let ptrs := ptrs.zipIdx.map fun p => p.1 + (l.filter fun x => x.state == 0 && x.token == p.2).length
  let es := ((l1.filter fun x => x.state == 0).map (·.expert)).eraseDups
  (es.foldl (fun acc e => keepBest (q - keptOf e acc) 3 e acc) l1, ptrs)

/-- Up to `n` spill passes; how many ran. -/
def spillPasses (q : Nat) (rows : List Row) : Nat → List QCopy × List Nat → Nat → List QCopy × Nat
  | 0, st, k => (st.1, k)
  | n + 1, st, k =>
    if st.1.any fun x => x.state == 0 then spillPasses q rows n (spillPass q rows st) (k + 1) else (st.1, k)

/-- The quota of a window (R80 to R82): every copy kept, dropped or spilled, and the passes that ran. -/
def runQuota (q : Nat) (spill : Option Nat) (rows : List Row) : List QCopy × Nat :=
  let all := (rows.zipIdx.map fun r => r.1.chosen.zipIdx.map fun x =>
    (⟨r.2, x.2, x.1.id, x.1.p, x.1.id, x.1.p, 0⟩ : QCopy)).flatten
  let es := (all.map (·.expert)).eraseDups
  let l := es.foldl (fun acc e => keepBest q 1 e acc) all
  let (l, n) := match spill with
    | some p => spillPasses q rows p (l, rows.map fun _ => 0) 0
    | none => (l, 0)
  (l.map fun x => if x.state == 0 || x.state == 2 then { x with state := 2, expert := x.expert0, p := x.p0 } else x, n)

/-- The replica of a copy (R78). -/
def replicaFor (v token : Nat) : Nat :=
  let l := liveReps v
  let h := token * 2654435761 % 2 ^ 32
  l.getD (h / 65536 * l.length / 65536) 0

/-- The ledger entry of a copy (R119, R120). -/
def ledgerCopy (map : List Nat) (norm scale d : Nat) (x : QCopy) : LedgerCopy :=
  let v := map.getD x.expert 0
  let r := replicaFor v x.token
  let out := x.state == 2
  ⟨x.expert, if out then 0 else mapNode v r, x.state, false, false, x.pos, 0, gateOf norm scale d x.p, x.p,
    if out then 0 else r⟩

/-! ### Stage 2 -/

/-- Counts of the copies of a window added to its step (R86): by expert. -/
def addCounts (n : Nat) (l : List Nat) (es : List Nat) : List Nat :=
  (List.range n).map fun e => l.getD e 0 + (es.filter fun x => x == e).length

/-- Stage 2 of a window (R65 to R87): choices, quota, ledger and counts. -/
def selectWindow (s : State) (c : Nat) (w : Window) (mask : Bytes) : State :=
  let n := s.cget c O_EXPERT_COUNT
  let bias := w.bias.getD (s.ctx c).bias
  let rows := w.logits.zipIdx.map fun p => s.selectRow c w bias mask p.2 p.1
  let spill := if s.cget c O_OVERFLOW_MODE == 1 then some (s.cget c O_SPILL_PASSES) else none
  let (copies, passes) := runQuota (s.quota c w.tokens) spill rows
  let norm := s.cget c O_GATE_NORM
  let scale := s.cget c O_ROUTE_SCALE
  let k := s.cget c O_TOP_K
  let toks : List LedgerToken := rows.zipIdx.map fun r =>
    ⟨r.1.d, r.1.chosen.length, r.1.empty, !r.1.empty && r.1.chosen.length < k,
      (copies.filter fun x => x.token == r.2).map (ledgerCopy w.map norm scale r.1.d)⟩
  let ledger : Ledger := ⟨w.tag, w.layerSlot, w.mb, w.step, w.tokens, k, w.slot, false, false, toks⟩
  let bad := (rows.map (·.bad)).foldl (· + ·) 0
  let empties := (toks.filter (·.empty)).length
  let keptL := copies.filter fun x => x.state == 1 || x.state == 3
  let dropL := copies.filter fun x => x.state == 2
  let spillL := copies.filter fun x => x.state == 3
  let s := ((s.cbump c O_COPIES_REQUESTED copies.length).cbump c O_COPIES_KEPT keptL.length).cbump c O_COPIES_DROPPED
    dropL.length
  let s := (s.cbump c O_COPIES_SPILLED spillL.length).cbump c O_ROWS_EMPTY_COUNT empties
  let s := (s.cbump c O_ROWS_SHORT_COUNT (toks.filter (·.short)).length).cbump c O_LOGIT_INVALID_COUNT bad
  let s := (s.craiseN c O_ROUTE_FLAGS 0 empties).craiseN c O_ROUTE_FLAGS 2 bad
  let s := if dropL.length > s.cget c O_DROP_ALERT_LEVEL then s.craise c O_ROUTE_FLAGS 1 else s
  let m := s.stepCounts c w.mark w.step
  let s := s.setStepCounts c
    { m with
      requested := addCounts n m.requested (copies.map (·.expert0))
      kept := addCounts n m.kept (keptL.map (·.expert))
      dropped := addCounts n m.dropped (dropL.map (·.expert))
      spillIn := addCounts n m.spillIn (spillL.map (·.expert)) }
  let s := s.fuCount c ((rows.filter fun r => !r.empty).length * n)
  let w := { w with spillPasses := passes, ledger := some ledger, bias := some bias, phase := .selected }
  let s := s.modCtx c fun x =>
    { x.setWin w with
      known := x.known.map fun v => if v.tag == w.tag && !v.bwd then { v with spill := passes } else v }
  let s := (s.mirror .windowState c [w.tag, 4]).mirrorAll .ledger c [] [w.tag] [] (some ledger)
  s.request c w.holder 8 (w.orderKey c) (s.sendListBufs c w)

/-- Does a window wait at stage 2 for an update of the caramel loop (R88)? -/
def State.caramelWaits (s : State) (c : Nat) (w : Window) : Bool :=
  s.cget c O_CARAMEL_STATE == 1 && w.bias.isNone && (s.ctx c).caramelDue.any fun m => m < w.mark

/-- SELECT (R74): logits and ledger are there, and the biases of the step are formed. -/
def execSelect (c tag : Nat) (mask : Bytes) (s : State) : Host.Outcome State Fault Refusal :=
  finish s <|
    match (s.ctx c).inPhase tag .scored with
    | none => s
    | some w =>
      let len := w.tokens * maskRowLen (s.cget c O_EXPERT_COUNT)
      let host := w.hostmap / 8 % 2 == 1
      if !s.live w || s.waits c w.holder 5 || s.caramelWaits c w then s
      else if host then
        (if mask.length < len || s.hostMods.isEmpty then s
         else selectWindow (s.haCount false w.maskAddr len) c w (mask.take len))
      else if w.maskAddr == 0 then selectWindow s c w []
      else if s.isPoisoned w.maskAddr len then s.memHalt c (some w)
      else selectWindow s c w (s.rd w.maskAddr len)

/-! ### Publication (R86) -/

/-- Are the counts of a step complete: its STEP_MARK has taken effect, and none of its windows is before the end of
stage 2? -/
def Ctx.countsComplete (x : Ctx) (k : StepCounts) : Bool :=
  k.marked && !x.windows.any fun w =>
    !w.bwd && w.isOpen && w.mark == k.mark && (w.phase == .issued || w.phase == .launched || w.phase == .scored)

/-- Counts that have been published, and that no update of the caramel loop still needs, are dropped. -/
def State.trimCounts (s : State) (c : Nat) : State :=
  s.modCtx c fun x => { x with counts := x.counts.filter fun k => !k.published || x.caramelDue.contains k.mark }

/-- The counts of a step published: the four arrays together, PUB_STEP with them (R86, R87). -/
def publishCounts (s : State) (c : Nat) (k : StepCounts) : State :=
  let s := s.setStepCounts c { k with published := true }
  let s := s.modCtx c fun x => { x with pub := [k.requested, k.kept, k.dropped, k.spillIn] }
  let s := (s.cput c O_PUB_STEP k.step).trimCounts c
  [O_STEP_REQUESTED, O_STEP_KEPT, O_STEP_DROPPED, O_STEP_SPILL_IN].foldl (fun s o => s.genUp (ctxKey c o)) s

/-- COUNTER_PUBLICATION (R86): the oldest step not yet published, once its counts are complete. -/
def execCounterPublication (c : Nat) (s : State) : Host.Outcome State Fault Refusal :=
  finish s <|
    match (s.ctx c).counts.find? fun k => !k.published with
    | some k => if s.coreUp && (s.ctx c).countsComplete k then publishCounts s c k else s
    | none => s

/-! ### The caramel loop (R88 to R93) -/

/-- Settings of the loop (R94). -/
structure CaramelCfg where
  eta : Int
  clamp : Int
  tol : Nat
  far : Nat
  boost : Int
deriving DecidableEq, Repr

/-- The move of one bias (R88). -/
def caramelMove (k : CaramelCfg) (d : Int) (l : Nat) (b : Int) : Int :=
  let a := d.natAbs * 256
  let t := k.tol * l
  let step := if a ≤ t then 0 else if a ≤ k.far * t then k.eta else k.boost * k.eta
  max (-k.clamp) (min k.clamp (if d > 0 then b - step else b + step))

/-- The biases after an update, the largest deviation and the total load (R88). `on` tells the enabled experts. -/
def caramelUpdate (k : CaramelCfg) (on : List Bool) (loads : List Nat) (bias : List Int) : List Int × Nat × Nat :=
  let en := (on.filter id).length
  let l : Nat := (((loads.zip on).filter (·.2)).map (·.1)).foldl (· + ·) 0
  let dev (e : Nat) : Int := (en : Int) * ((loads.getD e 0 : Nat) : Int) - (l : Int)
  let big := listMax ((List.range on.length).map fun e => if on.getD e false then (dev e).natAbs else 0)
  if l == 0 then (bias, 0, 0)
  else
    ((List.range on.length).map fun e =>
      if on.getD e false then caramelMove k (dev e) l (bias.getD e 0) else bias.getD e 0, big, l)

/-- An update made for a step (R88, R89, R93). -/
def State.caramelMake (s : State) (c : Nat) (loads : List Nat) : State :=
  let n := s.cget c O_EXPERT_COUNT
  let x := s.ctx c
  let on := (List.range n).map fun e => x.enable / 2 ^ e % 2 == 1
  let k : CaramelCfg := ⟨s.cget c O_ETA, s.cget c O_BIAS_CLAMP, s.cget c O_SETTLE_TOL, s.cget c O_FAR_MULT, s.cget c O_BOOST⟩
  let (bias, big, l) := caramelUpdate k on loads x.bias
  let settled := if l == 0 then x.settled else if big * 256 ≤ k.tol * l then x.settled + 1 else 0
  let s := (s.modCtx c fun x => { x with bias := bias, settled := settled, caramelDue := x.caramelDue.drop 1 }).genUp
    (ctxKey c O_BIAS)
  let runs := s.cget c O_STEPS_RUN + 1
  let s := s.cput c O_STEPS_RUN runs
  let s := if l == 0 then s else s.cput c O_LAST_SPREAD (min 0xFFFFFFFF (big * 256 / l))
  let s :=
    if settled ≥ s.cget c O_SETTLE_STEPS then (s.cput c O_CARAMEL_STATE 2).craise c O_ROUTE_FLAGS 3
    else if runs ≥ s.cget c O_MAX_STEPS then (s.cput c O_CARAMEL_STATE 3).craise c O_ROUTE_FLAGS 4
    else s
  let s := if s.cget c O_CARAMEL_STATE == 1 then s else s.modCtx c fun x => { x with caramelDue := [] }
  let s := s.trimCounts c
  s.mirrorAll .caramel c
    ([O_CARAMEL_STATE, O_STEPS_RUN, O_LAST_SPREAD, O_SKIPPED_STEPS].map fun k => (ctxKey c k, s.cget c k)) [settled]
    [(ctxKey c O_BIAS, (bias.map fun v => leBytes 4 (v % 2 ^ 32).toNat).flatten)] none

/-- The reduction of the loads over CARAMEL_GROUP, begun or entered (R88, R91). -/
def State.caramelReduce (s : State) (c : Nat) (loads : List Nat) : State :=
  match (s.ctx c).coll with
  | none =>
    let g := s.cget c O_CARAMEL_GROUP
    s.collBegin c ⟨0, g, 1, 0, 0, 0, s.cget c O_EXPERT_COUNT, 0, 0, 0, 0, 0, [], [], [], false, [], 0, 0, [], 0, true⟩
  | some k =>
    if k.caramel && k.phase == 0 && !s.waits c (2 ^ 33) 7 then s.collEnter c k ((loads.map (leBytes 4)).flatten) else s

/-- CARAMEL_UPDATE (R88): when the counts of a step are complete; with SCOPE FABRIC the reduction comes first. -/
def execCaramelUpdate (c : Nat) (s : State) : Host.Outcome State Fault Refusal :=
  finish s <|
    match (s.ctx c).caramelDue with
    | m :: _ =>
      let x := s.ctx c
      match x.counts.find? (·.mark == m) with
      | none => s
      | some k =>
        if !s.coreUp || !x.countsComplete k then s
        else if s.cget c O_CARAMEL_STATE != 1 then (s.modCtx c fun x => { x with caramelDue := [] }).trimCounts c
        else if s.cget c O_SCOPE == 0 then s.caramelMake c k.requested
        else match x.caramelSums with
          | some sums => (s.modCtx c fun x => { x with caramelSums := none }).caramelMake c sums
          | none => s.caramelReduce c k.requested
    | [] => s

end Sys2Proof.Machine
end

