-- ==== Sys2Proof/Machine/Combine.lean ====
section
/-! DEFINITION. The combiner (R215 to R235): matching of returns, rows of forward and backward windows, logit gradients, row
statistics, digests, the close of a window, and delivery by HA. -/

namespace Sys2Proof.Machine

open Sys2Proof

/-! ### One token (R225, R227, R233) -/

/-- a · b + c with one rounding. -/
def f32Fma (a b c : Nat) : Nat := f32Fnma c (f32Negate a) b

/-- The elements of a returned payload as FP32 codes (R225), and what decoding counts (R42). -/
def decodeReturn (r : RetSlot) (h : Nat) : List Nat × Tally :=
  let e := (elemOf r.fmt).getD .bf16
  let k := scaleOf r.fmt
  let n := rowBytes e h
  let scales := ((r.data.drop n).take (if k.block == 0 then 0 else h / k.block)).map (·.toNat)
  let (row, t) := opRow e k (unpackElems e h (r.data.take n)) scales [] r.tscale
  (row.xs.map fun x => f32Dy (Dy.mul x (f32 row.tscale).dy) false, t)

/-- y + x as BF16, the exact sum rounded once (R227); `none` stands for no residual. -/
def toBf16 (y : Nat) (x : Option Nat) : Nat × Tally :=
  match x with
  | none => fBF16.of32 y
  | some x =>
    if f32Finite y && f32Finite x then
      let d := Dy.add (f32 y).dy (f32 x).dy
      if d.m == 0 then (if f32Neg y && f32Neg x then 0x8000 else 0, Tally.zero)
      else
        let (n, m) := dyFrac d.m.natAbs d.e
        fBF16.convRat (d.m < 0) n m
    else fBF16.of32 (f32Add y x)

/-- What forming a row gives: BF16 codes, what it counts, and whether it is short or was renormalised. -/
structure Formed where
  out : List Nat
  tally : Tally
  short : Bool
  renorm : Bool
  answers : Nat
deriving DecidableEq, Repr

/-- Gc and Gr of a token (R225). -/
def gateSums (t : LedgerToken) : Nat × Nat :=
  t.copies.foldl
    (fun acc e =>
      (if e.origin == 0 then acc.1 else f32Add acc.1 e.gate, if e.returned then f32Add acc.2 e.gate else acc.2)) (0, 0)

/-- Is the row of a token renormalised, and by what factor (R225)? -/
def renormFactor (on : Bool) (t : LedgerToken) : Option Nat :=
  let g := gateSums t
  if on && g.1 != g.2 && f32Lt 0 g.2 then some (f32Div g.1 g.2) else none

/-- A row of BF16 codes from FP32 sums. -/
def closeRow (ys : List Nat) (xs : Option (List Nat)) : List Nat × Tally :=
  let rs : List (Nat × Tally) := match xs with
    | none => ys.map fun y => toBf16 y none
    | some xs => (ys.zip xs).map fun (p : Nat × Nat) => toBf16 p.1 (some p.2)
  let shown : List Nat := match xs with
    | none => ys
    | some xs => (ys.zip xs).map fun (p : Nat × Nat) => f32Add p.1 p.2
  (rs.map (·.1), { Tally.sum (rs.map (·.2)) with amax := amax32 shown })

/-- The row of a token with no answer: its input with the residual, +0 without (R227, R233). -/
def bareRow (h : Nat) (residual : Bool) (xs : List Nat) : List Nat :=
  if residual then xs.map (· / 65536) else List.replicate h 0

/-- The answer for a position of a token. -/
def Window.slotAt (w : Window) (t pos : Nat) : Option RetSlot := w.ret.find? fun r => r.token == t && r.pos == pos

/-- The row of a forward window's token (R225, R227). -/
def State.formForward (s : State) (c : Nat) (w : Window) (t : Nat) : Formed :=
  let h := s.hidden c
  let res := s.cget c O_RESIDUAL_ADD == 1
  let xs := w.rows.getD t (List.replicate h 0)
  match (w.ledger.bind fun l => l.toks[t]?) with
  | none => ⟨bareRow h res xs, Tally.zero, false, false, 0⟩
  | some k =>
    let ans := (k.copies.filter (·.returned)).filterMap fun e => (w.slotAt t e.pos).map fun r => (e.gate, decodeReturn r h)
    let short := k.copies.any fun e => e.origin != 0 && !e.returned
    if ans.isEmpty then ⟨bareRow h res xs, Tally.zero, short, false, 0⟩
    else
      let acc := ans.foldl (fun acc a => (acc.zip a.2.1).map fun p => f32Fma a.1 p.2 p.1) (List.replicate h 0)
      let f := renormFactor (s.cget c O_RENORM_ON_LOSS == 1) k
      let ys := match f with
        | some g => acc.map fun y => f32Mul y g
        | none => acc
      let (out, tl) := closeRow ys (if res then some xs else none)
      ⟨out, tl.add (Tally.sum (ans.map fun a => a.2.2)), short, f.isSome, ans.length⟩

/-- The row of a backward window's token (R233). -/
def State.formBackward (s : State) (c : Nat) (w : Window) (t : Nat) : Formed :=
  let h := s.hidden c
  let res := s.cget c O_RESIDUAL_ADD == 1
  let xs := w.rows.getD t (List.replicate h 0)
  match (w.ledger.bind fun l => l.toks[t]?) with
  | none => ⟨bareRow h res xs, Tally.zero, false, false, 0⟩
  | some k =>
    let ans := k.copies.filterMap fun e => (w.slotAt t e.pos).map fun r => decodeReturn r h
    let short := k.copies.any fun e => e.origin != 0 && (w.slotAt t e.pos).isNone
    if !k.copies.any (·.returned) then ⟨bareRow h res xs, Tally.zero, short, false, 0⟩
    else
      let acc := ans.foldl (fun acc a => (acc.zip a.1).map fun p => f32Add p.1 p.2) (List.replicate h 0)
      let f := renormFactor (s.cget c O_RENORM_ON_LOSS == 1) k
      let ys := match f with
        | some g => acc.map fun y => f32Mul y g
        | none => acc
      let (out, tl) := closeRow ys (if res then some xs else none)
      ⟨out, tl.add (Tally.sum (ans.map (·.2))), short, f.isSome, ans.length⟩

/-! ### Logit gradients (R235) -/

/-- The dz row of a token as FP32 codes. -/
def State.logitGrad (s : State) (c : Nat) (w : Window) (t : Nat) : List Nat :=
  let n := s.cget c O_EXPERT_COUNT
  match (w.ledger.bind fun l => l.toks[t]?) with
  | none => List.replicate n 0
  | some k =>
    if k.empty then List.replicate n 0
    else
      let scale := s.cget c O_ROUTE_SCALE
      let f := renormFactor (s.cget c O_RENORM_ON_LOSS == 1) k
      let es := k.copies.filter fun e => e.origin != 0
      let dg (e : LedgerCopy) : Nat :=
        let v := if copyBack e then ((w.slotAt t e.pos).map (·.dg)).getD 0 else 0
        match f with
        | some g => f32Mul v g
        | none => v
      let sum := es.foldl (fun a e => f32Add a (f32Div (f32Mul (dg e) e.gate) scale)) 0
      let dp (e : LedgerCopy) : Nat :=
        if s.cget c O_GATE_NORM == 1 then f32Div (f32Mul scale (f32Sub (dg e) sum)) k.d else f32Mul scale (dg e)
      let dps := es.map fun e => (e.expert, e.score, dp e)
      let at_ (i : Nat) : Nat × Nat :=
        match dps.find? fun p => p.1 == i with
        | some p => p.2
        | none => ((w.logits.getD t []).getD i 0, 0)
      if s.cget c O_SCORE_FN == 1 then
        (List.range n).map fun i =>
          let (p, d) := at_ i
          f32Mul (f32Mul d p) (f32Sub 0x3F800000 p)
      else
        let tot := dps.foldl (fun a p => f32Add a (f32Mul p.2.1 p.2.2)) 0
        (List.range n).map fun i =>
          let (p, d) := at_ i
          f32Mul p (f32Sub d tot)

/-- A dz row in LOGIT_GRAD_FMT. -/
def State.dzBytes (s : State) (c : Nat) (zs : List Nat) : Bytes × Tally :=
  if s.cget c O_LOGIT_GRAD_FMT == 0x30 then
    let l := zs.map fBF16.of32
    (bf16Bytes (l.map (·.1)), { Tally.sum (l.map (·.2)) with amax := amax32 zs })
  else (fp32Bytes zs, Tally.zero)

/-! ### Rows of a window -/

/-- Is a token complete before the deadline (R224, R233)? -/
def Window.tokenDone (w : Window) (t : Nat) : Bool :=
  match w.ledger with
  | none => false
  | some l => !((ledgerEntries l w.bwd).any fun p => p.1 == t && !w.answered t p.2)

/-- Tokens whose rows are not yet formed. -/
def Window.unformed (w : Window) : List Nat := (List.range w.tokens).filter fun t => !w.outRows.any fun r => r.1 == t

/-- One row formed and written into the output buffer (R225 to R229, R233, R235, R239). -/
def State.formRow (s : State) (c : Nat) (w : Window) (t : Nat) : State × Window :=
  let r := if w.bwd then s.formBackward c w t else s.formForward c w t
  let row := bf16Bytes r.out
  let stats := s.cget c O_ROW_STATS
  let s := s.winTally c w.tag w.bwd w.mark r.tally
  let s := if w.launched.isSome then s.cbump c O_ROWS_COMBINED 1 else s
  let s := if r.short then s.cbump c O_ROWS_SHORT_COMBINED 1 else s
  let s := if r.renorm then s.cbump c O_ROWS_RENORMALISED 1 else s
  let w := { w with outRows := w.outRows ++ [(t, row)] }
  let (s, w) :=
    if w.bwd || stats == 0 then (s, w)
    else
      let xs := r.out.map bf16To32
      let eps := s.cget c O_NORM_EPS
      let st := if stats == 2 then rowStatsRms xs eps else rowStatsLayer xs eps
      let s := s.fuCount c 1
      let s := if st.bad then (s.cbump c O_STAT_INVALID_ROWS 1).craise c O_FU_FLAGS 0 else s
      (s, { w with statRows := w.statRows ++ [(t, statRecord (stats == 2) st)] })
  if w.bwd && s.cget c O_ROUTER_GRAD == 1 then
    let (b, tl) := s.dzBytes c (s.logitGrad c w t)
    (s.winTally c w.tag true w.mark tl, { w with dzRows := w.dzRows ++ [(t, b)] })
  else (s, w)

/-- Rows formed one after the other. -/
def State.formRows (s : State) (c : Nat) (w : Window) (ts : List Nat) : State × Window :=
  ts.foldl (fun p t => p.1.formRow c p.2 t) (s, w)

/-- CB hands the rows of a window to HA: its digest is recorded and added to its step (R231, R232). -/
def State.handOver (s : State) (c : Nat) (w : Window) : State :=
  let dig := ((w.outRows.map fun r => crc64 r.2).foldl (· + ·) 0) % 2 ^ 64
  let s := (s.cput c O_WINDOW_DIGEST dig).cput c O_WINDOW_DIGEST_TAG w.tag
  match s.stepSide c w.mark with
  | 0 => s.cbump c O_STEP_DIGEST dig
  | 1 => s.cbump c O_PREV_STEP_DIGEST dig
  | _ => s

/-- A window closes with every row written (R228, R539): its ledger is kept, its send buffers and return area go back. -/
def State.closeDone (s : State) (c : Nat) (w : Window) : State :=
  let w := { w with ledger := w.ledger.map fun l => if w.bwd then { l with bwdDone := true } else { l with closed := true }
                    phase := .closed }
  let s := s.modCtx c fun x => x.setWin w
  let s := if w.bwd then
      s.modCtx c fun x => { x with ledgers := x.ledgers.map fun l => if l.tag == w.tag then { l with bwdDone := true } else l }
    else s.keepLedger c w
  let s := [0, 1, 8, 9].foldl (fun s r => s.releaseUse c w.holder r) s
  let s := s.closeStage c w.slot w.layerSlot
  (((s.handOver c w).mirror .windowState c [w.tag, 2]).settleSlots c).dropKnown c

/-- Rows of an open window whose tokens are complete are formed; the last one closes it, but for a D2 window, which holds its
rows until its deadline beat (R224, R228, R260). -/
def State.combine (s : State) (c tag : Nat) (bwd : Bool) : State :=
  match (s.ctx c).findWin tag bwd with
  | none => s
  | some w =>
    if !w.isOpen || w.phase == .issued || w.ledger.isNone || s.waits c w.holder 4 || w.deadlineDue s.beat then s
    else
      let (s, w) := s.formRows c w (w.unformed.filter w.tokenDone)
      if w.unformed.isEmpty && s.det c != 2 then s.closeDone c w else s.modCtx c fun x => x.setWin w

/-- Every window of a context looked at. -/
def State.combineAll (s : State) (c : Nat) : State :=
  ((s.ctx c).windows.map fun w => (w.tag, w.bwd)).foldl (fun s p => s.combine c p.1 p.2) s

/-! ### The deadline (R15, R17, R22, R229) -/

/-- The rows of a window that its host or memory holds, where they have not landed. -/
def State.landRows (s : State) (c : Nat) (w : Window) (given : Bytes) : Window :=
  if w.rows.isEmpty && s.cget c O_RESIDUAL_ADD == 1 then { w with rows := s.inputRows c w given } else w

/-- Must the host supply the rows of a window at its deadline beat? -/
def State.needsRows (s : State) (c : Nat) (w : Window) : Bool :=
  w.rows.isEmpty && s.cget c O_RESIDUAL_ADD == 1 && w.hostmap % 2 == 1

/-- DEADLINE_BEAT (R15, R17, R22): at position 2 of R254, when a window of the tag is open at its deadline beat. -/
def execDeadlineBeat (c tag : Nat) (rows : Bytes) (s : State) : Host.Outcome State Fault Refusal :=
  finish s <|
    match (s.ctx c).windows.find? fun w => w.tag == tag && w.deadlineDue s.beat with
    | none => s
    | some w =>
      let len := w.tokens * 2 * s.hidden c
      if !s.coreUp || s.dueBelow 2 w.deadline then s
      else if s.det c == 2 && w.missing (s.cget c O_TOP_K) != 0 then s.endStep c 0x33 (some w)
      else if w.unformed.isEmpty then s.closeDone c w
      else if s.needsRows c w && rows.length < len then s
      else if w.rows.isEmpty && s.cget c O_RESIDUAL_ADD == 1 && w.hostmap % 2 == 0 && s.isPoisoned w.inAddr len then
        s.memHalt c (some w)
      else
        let s := if s.needsRows c w then s.haCount false w.inAddr len else s
        s.closeDeadline c (s.landRows c w rows)

/-- Spine cycles that forming rows takes: 4,096 multiply-adds a cycle (R229, whose worked figure leaves out the 64 cycles of
latency). -/
def tailCycles (h : Nat) (answers : List Nat) : Nat := (answers.map fun n => (n * h + 4095) / 4096).foldl (· + ·) 0

/-- The rows of a window's tokens that were incomplete at the deadline formed, in ascending token index (R229). -/
def combineTail (s : State) (c : Nat) (w : Window) : State :=
  let ts := w.unformed
  let n := tailCycles (s.hidden c) (ts.map fun t => (w.ret.filter fun r => r.token == t).length)
  let s := if w.launched.isSome then s.cbump c O_COMBINE_TAIL_CYCLES n else s
  let (s, w) := s.formRows c w ts
  let s := (s.modCtx c fun x => x.setWin w).releaseUse c w.holder 9
  s.handOver c w

/-- COMBINE_TAIL (R229): the rows of tokens incomplete at the deadline are formed, in ascending token index. -/
def execCombineTail (c tag : Nat) (s : State) : Host.Outcome State Fault Refusal :=
  finish s <|
    match (s.ctx c).windows.find? fun w => w.tag == tag && w.phase == .closed && !w.unformed.isEmpty with
    | none => s
    | some w => if !s.coreUp || s.waits c w.holder 4 then s else combineTail s c w

/-! ### Delivery (R228, R398) -/

/-- Rows put at their place: one after the other from an address, in token order. -/
def State.deliver (s : State) (host : Bool) (a len : Nat) (rows : List (Nat × Bytes)) : State :=
  rows.foldl (fun s r => if host then s.hostWrite (a + r.1 * len) r.2 else s.wr (a + r.1 * len) r.2) s

/-- HA has delivered the rows of a closed window (R398, R516): its descriptor ends, its areas go back, and the ledger that a
LAYER_BWD named is freed (R121). -/
def outputDelivered (s : State) (c : Nat) (w : Window) : State :=
  let host (b : Nat) : Bool := w.hostmap / 2 ^ b % 2 == 1
  let third := if w.bwd then w.dzRows else w.statRows
  let addr := if w.bwd then w.dzAddr else w.statsAddr
  let len := if w.bwd then s.cget c O_EXPERT_COUNT * s.dzElem c else 16
  let third := if addr == 0 && !host 2 then [] else third
  let toHost := host 1 || (host 2 && !third.isEmpty)
  let dead := toHost && s.hostMods.isEmpty
  let s := if dead then s else (s.deliver (host 1) w.outAddr (2 * s.hidden c) w.outRows).deliver (host 2) addr len third
  let s := if w.bwd then s.freeLedger c w.tag else s
  let s := [4, 9].foldl (fun s r => s.releaseUse c w.holder r) s
  s.endWindow c w (if dead then 0x36 else 0)

/-- WINDOW_OUTPUT_DELIVERED (R398, R516): HA has delivered the rows of a closed window. -/
def execWindowOutputDelivered (c tag : Nat) (s : State) : Host.Outcome State Fault Refusal :=
  finish s <|
    match (s.ctx c).windows.find? fun w => w.tag == tag && w.phase == .closed && w.unformed.isEmpty with
    | none => s
    | some w => if !s.coreUp then s else outputDelivered s c w

end Sys2Proof.Machine
end

