-- ==== Sys2Proof/Machine/Field.lean ====
section
/-! DEFINITION. What the expert field computes: staging sets (R167, R168, R378), weights and payloads as operand rows, the
products of the forward and backward phases (R43, R174, R180, R184), and their epilogues (R176, R177, R184, R197, R198,
R234). -/

namespace Sys2Proof.Machine

open Sys2Proof

/-! ### Staging sets (R167, R168, R378) -/

/-- Does an entry of the slot table lie in HBM, or in host memory (R168, R378)? -/
def SlotEntry.staged (e : SlotEntry) : Bool := e.cold || addrSpace e.gu == 1 || addrSpace e.down == 1

/-- The placements of a layer slot of a weight slot that the table holds. -/
def State.placed (s : State) (c slot layer : Nat) : List SlotEntry :=
  ((s.slotEntries c).map (·.2)).filter fun e => e.slot == slot && e.layer == layer && e.expert != 0xFFFF

/-- Is a layer slot of a weight slot read through a staging set (R167)? -/
def State.needsStage (s : State) (c slot layer : Nat) : Bool :=
  s.cget c O_STAGE_SETS != 0 && (s.placed c slot layer).any SlotEntry.staged

/-- A free staging set taken for a layer slot, if one is free and none holds it already (R168). -/
def State.fillStage (s : State) (c slot layer : Nat) : State :=
  let x := s.ctx c
  if x.stages.any (fun g => g.slot == slot && g.layer == layer) || s.cget c O_STAGE_SETS ≤ x.stages.length then s
  else s.modCtx c fun x => { x with stages := x.stages ++ [⟨slot, layer, false, []⟩] }

/-- The staging set of the layer slot that follows, filled on launch (R168). -/
def State.stageNext (s : State) (c : Nat) (w : Window) : State :=
  let next := if w.bwd then w.layerSlot - 1 else w.layerSlot + 1
  if (w.bwd && w.layerSlot == 0) || s.cget c O_LAYER_SLOTS ≤ next || !s.needsStage c w.slot next then s
  else s.fillStage c w.slot next

/-- The staging set that serves a layer slot of a weight slot. -/
def Ctx.stage (x : Ctx) (slot layer : Nat) : Option StageSet := x.stages.find? fun g => g.slot == slot && g.layer == layer

/-- Where the parts of an expert's entry lie: elements and scale area of gate and up, and of down. -/
def State.entrySpans (s : State) (c : Nat) (e : SlotEntry) : List (Nat × Nat) :=
  let (gn, gk) := s.partDims c e.expert false
  let (dn, dk) := s.partDims c e.expert true
  let len (f n k : Nat) : Nat := n * rowBytes ((elemOf f).getD .bf16) k
  [(e.gu, len e.wFmt gn gk), (e.guScale, compactScaleLen e.wFmt gn gk), (e.down, len e.dFmt dn dk),
   (e.downScale, compactScaleLen e.dFmt dn dk)]

/-- Bytes that the host supplies when a set is filled: those of its cold placements, in table order (R378). -/
def State.coldLen (s : State) (c : Nat) (g : StageSet) : Nat :=
  (((s.placed c g.slot g.layer).filter (·.cold)).map fun e =>
    ((s.entrySpans c e).map (·.2)).foldl (· + ·) 0).foldl (· + ·) 0

/-- The spans cut out of a byte string one after the other. -/
def cutSpans : List (Nat × Nat) → Bytes → List Bytes
  | [], _ => []
  | p :: r, bs => bs.take p.2 :: cutSpans r (bs.drop p.2)

/-- What a full set holds: every placement of its layer slot, the cold ones from the host's bytes. -/
def State.stageData (s : State) (c : Nat) : List SlotEntry → Bytes → List (Nat × List Bytes)
  | [], _ => []
  | e :: r, cold =>
    let sp := s.entrySpans c e
    let n := (sp.map (·.2)).foldl (· + ·) 0
    if e.cold then (e.expert, cutSpans sp cold) :: State.stageData s c r (cold.drop n)
    else (e.expert, sp.map fun p => s.rd p.1 p.2) :: State.stageData s c r cold

/-- Is a set's content, in HBM or Local Store, poisoned (R457)? -/
def State.stageBad (s : State) (c : Nat) (g : StageSet) : Bool :=
  (s.placed c g.slot g.layer).any fun e => !e.cold && (s.entrySpans c e).any fun p => s.isPoisoned p.1 p.2

/-- Are the weights of an entry readable (R168)? -/
def State.readable (s : State) (c : Nat) (e : SlotEntry) : Bool :=
  if e.staged && (e.cold || s.cget c O_STAGE_SETS != 0) then ((s.ctx c).stage e.slot e.layer).any (·.full) else true

/-- Element bytes and scale area of a part of an entry: from a staging set, or from where they lie. -/
def State.partBytes (s : State) (c : Nat) (e : SlotEntry) (down : Bool) : Bytes × Bytes :=
  let i := if down then 2 else 0
  if e.staged && (e.cold || s.cget c O_STAGE_SETS != 0) then
    let d := (((s.ctx c).stage e.slot e.layer).bind fun g => (g.data.find? fun p => p.1 == e.expert).map (·.2)).getD []
    (d.getD i [], d.getD (i + 1) [])
  else
    let sp := s.entrySpans c e
    let a := sp.getD i (0, 0)
    let b := sp.getD (i + 1) (0, 0)
    (s.rd a.1 a.2, s.rd b.1 b.2)

/-- Are the bytes of a part poisoned where they lie, with no staging set between (R457)? -/
def State.partBad (s : State) (c : Nat) (e : SlotEntry) : Bool :=
  !(e.staged && (e.cold || s.cget c O_STAGE_SETS != 0)) && (s.entrySpans c e).any fun p => s.isPoisoned p.1 p.2

/-! ### Operand rows from bytes (R39 to R42, R50, R112, R113) -/

/-- Escape values of row `r` from the bytes of a scale area (R50). -/
def areaEscapes (area : Bytes) (r n : Nat) : List (Nat × Dy) × Tally :=
  let off := fld area 8 4
  let slabs := n / 128
  let l := (List.range slabs).map fun p =>
    let cnt := min 8 (fld area (off + 16 * p) 1)
    let chs := ((area.drop (off + 16 * p + 1)).take cnt).map (·.toNat)
    let e := off + 16 * slabs + 16 * (r * slabs + p)
    if cnt == 0 then ([], Tally.zero)
    else escapeValues p (fld area e 1) chs (((area.drop (e + 1)).take cnt).map (·.toNat))
  ((l.map (·.1)).flatten, Tally.sum (l.map (·.2)))

/-- Row `r` of a tensor from its packed bytes and its scale area; without an area it has no scale. -/
def areaRow (e : Elem) (k : Scale) (bs area : Bytes) (r n : Nat) : OpRow × Tally :=
  let codes := unpackElems e n bs
  if area.isEmpty then opRow e .none codes [] [] 0x3F800000
  else
    let nb := if k.block == 0 then 0 else n / k.block
    let scales := ((area.drop (16 + r * nb)).take nb).map (·.toNat)
    let (esc, t) := if fld area 5 1 == 1 then areaEscapes area r n else ([], Tally.zero)
    let (row, t') := opRow e k codes scales esc (fld area 0 4)
    (row, t.add t')

/-- The rows of a compact matrix from its bytes (R367). -/
def matrixOf (fmt : Nat) (p : Bytes × Bytes) (n k : Nat) : List OpRow × Tally :=
  let e := (elemOf fmt).getD .bf16
  let len := rowBytes e k
  let l := (List.range n).map fun r => areaRow e (scaleOf fmt) ((p.1.drop (r * len)).take len) p.2 r k
  (l.map (·.1), (Tally.sum (l.map (·.2))).oneTensor)

/-- Escape values of an escape section (R113). -/
def sectionEscapes (slabs : Nat) (sec : Bytes) : List (Nat × Dy) × Tally :=
  let bits := (List.range slabs).filter fun i => fld sec 0 16 / 2 ^ i % 2 == 1
  let l := bits.zipIdx.map fun p =>
    let o := 16 + 32 * p.2
    let cnt := min 8 (fld sec o 1)
    escapeValues p.1 (fld sec (o + 16) 1) (((sec.drop (o + 1)).take cnt).map (·.toNat))
      (((sec.drop (o + 17)).take cnt).map (·.toNat))
  ((l.map (·.1)).flatten, Tally.sum (l.map (·.2)))

/-- A landed payload as an operand row (R112). -/
def payloadRow (fmt tscale h : Nat) (bs : Bytes) : OpRow × Tally :=
  let e := (elemOf fmt).getD .bf16
  let k := scaleOf fmt
  let n := rowBytes e h
  let nb := if k.block == 0 then 0 else h / k.block
  let (esc, t) := if escOf fmt then sectionEscapes (h / 128) (bs.drop (n + nb)) else ([], Tally.zero)
  let (row, t') := opRow e k (unpackElems e h (bs.take n)) (((bs.drop n).take nb).map (·.toNat)) esc tscale
  (row, t.add t')

/-- Rows of FP32 codes quantised as one tensor to a format, as operand rows (R177, R184). -/
def quantOps (fmt : Nat) (rows : List (List Nat)) : List OpRow × Tally :=
  let e := (elemOf fmt).getD .e4m3
  let k := scaleOf fmt
  let st := tensorScale e k [] rows
  let qs := rows.map fun r => quantRow e k .nearest st [] r
  (qs.map fun p => (opRow e k p.1.codes p.1.scales [] st).1, Tally.sum (qs.map (·.2)))

/-- A row's exact values with its tensor scale folded in. -/
def OpRow.folded (r : OpRow) : List Dy := r.xs.map fun x => Dy.mul x (f32 r.tscale).dy

/-- The first `n` columns of a list of rows. -/
def columns (rows : List (List Dy)) (n : Nat) : List (List Dy) := (List.range n).map fun j => rows.map fun r => r.getD j Dy.zero

/-! ### Products (R43, R158, R174, R180) -/

/-- The operands of a phase: rows of A, columns of B, both along K, and the span over which products are summed exactly
when it is not the shorter block (R180). -/
structure Prod where
  a : List OpRow
  b : List OpRow
  span : Option Nat
  tally : Tally
deriving DecidableEq, Repr

/-- A dot product over inner positions k0 to k1, before the tensor scales (R43, R174). -/
def sliceDot (span : Option Nat) (a b : OpRow) (k0 k1 : Nat) : Nat :=
  dotBlocks (span.getD (spanOf a.block b.block (k1 - k0))) ((a.xs.take k1).drop k0) ((b.xs.take k1).drop k0) 0

/-- Columns c0 to c1 of an output rectangle with the partial sums of a slice added (R174). -/
def Prod.addPanel (p : Prod) (acc : List (List Nat)) (c0 c1 k0 k1 : Nat) : List (List Nat) :=
  (acc.zip p.a).map fun r => (r.1.zip p.b).zipIdx.map fun v =>
    if c0 ≤ v.2 && v.2 < c1 then f32Add v.1.1 (sliceDot p.span r.2 v.1.2 k0 k1) else v.1.1

/-- An accumulated rectangle with the tensor scales applied (R43). -/
def Prod.finish (p : Prod) (acc : List (List Nat)) : List (List Nat) :=
  (acc.zip p.a).map fun r => (r.1.zip p.b).map fun v => applyScales v.1 r.2.tscale v.2.tscale

/-- A rectangle of +0. -/
def zeroRect (rows cols : Nat) : List (List Nat) := List.replicate rows (List.replicate cols 0)

/-- The rate of two operands, with roles exchanged where only that pair is listed (R61). -/
def rateOf (a b : Elem) : Nat := (pairRate a b).getD ((pairRate b a).getD 8)

/-- The element format of a format byte. -/
def fmtElem (f : Nat) : Elem := (elemOf f).getD .bf16

/-! ### Epilogues (R176, R184, R198, R234) -/

/-- Gate columns of an interleaved row: the first 128 of each panel of 256 (R176); a narrower last panel is halved. -/
def gateCols {α : Type} (row : List α) : List α := ((chunks 256 row).map fun p => p.take (p.length / 2)).flatten

/-- Up columns of an interleaved row. -/
def upCols {α : Type} (row : List α) : List α := ((chunks 256 row).map fun p => p.drop (p.length / 2)).flatten

/-- Gate and up parts of a row interleaved again. -/
def interleaveRow {α : Type} (g u : List α) : List α := (((chunks 128 g).zip (chunks 128 u)).map fun p => p.1 ++ p.2).flatten

/-- H of a row in an output format, as codes of that format (R176, R196). -/
def gluRow (f : Fmt) (fn : Nat) (row : List Nat) : List Nat × Tally :=
  let l := ((gateCols row).zip (upCols row)).map fun p => fuGlu f fn p.1 p.2
  (l.map (·.1), Tally.sum (l.map (·.2)))

/-- H of a row in BF16, as FP32 codes. -/
def gluRowBf16 (fn : Nat) (row : List Nat) : List Nat × Tally :=
  let r := gluRow fBF16 fn row
  (r.1.map bf16To32, r.2)

/-- FP32 codes rounded to BF16, as FP32 codes. -/
def roundBf16 (row : List Nat) : List Nat × Tally :=
  let l := row.map fBF16.of32
  (l.map fun p => bf16To32 p.1, { Tally.sum (l.map (·.2)) with amax := amax32 row })

/-- act(γ) × υ of a row in FP32 (R197, R234). -/
def hRow (fn : Nat) (g u : List Nat) : List Nat := (g.zip u).map fun p => (fuGlu fFP32 fn p.1 p.2).1

/-- H̃ of a row: act(γ) × υ × g, with a rounding of its own for the factor (R197). -/
def hTilde (fn gate : Nat) (g u : List Nat) : List Nat := (hRow fn g u).map fun v => f32Mul v gate

/-- dg of a row: Σ u × h in ascending position, compensated (R203, R234). -/
def dgOf (fn : Nat) (g u dw : List Nat) : Nat :=
  let sc := (dw.zip (hRow fn g u)).foldl (fun acc p => compAdd acc (f32Mul p.1 p.2)) (0, 0)
  f32Add sc.1 sc.2

/-- act(x) in FP32, faithful (R195). -/
def act32 (fn a : Nat) : Nat := (fuResult fFP32 fn a (actExact fn a)).1

/-- act′(x) in FP32, faithful (R198). -/
def actDeriv32 (fn a : Nat) : Nat := (fuResult fFP32 (fn + 32) a (actDeriv fn a)).1

/-- dZ of a row in interleaved order: dγ = (dH × υ) × act′(γ), dυ = dH × act(γ) (R198). `dw` is dY · W_downᵀ, and
dH = g × dw (R184). -/
def dzRow (fn gate : Nat) (g u dw : List Nat) : List Nat :=
  let dh := dw.map fun v => f32Mul gate v
  let l := (g.zip u).zip dh
  interleaveRow (l.map fun p => f32Mul (f32Mul p.2 p.1.2) (actDeriv32 fn p.1.1)) (l.map fun p => f32Mul p.2 (act32 fn p.1.1))

/-- A finished row as a return payload, with its tensor scale and what it counts (R138, R178, R184). -/
def returnPayload (fmt : Nat) (rnd : Rounding) (row : List Nat) : Bytes × Nat × Tally :=
  let e := fmtElem fmt
  if e == .bf16 then
    let l : List (Nat × Tally) := match rnd with
      | .nearest => row.map fBF16.of32
      | .stochastic ws => (row.zip ws).map fun p => fBF16.roundSr p.1 p.2
    let bs := bf16Bytes (l.map (·.1))
    (bs ++ List.replicate (align16 bs.length - bs.length) 0, 0x3F800000, { Tally.sum (l.map (·.2)) with amax := amax32 row })
  else
    let k := scaleOf fmt
    let st := tensorScale e k [] [row]
    let q := quantRow e k rnd st [] row
    let bs := q.1.bytes e
    (bs ++ List.replicate (align16 bs.length - bs.length) 0, st, q.2)

end Sys2Proof.Machine
end

