-- ==== Sys2Proof/Machine/Walker.lean ====
section
/-! DEFINITION. The walker at a destination (R134, R166 to R186): rows of a window part joining groups, row blocks, the items
of the forward and backward phases, what their commits do, returns, retention, weight gradients, summaries, and the end
of a part at its horizon or of one source's share of it. -/

namespace Sys2Proof.Machine

open Sys2Proof

/-! ### Parts -/

/-- The window part of a tag and direction. -/
def Ctx.part (x : Ctx) (tag : Nat) (bwd : Bool) : Option Part := x.parts.find? fun p => p.tag == tag && p.bwd == bwd

/-- A part replaced. -/
def Ctx.setPart (x : Ctx) (p : Part) : Ctx :=
  { x with parts := x.parts.map fun q => if q.tag == p.tag && q.bwd == p.bwd then p else q }

/-- A part of context `c` replaced. -/
def State.setPart (s : State) (c : Nat) (p : Part) : State := s.modCtx c fun x => x.setPart p

/-- What the engine holds of its own window of a tag (R538). -/
def Ctx.knownOf (x : Ctx) (tag : Nat) (bwd : Bool) : Option Known := x.known.find? fun k => k.tag == tag && k.bwd == bwd

/-- The tag under which pools know a part. -/
def Part.holder (p : Part) : Nat := p.tag + (if p.bwd then 2 ^ 32 else 0)

/-- The order key of a part (R140, R160): its horizon, the context, its half. -/
def Part.key (p : Part) (c : Nat) : List Nat := [p.horizon, c, p.tag % 2]

/-- Has a source's share of the part been removed (R148)? -/
def Part.closedSrc (p : Part) (src : Nat) : Bool := p.flows.any fun f => f.src == src && f.closed

/-- The record of a row. -/
def Part.recOf (p : Part) (r : LandedRow) : Record :=
  ((p.recs[r.recIdx]?).map (·.1)).getD ⟨⟨0, 0, 0, 0, 0, 0, 0, []⟩, []⟩

/-- Does a landed record still hold its landing buffer: is it not yet looked at, or has it a row that is neither answered
nor discarded? -/
def Part.recLive (p : Part) (i : Nat) (r : Record) : Bool :=
  (p.joined ≤ i && !p.past && !p.closedSrc r.hdr.srcNode) || p.rows.any fun v => v.recIdx == i && v.live

/-- Bytes of landed records that still hold landing buffers. -/
def Part.liveBytes (p : Part) : Nat :=
  ((p.recs.zipIdx.filter fun v => p.recLive v.2 v.1.1).map fun v => recLen v.1.1).foldl (· + ·) 0

/-- The tag under which pools know the part that a record belongs to. -/
def recHolder (r : Record) : Nat := r.hdr.tag + (if recKind r.hdr == 1 then 2 ^ 32 else 0)

/-- Bytes of arrived records that wait for landing (or, with RELAY, relay) buffers. -/
def Ctx.waitBytes (x : Ctx) (holder : Nat) (relay : Bool) : Nat :=
  ((x.landWait.filter fun v => recHolder v.1 == holder && recFlag v.1.hdr 2 == relay).map fun v => recLen v.1).foldl
    (· + ·) 0

/-- Landing buffers beyond what the live records of a part and those that wait take, given back. -/
def State.shrinkLanding (s : State) (c : Nat) (p : Part) : State :=
  s.shrinkUse c p.holder 2 (s.bufsFor c 2 (p.liveBytes + (s.ctx c).waitBytes p.holder false))

/-- The row block of an item. -/
def Part.block (p : Part) (kind expert rb : Nat) : Option RowBlock :=
  p.blocks.find? fun b => b.kind == kind && b.expert == expert && b.rb == rb

/-- A row block replaced. -/
def Part.setBlock (p : Part) (b : RowBlock) : Part :=
  { p with blocks := p.blocks.map fun v => if v.kind == b.kind && v.expert == b.expert && v.rb == b.rb then b else v }

/-- The slot-table entry that a part's expert uses (R167, R538), once every part of it has been written: an entry whose
weights this engine does not hold counts as none (R470). -/
def State.partEntry (s : State) (c : Nat) (p : Part) (expert : Nat) : Option SlotEntry :=
  match (s.ctx c).knownOf p.tag p.bwd with
  | some k => k.slot.bind fun slot =>
    (s.findEntry c slot k.layerSlot expert).bind fun e => if e.1.guDone && e.1.downDone then some e.2 else none
  | none => none

/-- The retained row of a backward copy (R183). -/
def Ctx.retainedRow (x : Ctx) (tag src token expert : Nat) : Option RetainedRow :=
  (x.retained.find? (·.tag == tag)).bind fun p =>
    p.rows.find? fun r => r.src == src && r.token == token && r.expert == expert

/-! ### Regions, tiles and lists (R160, R172, R173, R463) -/

/-- The tiles of a region that may run items of a part whose first item is `first` (R463). -/
def State.partTiles (s : State) (r first : Nat) : List Nat := (s.activeTiles r).filter fun t => (s.tile t).returnedAt ≤ first

/-- The regions that have such a tile. -/
def State.partRegions (s : State) (first : Nat) : List Nat :=
  s.activeRegions.filter fun r => !(s.partTiles r first).isEmpty

/-- Outstanding arithmetic cycles on a region's list (R172). -/
def State.outstanding (s : State) (r : Nat) : Nat :=
  ((s.items.filter fun i => i.region == r && i.tile.isNone).map (·.cost)).foldl (· + ·) 0

/-- The first of a list of regions whose list holds the fewest cycles. -/
def State.leastLoaded (s : State) : List Nat → Nat
  | [] => 0
  | r :: l => l.foldl (fun b q => if s.outstanding q < s.outstanding b then q else b) r

/-- The region of a row block: the least loaded in D0, by rotation in D1 and D2 (R172, R173). -/
def State.regionFor (s : State) (c first j : Nat) : Nat :=
  let l := s.partRegions first
  if s.det c == 0 then s.leastLoaded l else l.getD (j % max 1 l.length) 0

/-- What one item of a row block differs in: panel, width, cost, inner positions, slices. -/
structure Spec where
  panel : Nat
  w : Nat
  cost : Nat
  k0 : Nat
  k1 : Nat
  slices : Nat
deriving DecidableEq, Repr

/-- Items posted to a region's list, dealt to its tiles from count `n` on in D1 and D2 (R170, R173). -/
def State.postItems (s : State) (base : Item) (n : Nat) (specs : List Spec) : State :=
  let tiles := s.partTiles base.region base.first
  let new := specs.zipIdx.map fun v =>
    { base with
      id := s.nextItem + v.2
      panel := v.1.panel, w := v.1.w, cost := v.1.cost, k0 := v.1.k0, k1 := v.1.k1, slices := v.1.slices
      key := base.key ++ [v.1.panel]
      dealt := if s.det base.ctx == 0 then none else tiles[(n + v.2) % max 1 tiles.length]? }
  let items := s.items.filter (·.tile.isNone) ++ new ++ s.items.filter (·.tile.isSome)
  let depth := (items.filter fun i => i.region == base.region && i.tile.isNone).length
  let s := { s with items := items, nextItem := s.nextItem + specs.length }
  let s := s.bump (unitKey base.region O_REG_ITEMS_POSTED) specs.length
  s.put (unitKey base.region O_REG_LIST_DEPTH_PEAK) (max depth (s.get (unitKey base.region O_REG_LIST_DEPTH_PEAK)))

/-- The slices of K of a group of `count` items in D0 (R174). -/
def State.sliceCount (s : State) (c count k : Nat) : Nat :=
  let want := 4 * s.activeTotal
  if s.det c == 0 && count < want && k ≥ 4096 then
    max 1 (min (s.cget c O_SPLIT_K_MAX) (min (k / 2048) ((want + count - 1) / max 1 count)))
  else 1

/-- The items of a row block: panels of width `w`, each in `slices` slices of K (R158, R169, R174). -/
def blockSpecs (n k h w rate slices : Nat) : List Spec :=
  let step := k / slices / 32 * 32
  ((List.range ((n + w - 1) / w)).map fun p => (List.range slices).map fun j =>
    let k0 := j * step
    let k1 := if j + 1 == slices then k else k0 + step
    ⟨p, w, itemCost h w (k1 - k0) rate, k0, k1, slices⟩).flatten

/-! ### Phases of window parts (R170, R175, R184) -/

/-- The rows of a group that its gradient products run over, in block order (R184, R185). -/
def Part.groupBlocks (p : Part) (expert : Nat) : List RowBlock :=
  p.blocks.filter fun b => b.kind == 0 && b.expert == expert && b.phase != 8

/-- Rows of a group in row-block order. -/
def Part.groupRows (p : Part) (expert : Nat) : List LandedRow :=
  ((p.groupBlocks expert).map fun b => b.rows.filterMap fun i => p.rows[i]?).flatten

/-- Is phase `ph` of a part function-unit work only: B2 or B4 (R184, R212)? -/
def fuPhase (bwd : Bool) (ph : Nat) : Bool := bwd && (ph == 2 || ph == 4)

/-- N and K of a phase: 1 GATE_UP or B1, 2 DOWN, 3 B3, 5 B5, 6 B6, 7 B7 (R166, R184). `rows` is the number of rows of the
group, padded to a multiple of 32 in B5 and B7. -/
def State.phaseDims (s : State) (c : Nat) (ph rows : Nat) : Nat × Nat :=
  let h := s.hidden c
  let i := s.inner c
  match ph with
  | 1 => (2 * i, h)
  | 2 => (h, i)
  | 3 => (i, h)
  | 5 => (h, (rows + 31) / 32 * 32)
  | 6 => (h, 2 * i)
  | _ => (2 * i, (rows + 31) / 32 * 32)

/-- The formats of the two operands of a phase (R184): of the landed payload, of the retained one and of the weights. -/
def State.phaseFmts (s : State) (c : Nat) (bwd : Bool) (e : SlotEntry) (ph landed kept : Nat) : Elem × Elem :=
  match bwd, ph with
  | false, 1 => (fmtElem e.wFmt, fmtElem landed)
  | false, _ => (fmtElem e.dFmt, fmtElem (s.cget c O_INTER_FMT))
  | true, 1 => (fmtElem e.wFmt, fmtElem kept)
  | true, 3 => (fmtElem e.dFmt, fmtElem landed)
  | true, 5 => (.e4m3, fmtElem landed)
  | true, 6 => (fmtElem e.wFmt, .e5m2)
  | true, _ => (fmtElem kept, .e5m2)

/-- The format of the payload retained for a row. -/
def State.keptFmt (s : State) (c : Nat) (p : Part) (r : LandedRow) : Nat :=
  let rec_ := p.recOf r
  (((s.ctx c).retainedRow p.tag rec_.hdr.srcNode rec_.hdr.token r.expert).map (·.fmt)).getD 0x30

/-- Blocks of 128 rows that a group's landed copies make so far. -/
def Part.blockCount (p : Part) (expert : Nat) : Nat :=
  ((p.rows.filter fun r => r.expert == expert && (!r.gone || r.block.isSome)).length + 127) / 128

/-- The items of a row block's present phase. -/
def State.phaseSpecs (s : State) (c : Nat) (p : Part) (e : SlotEntry) (b : RowBlock) : List Spec :=
  if fuPhase p.bwd b.phase then
    [⟨0, s.inner c, (b.height * s.inner c * (if b.phase == 2 then 4 else 8) + 7) / 8 + 32, 0, 0, 1⟩]
  else
    let row := if b.kind == 0 then (b.rows.filterMap fun i => p.rows[i]?).head? else (p.groupRows b.expert).head?
    let landed := (row.map fun r => (p.recOf r).hdr.format).getD 0x30
    let kept := (row.map fun r => s.keptFmt c p r).getD 0x30
    let (n, k) := s.phaseDims c b.phase (p.groupRows b.expert).length
    let (x, y) := s.phaseFmts c p.bwd e b.phase landed kept
    let blocks := if b.kind == 5 then (s.inner c + 127) / 128 else if b.kind == 7 then (s.hidden c + 127) / 128
      else p.blockCount b.expert
    let sl := if p.bwd then s.sliceCount c (blocks * ((n + 255) / 256)) k else 1
    blockSpecs n k b.height 256 (rateOf x y) sl

/-- The items of a row block's present phase posted; the block as it then stands is put back. -/
def State.postPhase (s : State) (c tag : Nat) (bwd : Bool) (b : RowBlock) : State :=
  match (s.ctx c).part tag bwd with
  | none => s
  | some p =>
    match s.partEntry c p b.expert with
    | none => s
    | some e =>
      let specs := s.phaseSpecs c p e b
      let first := p.firstItem.getD s.nextItem
      let (n, _) := s.phaseDims c b.phase 0
      let b := { b with left := specs.length, width := n,
                        acc := if fuPhase bwd b.phase then [] else
                          zeroRect (if b.kind == 0 then b.rows.length else b.height) n }
      let base : Item := ⟨0, c, tag, if bwd then 1 else 0, b.expert, b.rb, b.phase, 0, b.height, 0, 0, 0, 0, 0,
        p.key c ++ [b.expert, b.rb, b.phase], b.region, none, none, 0, 0, 0, first⟩
      let s := s.postItems base (p.posted.getD b.region 0) specs
      s.setPart c { p.setBlock b with
        firstItem := some first
        posted := p.posted.set b.region (p.posted.getD b.region 0 + specs.length) }

/-! ### Rows and row blocks (R166, R169, R171, R183) -/

/-- The key by which the rows of a group are ordered once the part is complete (R166). -/
def State.rowKey (s : State) (c : Nat) (p : Part) (r : LandedRow) : List Nat :=
  let h := (p.recOf r).hdr
  let cont := if recFlag h 1 then 1 else 0
  match s.det c with
  | 0 => []
  | 1 => [h.srcNode, (h.copies.map (·.expert)).headD 0, h.token, cont, r.entry]
  | _ => [s.rankOf c h.srcNode, h.token, cont, r.entry]

/-- Insertion by key, after equal keys. -/
def insertKeyed (x : List Nat × Nat) : List (List Nat × Nat) → List (List Nat × Nat)
  | [] => [x]
  | y :: r => if keyLt x.1 y.1 then x :: y :: r else y :: insertKeyed x r

/-- Rows of a group that no row block holds, in the order of R166. -/
def State.freeRows (s : State) (c : Nat) (p : Part) (expert : Nat) : List Nat :=
  let l := p.rows.zipIdx.filter fun r => r.1.expert == expert && r.1.block.isNone && !r.1.gone
  ((l.map fun r => (s.rowKey c p r.1, r.2)).foldl (fun acc x => insertKeyed x acc) []).map (·.2)

/-- Rows put into a row block. -/
def markRows (rows : List LandedRow) (ids : List Nat) (rb : Nat) : List LandedRow :=
  rows.zipIdx.map fun r => if ids.contains r.2 then { r.1 with block := some rb } else r.1

/-- A row block made of rows of a group, and its first phase posted (R169, R170, R182). -/
def State.formBlock (s : State) (c tag : Nat) (bwd : Bool) (expert : Nat) (ids : List Nat) : State :=
  match (s.ctx c).part tag bwd with
  | none => s
  | some p =>
    let rb := (p.blocks.filter fun b => b.kind == 0 && b.expert == expert).length
    let full := bwd && s.cget c O_RETAIN_MODE == 2
    let kept := if full then ids.map fun i =>
        (p.rows[i]?).bind fun r => (s.ctx c).retainedRow tag (p.recOf r).hdr.srcNode (p.recOf r).hdr.token expert
      else []
    let region := s.regionFor c (p.firstItem.getD s.nextItem) p.nextBlock
    let b : RowBlock := ⟨0, expert, rb, region, ids, blockHeight ids.length, 0, if full then 2 else 1, 0, false, [],
      kept.map fun k => (k.map (·.gate)).getD [], kept.map fun k => (k.map (·.up)).getD [], [], [], []⟩
    let s := s.cbump c O_PAD_ROWS (b.height - ids.length)
    let s := s.setPart c { p with
      rows := markRows p.rows ids rb
      blocks := p.blocks ++ [b]
      nextBlock := p.nextBlock + 1 }
    s.postPhase c tag bwd b

/-- Row blocks of the rows of a group that are ready (R171). -/
def State.formGroup (s : State) (c tag : Nat) (bwd : Bool) (expert : Nat) : State :=
  match (s.ctx c).part tag bwd with
  | none => s
  | some p =>
    let ids := s.freeRows c p expert
    let l := chunks 128 ids
    let l := if p.complete then l else if s.det c == 0 && s.cget c O_EARLY_START == 1 then l.filter (·.length == 128) else []
    l.foldl (fun s ids => s.formBlock c tag bwd expert ids) s

/-- STAGE_MISS (R168): no set serves the layer slot of the part, so the walker fills one. -/
def State.stageMiss (s : State) (c : Nat) (p : Part) (e : SlotEntry) : State :=
  let had := ((s.ctx c).stage e.slot e.layer).isSome
  let s := s.fillStage c e.slot e.layer
  if had || p.waitingStage then s
  else ((s.cbump c O_STAGE_MISSES 1).craise c O_EF_FLAGS 2).setPart c { p with waitingStage := true }

/-- The groups of a part taken in order until one waits for its weights (R170). -/
def State.formGroups (s : State) (c tag : Nat) (bwd : Bool) : List Nat → State
  | [] => s
  | e :: r =>
    match (s.ctx c).part tag bwd with
    | none => s
    | some p =>
      match s.partEntry c p e with
      | none => State.formGroups s c tag bwd r
      | some en =>
        if (s.freeRows c p e).isEmpty || (!p.complete && (s.freeRows c p e).length < 128) then
          State.formGroups s c tag bwd r
        else if s.readable c en then State.formGroups (s.formGroup c tag bwd e) c tag bwd r
        else s.stageMiss c p en

/-- The experts that a part's rows name, ascending. -/
def Part.experts (p : Part) : List Nat := (sortAsc ((p.rows.filter fun r => !r.gone || r.block.isSome).map (·.expert))).eraseDups

/-- The rows that the copies of one record give (R166, R183), with the copies that no group takes and the backward copies
whose forward row is no longer retained. -/
def State.copyRows (s : State) (c : Nat) (p : Part) (i : Nat) (r : Record) : List LandedRow × Nat × Nat :=
  let x := s.ctx c
  let gates := if p.bwd then chunks 4 (r.payload.drop (r.payload.length - 32)) else []
  (r.hdr.copies.zipIdx.filter fun k => k.1.slot == slotOf (s.nodeOf c)).foldl
    (fun acc k =>
      let e := k.1.expert
      if !(placements x.map (s.nodeOf c)).contains e || (s.partEntry c p e).isNone then (acc.1, acc.2.1 + 1, acc.2.2)
      else if p.bwd && (x.retainedRow p.tag r.hdr.srcNode r.hdr.token e).isNone then (acc.1, acc.2.1, acc.2.2 + 1)
      else (acc.1 ++ [⟨e, leNat (gates.getD k.2 []), i, k.2, none, false, true⟩], acc.2)) ([], 0, 0)

/-- Landed records whose copies have not been looked at join their groups, once this engine's own window fixes the weight
and layer slots (R166, R538). -/
def State.joinRecords (s : State) (c tag : Nat) (bwd : Bool) : State :=
  match (s.ctx c).part tag bwd, (s.ctx c).knownOf tag bwd with
  | some p, some k =>
    if k.slot.isNone || p.past then s
    else
      let new := (p.recs.zipIdx.drop p.joined).filter fun v => !p.closedSrc v.1.1.hdr.srcNode
      let l := new.map fun v => s.copyRows c p v.2 v.1.1
      let unheld := (l.map fun v => v.2.1).foldl (· + ·) 0
      let absent := (l.map fun v => v.2.2).foldl (· + ·) 0
      let s := s.bump O_UNHELD_COPIES unheld
      let s := (s.cbump c O_RETAIN_ABSENT_COUNT absent).craiseN c O_EF_FLAGS 1 absent
      let p := { p with
        joined := p.recs.length
        rows := p.rows ++ (l.map (·.1)).flatten
        absent := p.absent || absent != 0 }
      (s.setPart c p).shrinkLanding c p
  | _, _ => s

/-! ### Returns (R138, R178, R232) -/

/-- A return record handed to XE (R138, R231): one per copy, straight to its source. -/
def State.sendReturn (s : State) (c : Nat) (p : Part) (r : LandedRow) (fmt : Nat) (payload : Bytes) (scale : Nat) : State :=
  let h := (p.recOf r).hdr
  let out : Record := ⟨⟨p.tag, h.srcNode, c, h.token, fmt, mkFlags (if p.bwd then 3 else 2) false false false false, scale,
    ((h.copies[r.entry]?).map fun k => [k]).getD []⟩, payload⟩
  let s := s.cput c O_RET_SENT_STEP ((s.cget c O_RET_SENT_STEP + crc64 payload) % 2 ^ 64)
  if s.pathTo h.srcNode then (s.emit (.ret h.srcNode out)).cbump c O_RETURNS_SENT 1 else s

/-- The rounding of a returned input gradient (R54, R263). -/
def State.returnRounding (s : State) (c : Nat) (k : Known) (h : RecHeader) (expert : Nat) : Rounding :=
  if s.cget c O_SR_ENABLE / 2 % 2 == 1 then
    .stochastic (philoxWords ⟨s.cget c O_SEED, s.rankOf c h.srcNode, 0x11, k.tag % 2, k.mb, expert, h.token, k.step,
      k.layerSlot⟩ (s.hidden c))
  else .nearest

/-- The finished rows of a row block handed to XE; padding rows send nothing (R178, R179, R184). -/
def State.handRows (s : State) (c : Nat) (p : Part) (k : Known) (b : RowBlock) (out : List (List Nat)) : State :=
  let fmt := s.returnFmt c p.bwd
  let fn := s.cget c O_ACT_FN
  (b.rows.zip out).zipIdx.foldl
    (fun s v =>
      match p.rows[v.1.1]? with
      | none => s
      | some r =>
        let rnd := if p.bwd then s.returnRounding c k (p.recOf r).hdr r.expert else .nearest
        let (pay, st, t) := returnPayload fmt rnd v.1.2
        let t := if !p.bwd && fmt == 0x30 then Tally.zero else t
        let s := s.winTally c p.tag p.bwd k.mark t
        if r.gone then s
        else s.sendReturn c p r fmt pay
          (if p.bwd then dgOf fn (b.gate.getD v.2 []) (b.up.getD v.2 []) (b.u.getD v.2 []) else st)) s

/-! ### The end of a part (R182, R186, R374, R538) -/

/-- What a forward part retains (R182): its computed rows. -/
def State.retain (s : State) (c : Nat) (p : Part) (slot : Nat) : State :=
  if p.bwd || s.cget c O_RETAIN_MODE == 0 then s
  else
    let rows := ((p.blocks.filter fun b => b.phase == 9).map fun b => b.rows.zipIdx.filterMap fun v =>
      (p.rows[v.1]?).bind fun r =>
        if r.gone then none
        else
          let rec_ := p.recOf r
          some (RetainedRow.mk rec_.hdr.srcNode rec_.hdr.token r.expert rec_.hdr.format rec_.hdr.tscale rec_.payload
            (b.gate.getD v.2 []) (b.up.getD v.2 []))).flatten
    let bytes := (rows.map fun r => 32 + r.payload.length + 2 * (r.gate.length + r.up.length)).foldl (· + ·) 0
    let s := s.request c p.holder 6 (p.key c) (s.bufsFor c 6 bytes)
    let l := (s.ctx c).retained ++ [⟨p.tag, slot, rows⟩]
    let n := l.length - s.cget c O_RETAIN_KEEP
    let s := (l.take n).foldl (fun s q => (s.releaseUse c q.tag 6).cbump c O_RETAIN_EVICTED 1) s
    s.modCtx c fun x => { x with retained := l.drop n }

/-- The 32-byte summary (R186). -/
def summaryBytes (tag groups items rows spill status : Nat) : Bytes :=
  leBytes 4 tag ++ leBytes 4 groups ++ leBytes 4 items ++ leBytes 4 rows ++ leBytes 4 spill ++ leBytes 1 status
    ++ List.replicate 11 0

/-- Has a part nothing left to do? -/
def State.partOver (s : State) (c : Nat) (p : Part) : Bool :=
  let known := (s.ctx c).knownOf p.tag p.bwd
  let busy := s.items.any fun i => i.ctx == c && i.tag == p.tag && i.kind == (if p.bwd then 1 else 0)
  !p.done && !busy && p.blocks.all (fun b => b.phase ≥ 8)
    && (p.past || (p.complete && known.isSome && p.joined == p.recs.length
      && p.rows.all fun r => r.block.isSome || r.gone))

/-- A part that has ended: its summary, what it retains, the slot, staging set and buffers it held (R168, R182, R186,
R374). -/
def State.finishPart (s : State) (c tag : Nat) (bwd : Bool) : State :=
  match (s.ctx c).part tag bwd with
  | none => s
  | some p =>
    if !s.partOver c p then s
    else
      let k := (s.ctx c).knownOf tag bwd
      let slot := k.bind (·.slot)
      let whole := p.blocks.all fun b => b.phase == 9
      let s := match k with
        | some k =>
          if k.summary == 0 then s
          else s.wr k.summary (summaryBytes tag p.experts.length p.itemsRun p.rowsRun k.spill
            (if p.absent then 0x81 else if p.past && !(p.complete && whole) then 0x33 else 0))
        | none => s
      let s := s.retain c p (slot.getD 0)
      let s := if bwd then
          (s.modCtx c fun x => { x with retained := x.retained.filter (·.tag != tag) }).releaseUse c tag 6
        else s
      let p := { p with done := true, rows := [], blocks := [], recs := [], joined := 0 }
      let s := (s.setPart c p).shrinkLanding c p
      let s := match k, slot with
        | some k, some j => s.closeStage c j k.layerSlot
        | _, _ => s
      (s.settleSlots c).dropKnown c

/-! ### Groups of backward parts (R184, R185) -/

/-- The buffer that a gradient phase adds to; 0 none. -/
def gradBase (e : SlotEntry) (ph : Nat) : Nat := if ph == 5 then e.gradDown else e.gradGu

/-- The rectangles of 128 rows of a weight gradient posted (R184). -/
def State.postGrads (s : State) (c tag : Nat) (expert ph : Nat) : State :=
  match (s.ctx c).part tag true with
  | none => s
  | some p =>
    let m := if ph == 5 then s.inner c else s.hidden c
    let n := (m + 127) / 128
    let g := (p.experts.idxOf? expert).getD 0
    (List.range n).foldl
      (fun s b =>
        let region := s.regionFor c (p.firstItem.getD s.nextItem) (g * n + b)
        let blk : RowBlock := ⟨ph, expert, b, region, [], blockHeight (min 128 (m - 128 * b)), 0, ph, 0, false, [], [], [],
          [], [], []⟩
        let s := match (s.ctx c).part tag true with
          | some p => s.setPart c { p with blocks := p.blocks ++ [blk] }
          | none => s
        s.postPhase c tag true blk) s

/-- A backward group moves on when every row block and rectangle of its phase is done: B5, then B6, then B7 (R184).
`phase` 5 of a row block stands for the wait for B5. -/
def State.advanceGroup (s : State) (c tag expert : Nat) : State :=
  match (s.ctx c).part tag true with
  | none => s
  | some p =>
    match s.partEntry c p expert with
    | none => s
    | some e =>
      let blocks := p.groupBlocks expert
      let grads (ph : Nat) := p.blocks.filter fun b => b.kind == ph && b.expert == expert
      if !p.complete || p.past || blocks.isEmpty || !(s.freeRows c p expert).isEmpty then s
      else if blocks.all (·.phase == 5) then
        if gradBase e 5 != 0 && (grads 5).isEmpty then s.postGrads c tag expert 5
        else if (grads 5).all (·.phase == 9) then
          blocks.foldl (fun s b =>
            let b := { b with phase := 6 }
            match (s.ctx c).part tag true with
            | some p => (s.setPart c (p.setBlock b)).postPhase c tag true b
            | none => s) s
        else s
      else if blocks.all (·.phase == 9) && gradBase e 7 != 0 && (grads 7).isEmpty then s.postGrads c tag expert 7
      else s

/-- Groups of a part that are complete, counted once each (R190). -/
def State.countGroups (s : State) (c tag : Nat) (bwd : Bool) : State :=
  match (s.ctx c).part tag bwd with
  | none => s
  | some p =>
    let new := p.experts.filter fun e =>
      !p.groups.contains e && p.complete && (s.freeRows c p e).isEmpty
        && (p.blocks.filter fun b => b.expert == e).all (·.phase == 9)
        && (!bwd || ((s.partEntry c p e).all fun en =>
          gradBase en 7 == 0 || p.blocks.any fun b => b.kind == 7 && b.expert == e))
    (s.setPart c { p with groups := p.groups ++ new }).cbump c O_GROUPS_RUN new.length

/-- The walker goes over a part: records join, ready row blocks are posted, backward groups move on, and a part with
nothing left ends (R170). -/
def State.walk (s : State) (c tag : Nat) (bwd : Bool) : State :=
  let s := s.joinRecords c tag bwd
  match (s.ctx c).part tag bwd with
  | none => s
  | some p =>
    if p.past then s.finishPart c tag bwd
    else
      let s := s.formGroups c tag bwd p.experts
      let s := if bwd then p.experts.foldl (fun s e => s.advanceGroup c tag e) s else s
      (s.countGroups c tag bwd).finishPart c tag bwd

/-- Every part of a context looked at: those waiting for weights go on (R168). -/
def State.walkAll (s : State) (c : Nat) : State :=
  ((s.ctx c).parts.filter fun p => !p.done).foldl (fun s p => s.walk c p.tag p.bwd) s

/-! ### What the items of a window compute (R176 to R178, R184) -/

/-- The landed payload of a row as an operand. -/
def State.landedOp (s : State) (c : Nat) (p : Part) (r : LandedRow) : OpRow × Tally :=
  let v := p.recOf r
  payloadRow v.hdr.format v.hdr.tscale (s.hidden c) v.payload

/-- The retained payload of a row as an operand. -/
def State.keptOp (s : State) (c : Nat) (p : Part) (r : LandedRow) : OpRow × Tally :=
  let v := p.recOf r
  match (s.ctx c).retainedRow p.tag v.hdr.srcNode v.hdr.token r.expert with
  | some k => payloadRow k.fmt k.tscale (s.hidden c) k.payload
  | none => (⟨0, List.replicate (s.hidden c) Dy.zero, 0x3F800000⟩, Tally.zero)

/-- A list of operand rows with what their decoding counts. -/
def gather (l : List (OpRow × Tally)) : List OpRow × Tally := (l.map (·.1), Tally.sum (l.map (·.2)))

/-- Weights read transposed: each column an operand, its elements with their own block scales (R180). -/
def transposed (rows : List OpRow) (n : Nat) : List OpRow :=
  (columns (rows.map (·.xs)) n).map fun xs => ⟨0, xs, (rows.map (·.tscale)).headD 0x3F800000⟩

/-- The span of a product with a transposed weight: 16 elements of K when it has block scales (R180). -/
def transSpan (fmt : Nat) : Option Nat := if (scaleOf fmt).block == 0 then none else some 16

/-- Columns of folded rows padded with zeros to a multiple of 32 along K (R184). -/
def paddedColumns (rows : List OpRow) (n : Nat) : List OpRow :=
  let k := (rows.length + 31) / 32 * 32
  (columns (rows.map OpRow.folded) n).map fun xs => ⟨0, xs ++ List.replicate (k - xs.length) Dy.zero, 0x3F800000⟩

/-- The operands of a row block's present phase. -/
def State.phaseProd (s : State) (c : Nat) (p : Part) (e : SlotEntry) (b : RowBlock) : Prod :=
  let h := s.hidden c
  let i := s.inner c
  let rows := b.rows.filterMap fun v => p.rows[v]?
  let group := p.groupRows b.expert
  let blocks := p.groupBlocks b.expert
  let gu (_ : Unit) := matrixOf e.wFmt (s.partBytes c e false) (2 * i) h
  let down (_ : Unit) := matrixOf e.dFmt (s.partBytes c e true) h i
  let fn := s.cget c O_ACT_FN
  let dz (b : RowBlock) := (quantOps 0x14 b.dz).1
  let tilde (b : RowBlock) :=
    (quantOps 0x04 (b.rows.zipIdx.map fun v =>
      hTilde fn (((p.rows[v.1]?).map (·.gate)).getD 0) (b.gate.getD v.2 []) (b.up.getD v.2 []))).1
  match p.bwd, b.phase with
  | false, 1 =>
    let a := gather (rows.map (s.landedOp c p))
    let w := gu ()
    ⟨a.1, w.1, none, a.2.add w.2⟩
  | false, _ =>
    let w := down ()
    ⟨(quantOps (s.cget c O_INTER_FMT) b.h).1, w.1, none, w.2⟩
  | true, 1 =>
    let a := gather (rows.map (s.keptOp c p))
    let w := gu ()
    ⟨a.1, w.1, none, a.2.add w.2⟩
  | true, 3 =>
    let a := gather (rows.map (s.landedOp c p))
    let w := down ()
    ⟨a.1, transposed w.1 i, transSpan e.dFmt, a.2.add w.2⟩
  | true, 5 =>
    let y := gather (group.map (s.landedOp c p))
    let cols := paddedColumns ((blocks.map tilde).flatten) i
    ⟨(cols.drop (128 * b.rb)).take b.height, paddedColumns y.1 h, some 16, y.2⟩
  | true, 6 =>
    let w := gu ()
    ⟨dz b, transposed w.1 h, transSpan e.wFmt, w.2⟩
  | true, _ =>
    let x := gather (group.map (s.keptOp c p))
    let cols := paddedColumns x.1 h
    ⟨(cols.drop (128 * b.rb)).take b.height, paddedColumns ((blocks.map dz).flatten) (2 * i), some 16, x.2⟩

/-- Is what an item reads poisoned (R457)? -/
def State.phaseBad (s : State) (c : Nat) (p : Part) (b : RowBlock) : Bool :=
  match s.partEntry c p b.expert with
  | none => false
  | some e => !fuPhase p.bwd b.phase && b.kind == 0 && s.partBad c e

/-- Items of a window part counted in the part. -/
def State.countPartItem (s : State) (c tag : Nat) (bwd : Bool) : State :=
  match (s.ctx c).part tag bwd with
  | some p => s.setPart c { p with itemsRun := p.itemsRun + 1 }
  | none => s

/-- Results of function units that an item's epilogue delivers (R176, R212, R214). -/
def Item.fuResults (it : Item) (bwd : Bool) (width : Nat) : Nat :=
  if fuPhase bwd it.phase then it.h * it.w
  else if !bwd && it.phase == 1 then it.h * (min it.w (width - it.panel * it.w) / 2)
  else 0

/-- The rows of a row block finished and handed over; its landing buffers return (R178). -/
def State.handBlock (s : State) (c tag : Nat) (bwd : Bool) (b : RowBlock) (out : List (List Nat)) : State :=
  match (s.ctx c).part tag bwd, (s.ctx c).knownOf tag bwd with
  | some p, some k =>
    let s := s.handRows c p k b out
    let real := (b.rows.filter fun i => (p.rows[i]?).any fun r => !r.gone).length
    let p := { p.setBlock { b with phase := 9, acc := [] } with
      rowsRun := p.rowsRun + real
      rows := p.rows.zipIdx.map fun r => if b.rows.contains r.2 then { r.1 with live := false } else r.1 }
    (s.setPart c p).shrinkLanding c p
  | _, _ => s

/-- A row block moves to a phase, whose items are posted. -/
def State.nextPhase (s : State) (c tag : Nat) (bwd : Bool) (b : RowBlock) : State :=
  match (s.ctx c).part tag bwd with
  | some p => (s.setPart c (p.setBlock b)).postPhase c tag bwd b
  | none => s

/-- What the last commit of a phase of a row block does (R175 to R178, R184). `vals` is the finished product. -/
def State.phaseDone (s : State) (c : Nat) (p : Part) (k : Known) (b : RowBlock) (vals : List (List Nat)) : State :=
  let fn := s.cget c O_ACT_FN
  let count (s : State) (t : Tally) : State := s.winTally c p.tag p.bwd k.mark t
  let b := { b with acc := [] }
  let gate (v : Nat) : Nat := ((p.rows[b.rows.getD v 0]?).map (·.gate)).getD 0
  match p.bwd, b.phase with
  | false, 1 =>
    let hs := vals.map (gluRowBf16 fn)
    let full := s.cget c O_RETAIN_MODE == 2
    let gs := if full then vals.map fun r => roundBf16 (gateCols r) else []
    let us := if full then vals.map fun r => roundBf16 (upCols r) else []
    let q := quantOps (s.cget c O_INTER_FMT) (hs.map (·.1))
    let s := count s (Tally.sum ((hs ++ gs ++ us).map (·.2) ++ [q.2]))
    s.nextPhase c p.tag false { b with phase := 2, h := hs.map (·.1), gate := gs.map (·.1), up := us.map (·.1) }
  | false, _ =>
    let os := vals.map roundBf16
    (count s (Tally.sum (os.map (·.2)))).handBlock c p.tag false b (os.map (·.1))
  | true, 1 =>
    let gs := vals.map fun r => roundBf16 (gateCols r)
    let us := vals.map fun r => roundBf16 (upCols r)
    let s := count s (Tally.sum ((gs ++ us).map (·.2)))
    s.nextPhase c p.tag true { b with phase := 2, gate := gs.map (·.1), up := us.map (·.1) }
  | true, 2 =>
    let q := quantOps 0x04 (b.rows.zipIdx.map fun v => hTilde fn (gate v.2) (b.gate.getD v.2 []) (b.up.getD v.2 []))
    (count s q.2).nextPhase c p.tag true { b with phase := 3 }
  | true, 3 => s.nextPhase c p.tag true { b with phase := 4, u := vals }
  | true, 4 =>
    let zs := b.rows.zipIdx.map fun v =>
      dzRow fn (gate v.2) (b.gate.getD v.2 []) (b.up.getD v.2 []) (b.u.getD v.2 [])
    let s := count s (quantOps 0x14 zs).2
    s.setPart c (p.setBlock { b with phase := 5, dz := zs })
  | true, _ => s.handBlock c p.tag true b vals

/-! ### Weight gradients (R185) -/

/-- FP32 values added to a rectangle of a buffer, one rounding per element. -/
def State.addRect (s : State) (g : GradHeld) : State :=
  g.rows.zipIdx.foldl
    (fun s r =>
      let a := g.base + g.off + r.2 * g.stride
      let old := fp32Row (s.rd a (4 * r.1.length))
      s.wr a (fp32Bytes ((old.zip r.1).map fun v => f32Add v.1 v.2))) s

/-- Does an earlier backward window still owe an add to a rectangle of a buffer (R185)? -/
def State.owesAdd (s : State) (c base off : Nat) (k : Known) : Bool :=
  let x := s.ctx c
  let es := ((s.slotEntries c).map (·.2)).filter fun e =>
    some e.slot == k.slot && e.layer == k.layerSlot && (e.gradGu == base || e.gradDown == base)
  if es.isEmpty then false
  else
    s.gradHeld.any (fun g => g.ctx == c && g.tag == k.tag && g.base == base && g.off == off)
      || match x.part k.tag true with
        | none => x.windows.any fun w => w.tag == k.tag && w.bwd && w.isOpen
        | some p => !(p.done || p.added.contains (base + off)
            || (p.complete && p.joined == p.recs.length && es.all fun e => !p.experts.contains e.expert))

/-- Is it a window's turn to add to a rectangle: always in D0, otherwise once the windows issued before it have added
(R185)? -/
def State.gradTurn (s : State) (c : Nat) (g : GradHeld) : Bool :=
  let before := ((s.ctx c).known.filter (·.bwd)).takeWhile fun k => k.tag != g.tag
  s.det c == 0 || !before.any fun k => s.owesAdd c g.base g.off k

/-- A rectangle added, and noted in its part. -/
def State.addGrad (s : State) (g : GradHeld) : State :=
  let s := s.addRect g
  match (s.ctx g.ctx).part g.tag true with
  | some p => s.setPart g.ctx { p with added := p.added ++ [g.base + g.off] }
  | none => s

/-- A gradient item's result (R185): added, or held until its turn. Rows of the buffer are rows of the stored matrix
(R367), so the rectangle lies there transposed. -/
def State.commitGrad (s : State) (c : Nat) (it : Item) (e : SlotEntry) (b : RowBlock) (vals : List (List Nat)) : State :=
  let m := if b.kind == 5 then s.inner c else s.hidden c
  let n0 := it.panel * it.w
  let cols := vals.map fun r => (r.drop n0).take it.w
  let n := (cols.headD []).length
  let h := min b.height (m - 128 * b.rb)
  let rows := (List.range n).map fun j => (cols.take h).map fun r => r.getD j 0
  let g : GradHeld := ⟨it.id, c, it.tag, gradBase e b.kind, 4 * (n0 * m + 128 * b.rb), 4 * m, rows⟩
  if s.gradTurn c g then s.addGrad g else { s with gradHeld := s.gradHeld ++ [g] }

/-- WEIGHT_GRAD_ADD (R185): a held result is added once the earlier add has been made. -/
def execWeightGradAdd (c item : Nat) (s : State) : Host.Outcome State Fault Refusal :=
  finish s <|
    match s.gradHeld.find? fun g => g.ctx == c && g.id == item with
    | none => s
    | some g =>
      let others := { s with gradHeld := s.gradHeld.filter fun v => !(v.ctx == c && v.id == item) }
      if s.coreUp && others.gradTurn c g then others.addGrad g else s

/-! ### Commit of a window's item (R159, R170) -/

/-- Is an item one slice of several (R174)? -/
def Item.sliced (it : Item) : Bool := it.slices != 1

/-- An item of a window part commits: its panel is formed, and the last one of a phase moves the row block on. -/
def State.commitWindow (s : State) (it : Item) : State :=
  let c := it.ctx
  let bwd := it.kind == 1
  let s := s.countPartItem c it.tag bwd
  let kind := if bwd && (it.phase == 5 || it.phase == 7) then it.phase else 0
  match (s.ctx c).part it.tag bwd, (s.ctx c).knownOf it.tag bwd with
  | some p, some k =>
    match p.block kind it.group it.rb, s.partEntry c p it.group with
    | some b, some e =>
      if b.phase != it.phase then (s.setPart c (p.setBlock { b with left := b.left - 1 })).walk c it.tag bwd
      else
        let n := it.fuResults bwd b.width
        let s := (s.fuCount c n).bump (unitKey (it.tile.getD 0) O_TILE_FU_RESULTS) n
        let fu := fuPhase bwd it.phase
        let q := if fu then ⟨[], [], none, Tally.zero⟩ else s.phaseProd c p e b
        let s := if it.panel == 0 && it.k0 == 0 then s.winTally c it.tag bwd k.mark q.tally
          else s.winTally c it.tag bwd k.mark q.tally.rereads
        if kind != 0 then
          let part := q.finish (q.addPanel b.acc (it.panel * it.w) (it.panel * it.w + it.w) it.k0 it.k1)
          let s := s.commitGrad c it e b part
          let s := match (s.ctx c).part it.tag bwd with
            | some p => s.setPart c (p.setBlock
                { b with left := b.left - 1, phase := if b.left == 1 then 9 else b.phase,
                         acc := if b.left == 1 then [] else b.acc })
            | none => s
          s.walk c it.tag bwd
        else
          let acc := if fu then [] else q.addPanel b.acc (it.panel * it.w) (it.panel * it.w + it.w) it.k0 it.k1
          let b := { b with acc := acc, left := b.left - 1 }
          let p := p.setBlock b
          let s := s.setPart c p
          let s := if b.left == 0 then s.phaseDone c p k b (if fu then [] else q.finish acc) else s
          s.walk c it.tag bwd
    | _, _ => s
  | _, _ => s

/-! ### Horizons and close notices (R148, R179) -/

/-- Items that a row block would still have had posted after its present phase (R179). -/
def State.laterItems (s : State) (c : Nat) (bwd : Bool) (b : RowBlock) : Nat :=
  let down := (s.hidden c + 255) / 256
  let mid := (s.inner c + 255) / 256
  if b.kind != 0 then 0
  else if bwd then
    (if b.phase < 2 then 1 else 0) + (if b.phase < 3 then mid else 0) + (if b.phase < 4 then 1 else 0)
      + (if b.phase < 6 then down else 0)
  else if b.phase == 1 then down else 0

/-- Will the items that tiles have started finish a row block's answer: its last phase, with none unstarted (R179)? -/
def RowBlock.finishes (b : RowBlock) (bwd : Bool) (waiting : Bool) : Bool :=
  b.phase == 9 || b.phase == 8 || (b.kind != 0 && !waiting) || (b.phase == (if bwd then 6 else 2) && !waiting)

/-- Landed records discarded: credits owed for their flits go to their senders (R148). -/
def State.creditDiscards (s : State) (c : Nat) (l : List (Record × Nat)) : State :=
  l.foldl
    (fun s r =>
      let o := s.owedTo c r.2 false
      let n := min o.flits (flitsOf (recLen r.1))
      (s.setOwed c { o with flits := o.flits - n }).creditBack c r.2 n) s

/-- A part ends (R148, R179): nothing further of it is posted, unstarted items are skipped, rows of row blocks that cannot
finish are discarded, and landing buffers return. -/
def State.stopPart (s : State) (c tag : Nat) (bwd : Bool) : State :=
  match (s.ctx c).part tag bwd with
  | none => s
  | some p =>
    let mine (i : Item) : Bool := i.ctx == c && i.tag == tag && i.kind == (if bwd then 1 else 0)
    let kindOf (i : Item) : Nat := if bwd && (i.phase == 5 || i.phase == 7) then i.phase else 0
    let waits (b : RowBlock) : Bool :=
      s.items.any fun i => mine i && i.tile.isNone && kindOf i == b.kind && i.group == b.expert && i.rb == b.rb
    let dead := p.blocks.filter fun b => !b.finishes bwd (waits b)
    let skipped := (s.items.filter fun i => mine i && i.tile.isNone).length
      + (dead.map (s.laterItems c bwd)).foldl (· + ·) 0
    let s := { s with items := s.items.filter fun i => !(mine i && i.tile.isNone) }
    let s := s.cbump c O_ITEMS_SKIPPED skipped
    let isDead (b : RowBlock) : Bool := dead.any fun d => d.kind == b.kind && d.expert == b.expert && d.rb == b.rb
    let deadRows := ((dead.filter (·.kind == 0)).map (·.rows)).flatten
    let q := { p with
      past := true
      joined := p.recs.length
      blocks := p.blocks.map fun b => if isDead b then { b with phase := 8 } else b
      rows := p.rows.zipIdx.map fun r =>
        if r.1.block.isNone || deadRows.contains r.2 then { r.1 with gone := true, live := false } else r.1 }
    let lost := (p.recs.zipIdx.filter fun v => p.recLive v.2 v.1.1 && !q.recLive v.2 v.1.1).map (·.1)
    let s := s.creditDiscards c lost
    ((s.setPart c q).shrinkLanding c q).finishPart c tag bwd

/-- A close notice removes one source's share (R148, R179): its rows not in a started row block are discarded, or stay in
their row blocks as padding. -/
def State.stopSource (s : State) (c tag : Nat) (bwd : Bool) (src : Nat) : State :=
  match (s.ctx c).part tag bwd with
  | none => s
  | some p =>
    let ofSrc (r : LandedRow) : Bool := (p.recOf r).hdr.srcNode == src
    let waiting (r : LandedRow) : Bool :=
      match r.block with
      | none => false
      | some rb => (p.block 0 r.expert rb).any fun b => !b.started && b.phase < 8
    let pad := (p.rows.filter fun r => ofSrc r && !r.gone && waiting r).length
    let flows := if p.flows.any (·.src == src) then
        p.flows.map fun f => if f.src == src then { f with closed := true } else f
      else p.flows ++ [⟨src, 0, 0, none, true⟩]
    let q := { p with
      flows := flows
      rows := p.rows.map fun r =>
        if ofSrc r && !r.gone && r.block.isNone then { r with gone := true, live := false }
        else if ofSrc r && !r.gone && waiting r then { r with gone := true, live := false }
        else r }
    let lost := (p.recs.zipIdx.filter fun v => p.recLive v.2 v.1.1 && !q.recLive v.2 v.1.1).map (·.1)
    let s := (s.cbump c O_PAD_ROWS pad).creditDiscards c lost
    (s.setPart c q).shrinkLanding c q

end Sys2Proof.Machine
end

