-- ==== Sys2Proof/Machine/Exchange.lean ====
section
/-! DEFINITION. The exchange (R125 to R156): flows, landing credits, relays, markers, landing, refusals, close notices and
horizons; and the matching of returns at the source (R215 to R222). -/

namespace Sys2Proof.Machine

open Sys2Proof

/-! ### Landing credits at the sender (R137) -/

/-- The node that traffic to a node goes to: the node, or the twin that has taken it over (R153, R469). -/
def State.via (s : State) (n : Nat) : Nat := ((s.redirects.find? fun p => p.1 == n).map (·.2)).getD n

/-- Does a dead node whose twin has not taken over stop flows towards it (R153)? -/
def State.deadEnd (s : State) (n : Nat) : Bool := s.nodeDead n && !s.redirects.any fun p => p.1 == n

/-- Landing credits held towards a node; LANDING_CREDITS before any use (R137). -/
def State.credit (s : State) (c n : Nat) : Nat :=
  (((s.ctx c).credits.find? fun p => p.1 == n).map (·.2)).getD (s.cget c O_LANDING_CREDITS)

/-- Landing credits towards a node set. -/
def State.setCredit (s : State) (c n v : Nat) : State :=
  s.modCtx c fun x => { x with credits := x.credits.filter (fun p => p.1 != n) ++ [(n, v)] }

/-! ### Flows of a window (R131 to R133) -/

/-- A flow not yet started. -/
def mkFlow (node : Nat) (relay : Bool) (first count : Nat) : Flow := ⟨node, relay, first, count, 0, 0, false, false, 0⟩

/-- Members that get an empty marker (R133), relays marked. -/
def State.emptyDests (s : State) (c : Nat) (have_ : List Nat) : List (Nat × Bool) :=
  let ms := s.members c
  if s.cget c O_EXCHANGE_MODE == 0 then (ms.filter fun n => !have_.contains n).map fun n => (n, false)
  else
    let own := rackOf (s.nodeOf c)
    let racks := (sortAsc ((ms.map rackOf).filter (· != own))).eraseDups
    let reached (r : Nat) : Bool := have_.any fun n => rackOf n == r
    ((ms.filter fun n => rackOf n == own && !have_.contains n).map fun n => (n, false))
      ++ (racks.filter fun r => !reached r).map fun r => (r * 64 + slotOf (s.nodeOf c), true)

/-- The flows of a window in the order in which XE starts them (R131, R133). -/
def State.flowsOf (s : State) (c : Nat) (w : Window) : List Flow :=
  let t := w.nodeTable.filter (fun e => e.node > s.nodeOf c) ++ w.nodeTable.filter (fun e => !(e.node > s.nodeOf c))
  t.map (fun e => mkFlow e.node e.relay e.first e.count)
    ++ (s.emptyDests c (w.nodeTable.map (·.node))).map fun d => mkFlow d.1 d.2 0 0

/-- The gate block of a backward record: the FP32 gates of its copies in order (R112, R122). -/
def Window.gateBlock (w : Window) (h : RecHeader) : Bytes :=
  if w.bwd then
    let es := ((w.ledger.bind fun l => l.toks[h.token]?).map (·.copies)).getD []
    let gates := h.copies.map fun k => ((es.find? fun e => copyBack e && e.expert == k.expert).map (·.gate)).getD 0
    (fp32Bytes gates ++ List.replicate 32 0).take 32
  else []

/-- Record `i` of a window as it is assembled on the wire (R114, R131). -/
def Window.record (w : Window) (i : Nat) : Record :=
  let h := w.headers.getD i ⟨0, 0, 0, 0, 0, 0, 0, []⟩
  ⟨h, ((w.quant.bind fun q => q.payloads[h.token]?).getD []) ++ w.gateBlock h⟩

/-- Is there a path for a flow (R127, R151)? -/
def State.flowPath (s : State) (w : Window) (f : Flow) : Bool :=
  if f.relay then s.pathToRelay (s.via f.node) ((w.nodeTable.find? fun e => e.node == f.node).any (·.alt))
  else s.pathTo (s.via f.node)

/-- Flits of 256 bytes of a flow of a window. -/
def Window.flowFlits (w : Window) (f : Flow) : Nat := flitsOf (f.count * w.recLen)

/-- What pumping the flows of a window gives: the flows, how many are open, and whether a D2 step lost one (R151). -/
structure Pumped where
  st : State
  flows : List Flow
  opened : Nat
  lost : Bool
deriving DecidableEq, Repr

/-- One flow pumped (R131, R132, R137): flits leave as landing credit allows, and the marker after the last record. -/
def Pumped.flow (r : Pumped) (c : Nat) (w : Window) (f : Flow) : Pumped :=
  let s := r.st
  let keep (f : Flow) (n : Nat) : Pumped := { r with flows := r.flows ++ [f], opened := r.opened + n }
  if f.stopped || f.markerSent || r.lost || r.opened ≥ s.cget c O_FLOWS_ACTIVE then keep f 0
  else if s.deadEnd f.node then { keep f 0 with lost := s.det c == 2 }
  else if !s.flowPath w f then
    { keep { f with stopped := true } 0 with st := s.craise c O_EXCHANGE_FLAGS 0, lost := s.det c == 2 }
  else
    let n := s.via f.node
    let total := w.flowFlits f
    let k := min (total - f.flits) (s.credit c n)
    let flits := f.flits + k
    let sent := if flits == total then f.count else flits * 256 / w.recLen
    let s := if k == 0 then s else s.setCredit c n (s.credit c n - k)
    let s := s.emits ((List.range (sent - f.sent)).map fun j => .record n (w.record (f.first + f.sent + j)))
    let s := s.cbump c O_RECORDS_SENT (sent - f.sent)
    let done := flits == total
    let s := if done then
        s.emit (.marker n ⟨w.tag, s.nodeOf c, c, mkFlags (if w.bwd then 1 else 0) true false f.relay false, f.count, 1, 0⟩)
      else s
    { r with
      st := s
      flows := r.flows ++ [{ f with flits := flits, sent := sent, markerSent := done }]
      opened := r.opened + (if done then 0 else 1) }

/-- A D2 window has lost a flow (R151): SEND_ABORTED. -/
def State.sendAborted (s : State) (c : Nat) (w : Window) : State :=
  (s.craise c O_EXCHANGE_FLAGS 1).endStep c 0x37 (some w)

/-- Are the flows of a window under way? -/
def Window.sends (w : Window) : Bool := w.phase == .sending

/-- The flows of a window pumped. -/
def State.pumpWindow (s : State) (c : Nat) (w : Window) : State :=
  let r := w.flows.foldl (fun r f => Pumped.flow r c w f) ⟨s, [], 0, false⟩
  let w := { w with flows := r.flows }
  let s := r.st.modCtx c fun x => x.setWin w
  if r.lost then s.sendAborted c w else s

/-! ### Relays (R129, R130, R133) -/

/-- The flow of a source's window at a relay. -/
def Ctx.relayFlow (x : Ctx) (tag : Nat) (bwd : Bool) (src : Nat) : RelayFlow :=
  (x.relayFlows.find? fun f => f.tag == tag && f.bwd == bwd && f.src == src).getD ⟨tag, bwd, src, 0, none, [], [], false⟩

/-- The flow of a source's window at a relay set. -/
def Ctx.setRelayFlow (x : Ctx) (f : RelayFlow) : Ctx :=
  { x with relayFlows :=
      x.relayFlows.filter (fun v => !(v.tag == f.tag && v.bwd == f.bwd && v.src == f.src)) ++ [f] }

/-- A count kept by node. -/
def countOf (l : List (Nat × Nat)) (n : Nat) : Nat := ((l.find? fun p => p.1 == n).map (·.2)).getD 0

/-- One record made by a relay leaves as its flits find credit (R130, R137). -/
def State.pumpOut (s : State) (c : Nat) (o : RelayOut) : State × RelayOut :=
  let n := s.via o.node
  if o.left == 0 || s.deadEnd o.node then (s, o)
  else if !s.pathTo n then (s.craise c O_EXCHANGE_FLAGS 0, { o with left := 0, uncov := 0 })
  else
    let k := min o.left (s.credit c n)
    let s := if k == 0 then s else s.setCredit c n (s.credit c n - k)
    let s := if o.left == k then s.emit (.record n o.record) else s
    (s, { o with left := o.left - k })

/-- The records of a held one pumped. -/
def State.pumpHeld (s : State) (c : Nat) (h : RelayHeld) : State × RelayHeld :=
  let r := h.outs.foldl (fun (a : State × List RelayOut) o => let v := a.1.pumpOut c o; (v.1, a.2 ++ [v.2])) (s, [])
  (r.1, { h with outs := r.2 })

/-- Held records whose copies are all covered leave the relay pool (R130). -/
def State.freeHeld (s : State) (c : Nat) : State :=
  let x := s.ctx c
  let l := x.relayHeld.filter fun h => !h.outs.all fun o => o.left == 0 && o.uncov == 0
  if l.length == x.relayHeld.length then s
  else
    let s := s.modCtx c fun x => { x with relayHeld := l }
    let holders := ((x.relayHeld.map fun h => h.tag + (if h.bwd then 2 ^ 32 else 0))).eraseDups
    holders.foldl
      (fun s q =>
        let x := s.ctx c
        let bytes := ((x.relayHeld.filter fun h => h.tag + (if h.bwd then 2 ^ 32 else 0) == q).map (·.bytes)).foldl (· + ·) 0
        s.shrinkUse c q 3 (s.bufsFor c 3 (bytes + x.waitBytes q true))) s

/-- What waits to be sent for a context: a window by tag and direction, or held record number `i`, with its key (R140). -/
def State.sendJobs (s : State) (c : Nat) : List (List Nat × Nat × Bool × Option Nat) :=
  let x := s.ctx c
  let ws : List (List Nat × Nat × Bool × Option Nat) :=
    (x.windows.filter fun (w : Window) => w.sends && !w.deadlineDue s.beat).map fun w =>
      (w.orderKey c, w.tag, w.bwd, none)
  let hs : List (List Nat × Nat × Bool × Option Nat) := x.relayHeld.zipIdx.map fun h =>
    ([((x.part h.1.tag h.1.bwd).map (·.horizon)).getD 0, c, h.1.tag % 2, 0], h.1.tag, h.1.bwd, some h.2)
  (ws ++ hs).foldl
    (fun acc j =>
      (acc.takeWhile fun v => !keyLt j.1 v.1) ++ [j] ++ (acc.dropWhile fun v => !keyLt j.1 v.1)) []

/-- Everything that waits to be sent for a context pumped in the order of R140. -/
def State.pump (s : State) (c : Nat) : State :=
  let s := (s.sendJobs c).foldl
    (fun s j =>
      match j.2.2.2 with
      | none =>
        match (s.ctx c).findWin j.2.1 j.2.2.1 with
        | some w => if w.sends then s.pumpWindow c w else s
        | none => s
      | some i =>
        match (s.ctx c).relayHeld[i]? with
        | some h =>
          let r := s.pumpHeld c h
          r.1.modCtx c fun x => { x with relayHeld := x.relayHeld.set i r.2 }
        | none => s) s
  s.freeHeld c

/-! ### SEND and the return of send buffers (R131, R149) -/

/-- Is record `i` of a window covered by landing credit? -/
def Window.recCovered (w : Window) (i : Nat) : Bool :=
  w.flows.any fun f => f.first ≤ i && i < f.first + f.count && f.markerSent
    && (f.covered == w.flowFlits f || (i - f.first + 1) * w.recLen ≤ f.covered * 256)

/-- Send buffers that hold nothing but covered records go back (R149). -/
def State.trimSend (s : State) (c : Nat) (w : Window) : State :=
  let size := s.bufSize (s.poolFor c 1)
  let per := max 1 (size / max 1 ((w.quant.map fun q => (q.payloads.headD []).length).getD 1))
  let open_ := w.headers.zipIdx.filter fun v => !w.recCovered v.2
  let pay := ((open_.map fun v => v.1.token / per).eraseDups).length
  let hdr := ((open_.map fun v => 32 * v.2 / max 1 size).eraseDups).length
  (s.shrinkUse c w.holder 1 pay).shrinkUse c w.holder 8 (hdr + max 1 (s.bufsFor c 8 (16 * w.nodeTable.length)))

/-- XE takes a window's send list (R131, R133, R139); a copy whose rack cannot be reached has no flow (R100, R151). -/
def sendWindow (s : State) (c : Nat) (w : Window) : State :=
  let w := { w with flows := s.flowsOf c w, phase := .sending }
  let s := s.modCtx c fun x => x.setWin w
  let bad := s.lacksHop c w
  let s := if bad then s.craise c O_EXCHANGE_FLAGS 0 else s
  if bad && s.det c == 2 then s.sendAborted c w
  else
    let s := s.pump c
    let s := match (s.ctx c).findWin w.tag w.bwd with
      | some v => if v.sends then s.trimSend c v else s
      | none => s
    s.combine c w.tag w.bwd

/-- SEND (R131): the send list and the return area are there, and XE starts the flows. -/
def execSend (c tag : Nat) (s : State) : Host.Outcome State Fault Refusal :=
  finish s <|
    match (s.ctx c).inPhase tag .sorted with
    | some w => if s.live w && !s.waits c w.holder 9 then sendWindow s c w else s
    | none => s

/-- Flits of a grant spread over the flows of a window that wait for cover. -/
def coverFlows (node : Nat) (via : Nat → Nat) : Nat → List Flow → Nat × List Flow
  | n, [] => (n, [])
  | n, f :: r =>
    let k := if via f.node == node then min n (f.flits - f.covered) else 0
    let v := coverFlows node via (n - k) r
    (v.1, { f with covered := f.covered + k } :: v.2)

/-- Flits of a grant spread over the records that a relay has sent on. -/
def coverOuts (node : Nat) (via : Nat → Nat) : Nat → List RelayOut → Nat × List RelayOut
  | n, [] => (n, [])
  | n, o :: r =>
    let k := if via o.node == node then min n (o.uncov - o.left) else 0
    let v := coverOuts node via (n - k) r
    (v.1, { o with uncov := o.uncov - k } :: v.2)

/-- LANDING_CREDIT_GRANT (R137, R149): credits towards a receiver arrive; they cover what has left, and waiting flits
leave. -/
def takeGrant (s : State) (c node n : Nat) : State :=
  let s := s.setCredit c node (s.credit c node + n)
  let r := ((s.ctx c).windows).foldl
    (fun (a : State × Nat) (w : Window) =>
      if !w.sends then a
      else
        let v := coverFlows node s.via a.2 w.flows
        let w := { w with flows := v.2 }
        ((a.1.modCtx c fun x => x.setWin w).trimSend c w, v.1)) (s, n)
  let h := ((r.1.ctx c).relayHeld).foldl
    (fun (a : Nat × List RelayHeld) h =>
      let v := coverOuts node s.via a.1 h.outs
      (v.1, a.2 ++ [{ h with outs := v.2 }])) (r.2, [])
  (r.1.modCtx c fun x => { x with relayHeld := h.2 }).pump c

/-- LANDING_CREDIT_GRANT (R137). -/
def execLandingCreditGrant (c node flits : Nat) (s : State) : Host.Outcome State Fault Refusal :=
  finish s (if s.coreUp && s.cstate c != 0 then takeGrant s c node flits else s)

/-! ### Acceptance at the receiver (R148, R151, R152) -/

/-- Does the receiver take dispatch traffic of a context from a source (R151, REMOTE_REFUSED)? -/
def State.takes (s : State) (c src : Nat) : Bool := s.working c && (s.members c).contains src

/-- Flits that the `n`-th record of a flow completes or begins: records are packed back to back (R131). -/
def flitsAt (n len : Nat) : Nat := flitsOf (n * len) - flitsOf ((n - 1) * len)

/-- A record from a source that is not taken (R152): counted, its credit granted, one refusal notice for each batch tag. -/
def refuseRecord (s : State) (c : Nat) (r : Record) (sender : Nat) : State :=
  let old := (s.ctx c).refusedTags.find? fun p => p.1 == r.hdr.tag && p.2.1 == r.hdr.srcNode
  let n := (old.map (·.2.2)).getD 0 + 1
  let s := s.modCtx c fun x =>
    { x with refusedTags := x.refusedTags.filter (fun p => !(p.1 == r.hdr.tag && p.2.1 == r.hdr.srcNode))
        ++ [(r.hdr.tag, r.hdr.srcNode, n)] }
  let s := (if s.cstate c == 0 then s else s.cbump c O_FOREIGN_RECORDS 1).creditBack c sender (flitsAt n (recLen r))
  if old.isSome then s else s.emit (.refusal r.hdr.srcNode r.hdr.tag)

/-- A window part at this destination, made when the first record or marker of its tag arrives: it sets the horizon (R148).
A close notice that came before counts for it. -/
def State.ensurePart (s : State) (c tag : Nat) (bwd : Bool) : State :=
  if ((s.ctx c).part tag bwd).isSome then s
  else
    let early := ((s.ctx c).closedEarly.filter fun p => p.1 == tag).map (·.2)
    let p : Part :=
      { tag := tag, bwd := bwd, horizon := s.beat + s.cget c O_DEADLINE_BEATS, past := false
        flows := early.map fun n => ⟨n, 0, 0, none, true⟩
        recs := [], joined := 0, rows := [], blocks := [], posted := [0, 0, 0, 0, 0], nextBlock := 0, firstItem := none
        itemsRun := 0, rowsRun := 0, complete := false, waitingStage := false, absent := false, groups := []
        added := [], done := false }
    s.modCtx c fun x =>
      { x with parts := x.parts ++ [p], closedEarly := x.closedEarly.filter fun v => v.1 != tag }

/-- The flow of a source in a part. -/
def Part.flow (p : Part) (src : Nat) : SrcFlow := (p.flows.find? fun f => f.src == src).getD ⟨src, 0, 0, none, false⟩

/-- The flow of a source in a part set. -/
def Part.setFlow (p : Part) (f : SrcFlow) : Part :=
  if p.flows.any fun v => v.src == f.src then { p with flows := p.flows.map fun v => if v.src == f.src then f else v }
  else { p with flows := p.flows ++ [f] }

/-- Is a flow complete (R134)? -/
def SrcFlow.complete (f : SrcFlow) : Bool :=
  match f.marker with
  | some n => f.landed ≥ n
  | none => false

/-- A part is complete once every member's flow is (R134). -/
def State.checkComplete (s : State) (c tag : Nat) (bwd : Bool) : State :=
  match (s.ctx c).part tag bwd with
  | none => s
  | some p =>
    if p.complete || p.past || !(s.members c).all (fun n => (p.flow n).complete) then s
    else s.setPart c { p with complete := true }

/-! ### Landing (R135, R137, R145, R151) -/

/-- Copies of a record whose final node is not this one (R151). -/
def State.misrouted (s : State) (c : Nat) (r : Record) : Nat := (r.hdr.copies.filter fun k => k.slot != slotOf (s.nodeOf c)).length

/-- RELAY_MISROUTE counted, and raised once for a record. -/
def State.countMisroute (s : State) (c n : Nat) : State :=
  if n == 0 then s else (s.cbump c O_MISROUTED_COPIES n).craise c O_EXCHANGE_FLAGS 4

/-- STREAM_GAP (R135). -/
def State.streamGap (s : State) (c : Nat) : State := (s.cbump c O_STREAM_GAP_COUNT 1).craise c O_EXCHANGE_FLAGS 2

/-- A record for which the landing pool has buffers lands (R137). -/
def landNow (s : State) (c : Nat) (r : Record) (sender : Nat) : State :=
  let tag := r.hdr.tag
  let bwd := recKind r.hdr == 1
  match (s.ctx c).part tag bwd with
  | none => s
  | some p =>
    let f := p.flow r.hdr.srcNode
    let f := { f with landed := f.landed + 1 }
    let s := (s.countMisroute c (s.misrouted c r)).cbump c O_RECORDS_LANDED 1
    let s := s.setPart c { p.setFlow f with recs := p.recs ++ [(r, sender)] }
    let s := s.passFlits c sender false (flitsAt f.landed (recLen r))
    (s.checkComplete c tag bwd).walk c tag bwd

/-- Bytes that a relay holds for a holder. -/
def Ctx.heldBytes (x : Ctx) (holder : Nat) : Nat :=
  ((x.relayHeld.filter fun h => h.tag + (if h.bwd then 2 ^ 32 else 0) == holder).map (·.bytes)).foldl (· + ·) 0

/-- Bytes of a holder in its landing or relay pool. -/
def State.poolLive (s : State) (c : Nat) (r : Record) (relay : Bool) : Nat :=
  if relay then (s.ctx c).heldBytes (recHolder r)
  else (((s.ctx c).part r.hdr.tag (recKind r.hdr == 1)).map Part.liveBytes).getD 0

/-- Has the pool buffers in hand for a record? -/
def State.roomFor (s : State) (c : Nat) (r : Record) (relay : Bool) : Bool :=
  let role := if relay then 3 else 2
  s.bufsFor c role (s.poolLive c r relay + recLen r) ≤ s.held (s.poolFor c role) c (recHolder r) role

/-- Buffers asked for a record, beside what its holder has and waits for (R286). -/
def State.askFor (s : State) (c : Nat) (r : Record) (relay : Bool) : State :=
  let role := if relay then 3 else 2
  let h := recHolder r
  let have_ := s.held (s.poolFor c role) c h role + s.wanted c h role
  let need_ := s.bufsFor c role (s.poolLive c r relay + (s.ctx c).waitBytes h relay + recLen r)
  let key := match (s.ctx c).part r.hdr.tag (recKind r.hdr == 1) with
    | some p => p.key c
    | none => [s.beat, c, r.hdr.tag % 2]
  s.request c h role key (need_ - have_)

/-! ### Relaying (R129, R151) -/

/-- Does a RELAY record's copy belong at this relay: the rack of its expert, and a member's slot (R151)? -/
def State.relayable (s : State) (c : Nat) (bwd : Bool) (k : CopyRef) : Bool :=
  (bwd || mapRack ((s.ctx c).map.getD k.expert 0) == rackOf (s.nodeOf c))
    && (s.members c).contains (rackOf (s.nodeOf c) * 64 + k.slot)

/-- The records that a relay makes of a record (R129): one for each final node, copies in their received order. -/
def splitRecord (rack : Nat) (f : RelayFlow) (r : Record) (copies : List CopyRef) : List (Nat × Record) :=
  let gates := if recKind r.hdr == 1 then chunks 4 (r.payload.drop (r.payload.length - 32)) else []
  let body := if recKind r.hdr == 1 then r.payload.take (r.payload.length - 32) else r.payload
  ((copies.map (·.slot)).eraseDups).map fun slot =>
    let node := rack * 64 + slot
    let mine := r.hdr.copies.zipIdx.filter fun k => k.1.slot == slot && copies.contains k.1
    let cont := f.tokens.contains (r.hdr.token, node)
    let block := if recKind r.hdr == 1 then
        ((mine.map fun (k : CopyRef × Nat) => gates.getD k.2 []).flatten ++ List.replicate 32 0).take 32
      else []
    (node, ⟨{ r.hdr with flags := mkFlags (recKind r.hdr) false cont false false, copies := mine.map (·.1) }, body ++ block⟩)

/-- The forwarded markers of a source's window, once every record that its marker counts has been split and has left
(R133). -/
def State.forwardMarkers (s : State) (c tag : Nat) (bwd : Bool) (src : Nat) : State :=
  let x := s.ctx c
  let f := x.relayFlow tag bwd src
  let pending := x.relayHeld.any fun h => h.tag == tag && h.bwd == bwd && h.src == src && h.outs.any fun o => o.left != 0
  let waiting := x.landWait.any fun v =>
    v.1.hdr.tag == tag && v.1.hdr.srcNode == src && (recKind v.1.hdr == 1) == bwd && recFlag v.1.hdr 2
  match f.marker with
  | none => s
  | some n =>
    if f.done || f.received < n || pending || waiting then s
    else
      let dsts := (s.members c).filter fun m => rackOf m == rackOf (s.nodeOf c)
      let s := s.emits (dsts.map fun m => .marker m
        ⟨tag, src, c, mkFlags (if bwd then 1 else 0) true false false false, countOf f.made m, 2, s.nodeOf c⟩)
      s.modCtx c fun x => x.setRelayFlow { f with done := true }

/-- A RELAY record that has found relay buffers is split, and what it gives is sent on (R129, R130). -/
def relayNow (s : State) (c : Nat) (r : Record) (sender : Nat) : State :=
  let tag := r.hdr.tag
  let bwd := recKind r.hdr == 1
  let src := r.hdr.srcNode
  let good := r.hdr.copies.filter (s.relayable c bwd)
  let s := s.countMisroute c (r.hdr.copies.length - good.length)
  let f := (s.ctx c).relayFlow tag bwd src
  let f := { f with received := f.received + 1 }
  let outs := splitRecord (rackOf (s.nodeOf c)) f r good
  let made := outs.foldl (fun m o => m.filter (fun p => p.1 != o.1) ++ [(o.1, countOf m o.1 + 1)]) f.made
  let held : RelayHeld := ⟨tag, bwd, src, recLen r, outs.map fun o =>
    let n := flitsAt (countOf made o.1) (recLen o.2)
    ⟨o.1, o.2, n, n⟩⟩
  let s := s.modCtx c fun x =>
    { x.setRelayFlow { f with made := made, tokens := f.tokens ++ outs.map fun o => (r.hdr.token, o.1) } with
      relayHeld := x.relayHeld ++ [held] }
  let s := s.cbump c O_RECORDS_RELAYED outs.length
  s.passFlits c sender true (flitsAt f.received (recLen r))

/-- Records that wait for buffers taken in, first come first, as far as the buffers reach; `n` bounds how many. -/
def State.landWaiting (s : State) (c : Nat) : Nat → State
  | 0 => s
  | n + 1 =>
    match (s.ctx c).landWait.find? fun v => s.roomFor c v.1 (recFlag v.1.hdr 2) with
    | none => s
    | some v =>
      let s := s.modCtx c fun x => { x with landWait := x.landWait.eraseP fun u => u == v }
      let s := if recFlag v.1.hdr 2 then relayNow s c v.1 v.2 else landNow s c v.1 v.2
      State.landWaiting s c n

/-- What a context sends and works on once buffers have been granted. -/
def State.afterGrant (s : State) (c : Nat) : State :=
  let s := s.landWaiting c (s.ctx c).landWait.length
  let flows := (s.ctx c).relayFlows.map fun f => (f.tag, f.bwd, f.src)
  let s := s.pump c
  let s := flows.foldl (fun s f => s.forwardMarkers c f.1 f.2.1 f.2.2) s
  s.combineAll c

/-- BUFFER_GRANT (R286): a freed buffer is handed to the first waiting request in key order, and what waited goes on. -/
def execBufferGrant (p : Nat) (s : State) : Host.Outcome State Fault Refusal :=
  finish s <|
    match (s.pool p).waits with
    | [] => s
    | w :: _ => if s.coreUp then (grantOne s p).afterGrant w.ctx else s

/-! ### Records and markers as they arrive -/

/-- A dispatch record without RELAY arrives (R134, R135, R148, R152). -/
def takeRecord (s : State) (r : Record) (sender : Nat) : State :=
  let c := r.hdr.srcCtx
  let tag := r.hdr.tag
  let bwd := recKind r.hdr == 1
  if !s.takes c r.hdr.srcNode then refuseRecord s c r sender
  else
    let s := s.ensurePart c tag bwd
    match (s.ctx c).part tag bwd with
    | none => s
    | some p =>
      let f := p.flow r.hdr.srcNode
      let f := { f with seen := f.seen + 1 }
      let p := p.setFlow f
      let s := s.setPart c p
      if p.past || f.closed then
        (s.cbump c O_LATE_RECORDS_RX 1).creditBack c sender (flitsAt f.seen (recLen r))
      else if f.complete then s.streamGap c
      else
        let s := s.askFor c r false
        if !((s.ctx c).landWait.any fun v => recHolder v.1 == recHolder r) && s.roomFor c r false then landNow s c r sender
        else s.modCtx c fun x => { x with landWait := x.landWait ++ [(r, sender)] }

/-- DISPATCH_RECORD (R137): a dispatch record for this engine. -/
def execDispatchRecord (r : Record) (sender : Nat) (s : State) : Host.Outcome State Fault Refusal :=
  finish s (if s.coreUp && recKind r.hdr < 2 && !recFlag r.hdr 2 then takeRecord s r sender else s)

/-- A RELAY record arrives at its relay (R129, R148). -/
def takeRelay (s : State) (r : Record) (sender : Nat) : State :=
  let c := r.hdr.srcCtx
  let tag := r.hdr.tag
  let bwd := recKind r.hdr == 1
  if !s.takes c r.hdr.srcNode then refuseRecord s c r sender
  else
    let s := s.ensurePart c tag bwd
    let f := (s.ctx c).relayFlow tag bwd r.hdr.srcNode
    if f.done then
      let s := s.modCtx c fun x => x.setRelayFlow { f with received := f.received + 1 }
      (s.cbump c O_LATE_RECORDS_RX 1).creditBack c sender (flitsAt (f.received + 1) (recLen r))
    else
      let s := s.askFor c r true
      if !((s.ctx c).landWait.any fun v => recHolder v.1 == recHolder r && recFlag v.1.hdr 2) && s.roomFor c r true then
        (relayNow s c r sender).pump c
      else s.modCtx c fun x => { x with landWait := x.landWait ++ [(r, sender)] }

/-- RELAY_RECORD (R129): a record with RELAY set. -/
def execRelayRecord (r : Record) (sender : Nat) (s : State) : Host.Outcome State Fault Refusal :=
  finish s (if s.coreUp && recKind r.hdr < 2 && recFlag r.hdr 2 then takeRelay s r sender else s)

/-- FORWARDED_MARKER (R133): every record that a source's marker counts has been forwarded. -/
def execForwardedMarker (c tag src : Nat) (s : State) : Host.Outcome State Fault Refusal :=
  finish s <|
    if s.coreUp && s.working c then (s.forwardMarkers c tag false src).forwardMarkers c tag true src else s

/-- An end-of-send marker arrives (R132 to R135). -/
def takeMarker (s : State) (m : Marker) : State :=
  let c := m.srcCtx
  let bwd := m.flags / 8 % 4 == 1
  if !s.takes c m.srcNode then s
  else
    let s := s.ensurePart c m.tag bwd
    if m.flags / 4 % 2 == 1 then
      let f := (s.ctx c).relayFlow m.tag bwd m.srcNode
      if f.done then s
      else if f.marker.isSome then s.streamGap c
      else s.modCtx c fun x => x.setRelayFlow { f with marker := some m.count }
    else
      match (s.ctx c).part m.tag bwd with
      | none => s
      | some p =>
        let f := p.flow m.srcNode
        if p.past || f.closed then s
        else if f.marker.isSome then s.streamGap c
        else
          let s := if f.landed > m.count then s.streamGap c else s
          let s := s.setPart c (p.setFlow { f with marker := some m.count })
          (s.checkComplete c m.tag bwd).walk c m.tag bwd

/-- END_OF_SEND_MARKER_RX (R134): an end-of-send marker arrives. -/
def execEndOfSendMarkerRx (m : Marker) (s : State) : Host.Outcome State Fault Refusal :=
  finish s (if s.coreUp then takeMarker s m else s)

/-! ### Refusals, close notices, horizons -/

/-- The flows of a window to a node stopped. -/
def stopFlows (node : Nat) (fs : List Flow) : List Flow :=
  fs.map fun f => if f.node == node && !f.markerSent then { f with stopped := true } else f

/-- A refusal notice arrives at the source (R151, R152). -/
def takeRefusal (s : State) (c tag node : Nat) : State :=
  let s := s.craise c O_EXCHANGE_FLAGS 3
  match (s.ctx c).windows.find? fun w => w.tag == tag && w.sends with
  | none => s
  | some w =>
    let w := { w with flows := stopFlows node w.flows }
    let s := s.modCtx c fun x => x.setWin w
    if s.det c == 2 then s.sendAborted c w else s.pump c

/-- REMOTE_REFUSED (R151). -/
def execRemoteRefused (c tag node : Nat) (s : State) : Host.Outcome State Fault Refusal :=
  finish s (if s.coreUp && s.cstate c != 0 then takeRefusal s c tag node else s)

/-- Records that wait for buffers and meet a test are discarded, their credit going back (R148). -/
def State.dropWaiting (s : State) (c : Nat) (holder : Nat) (relay : Bool) (gone : Record → Bool) : State :=
  let hit (v : Record × Nat) : Bool := recHolder v.1 == holder && recFlag v.1.hdr 2 == relay && gone v.1
  let l := (s.ctx c).landWait.filter hit
  if l.isEmpty then s
  else
    let s := s.modCtx c fun x => { x with landWait := x.landWait.filter fun v => !hit v }
    let s := l.foldl (fun s v => (s.cbump c O_LATE_RECORDS_RX 1).creditBack c v.2 (flitsOf (recLen v.1))) s
    if (s.ctx c).waitBytes holder relay == 0 then s.dropWaits c holder (if relay then 3 else 2) else s

/-- A close notice at a relay (R147): held records of the source are discarded, and the notice goes to the members of the
rack. -/
def closeRelay (s : State) (c tag src : Nat) : State :=
  let mine (h : RelayHeld) : Bool := h.tag == tag && h.src == src
  let gone := (s.ctx c).relayHeld.filter mine
  let s := gone.foldl
    (fun s h =>
      let o := s.owedTo c src true
      let n := min o.flits (flitsOf h.bytes)
      (s.setOwed c { o with flits := o.flits - n }).creditBack c src n) s
  let s := s.modCtx c fun x =>
    { x with
      relayHeld := x.relayHeld.map fun h =>
        if mine h then { h with outs := h.outs.map fun (o : RelayOut) => { o with left := 0, uncov := 0 } } else h
      relayFlows := x.relayFlows.map fun f => if f.tag == tag && f.src == src then { f with done := true } else f }
  let s := if (s.ctx c).relayFlows.any fun f => f.tag == tag && f.src == src then s
    else s.modCtx c fun x => x.setRelayFlow ⟨tag, false, src, 0, none, [], [], true⟩
  let s := (s.dropWaiting c tag true fun r => r.hdr.srcNode == src).dropWaiting c (tag + 2 ^ 32) true
    fun r => r.hdr.srcNode == src
  let s := s.freeHeld c
  s.emits (((s.members c).filter fun m => rackOf m == rackOf (s.nodeOf c)).map fun m => .close m tag src false)

/-- A close notice at a destination (R148). -/
def closeSource (s : State) (c tag src : Nat) : State :=
  match (s.ctx c).parts.find? fun p => p.tag == tag && !p.past && !p.closedSrc src with
  | none =>
    if (s.ctx c).parts.any fun p => p.tag == tag then s
    else (s.modCtx c fun x => { x with closedEarly := x.closedEarly ++ [(tag, src)] }).cbump c O_MARKERS_MISSING 1
  | some p =>
    let s := if (p.flow src).complete then s else s.cbump c O_MARKERS_MISSING 1
    let s := s.dropWaiting c p.holder false fun r => r.hdr.srcNode == src
    (s.stopSource c tag p.bwd src).walk c tag p.bwd

/-- CLOSE_NOTICE (R147, R148): from a member of the context's exchange group, in whatever state the context is but FREE. -/
def execCloseNotice (c tag src : Nat) (toRelay : Bool) (s : State) : Host.Outcome State Fault Refusal :=
  finish s <|
    if !s.coreUp || s.cstate c == 0 || !(s.members c).contains src then s
    else if toRelay then closeRelay s c tag src
    else closeSource s c tag src

/-- The horizon of a part has come (R148). -/
def State.horizonEnd (s : State) (c : Nat) (p : Part) : State :=
  let missing := (s.members c).filter fun n => !(p.flow n).complete && !(p.flow n).closed
  let s := s.cbump c O_MARKERS_MISSING missing.length
  (s.dropWaiting c p.holder false fun _ => true).stopPart c p.tag p.bwd

/-- HORIZON (R148): at the beat of a part's horizon. -/
def execHorizon (c tag : Nat) (s : State) : Host.Outcome State Fault Refusal :=
  finish s <|
    if s.coreUp then
      ((s.ctx c).parts.filter fun p => p.tag == tag && !p.past && p.horizon ≤ s.beat).foldl
        (fun s p => s.horizonEnd c p) s
    else s

/-! ### Returns at the source (R215 to R222) -/

/-- RETURN_UNMATCHED (R218); nothing is counted in a context that is FREE. -/
def State.unmatched (s : State) (c : Nat) : State :=
  if s.cstate c == 0 then s else (s.cbump c O_RETURNS_UNMATCHED 1).craise c O_CB_FLAGS 0

/-- The closed-window path (R16, R220, R221). -/
def State.lateReturn (s : State) (c tag : Nat) : State :=
  if s.cstate c == 0 then s
  else if (s.ctx c).crumbs.any (·.tag == tag) then s.cbump c O_CRUMB_HITS 1
  else (s.cbump c O_ORPHANS 1).craiseOnce c O_CB_FLAGS 2

/-- RETURNED set in the entry of a token (R217). -/
def ledgerMarkReturned (l : Ledger) (t expert : Nat) : Ledger :=
  { l with toks := l.toks.zipIdx.map fun v =>
      if v.2 == t then
        { v.1 with copies := v.1.copies.map fun e => if copySent e && e.expert == expert then { e with returned := true } else e }
      else v.1 }

/-- A return record tested and matched (R216 to R219). -/
def takeReturn (s : State) (r : Record) : State :=
  let h := r.hdr
  let c := tagCtx h.tag
  let bwd := recKind h == 3
  if recKind h < 2 || h.srcNode != s.nodeOf c || h.srcCtx != c then s.unmatched c
  else match (s.ctx c).findWin h.tag bwd with
    | none => s.lateReturn c h.tag
    | some w =>
      if !w.isOpen || w.deadlineDue s.beat then s.lateReturn c h.tag
      else
        let es := ((w.ledger.bind fun l => l.toks[h.token]?).map (·.copies)).getD []
        match h.copies.head? with
        | none => s.unmatched c
        | some k =>
          match es.find? fun e =>
              (if bwd then copyBack e else copySent e) && e.expert == k.expert && e.node % 64 == k.slot with
          | none => s.unmatched c
          | some e =>
            if w.answered h.token e then (s.cbump c O_RETURNS_DUPLICATE 1).craise c O_CB_FLAGS 1
            else
              let w := { w with
                ret := w.ret ++ [⟨h.token, e.pos, h.format, if bwd then 0x3F800000 else h.tscale, r.payload, h.tscale⟩]
                ledger := if bwd then w.ledger else w.ledger.map fun l => ledgerMarkReturned l h.token e.expert }
              let s := s.modCtx c fun x => x.setWin w
              let s := s.cbump c O_RETURNS_MATCHED 1
              let s := s.cput c O_RET_ACC_STEP ((s.cget c O_RET_ACC_STEP + crc64 r.payload) % 2 ^ 64)
              s.combine c h.tag bwd

/-- RETURN_RECORD (R216): a return arrives whole. -/
def execReturnRecord (r : Record) (s : State) : Host.Outcome State Fault Refusal :=
  finish s (if s.coreUp then takeReturn s r else s)

end Sys2Proof.Machine
end

