-- ==== Sys2Proof/Machine/Remote.lean ====
section
/-! DEFINITION. Remote memory (R330 to R344) and FABRIC_COPY (R339): requests at their source, line queues and hot lines at
the home, responses, dead targets, and the host's aperture accesses (R512 to R515). -/

namespace Sys2Proof.Machine

open Sys2Proof

/-! ### At the home: queues (R335 to R338) -/

/-- Does a request pass the home's checks (R341): installed memory in service, outside the firmware pages and the spare
region? -/
def State.homeOk (s : State) (a n : Nat) : Bool :=
  let o := addrOff a
  addrNode a == s.node &&
    match addrSpace a with
    | 0 => o + n ≤ 7680 * 65536
    | 1 => o / 2 ^ 36 < 4 && o % 2 ^ 36 + n ≤ s.stackExtents (o / 2 ^ 36) * 2 ^ 24
    | _ => false

/-- The lines that a span of bytes touches. -/
def linesOf (a n : Nat) : List Nat :=
  let q := addrKey a
  (List.range ((q + max 1 n - 1) / 64 + 1 - q / 64)).map (· + q / 64)

/-- A line queue. -/
def State.queue (s : State) (l : Nat) : List Queued := tblGet [] s.queues l

/-- A line queue set. -/
def State.setQueue (s : State) (l : Nat) (q : List Queued) : State := { s with queues := tblPut [] s.queues l q }

/-- Is line `l` the last that a request touches? -/
def lastLine (r : RemoteReq) (l : Nat) : Bool := (linesOf r.addr r.size).getLast? == some l

/-- Operations that wait in line queues; a merged entry counts as one (R336). -/
def State.waitingOps (s : State) : Nat :=
  (s.queues.map fun p => (p.2.filter fun q => lastLine q.req p.1).length).foldl (· + ·) 0

/-- The queue count published, its peak, and the withholding of VC4 credits (R336, R338). -/
def State.countQueues (s : State) : State :=
  let n := s.waitingOps
  let s := (s.put O_HOT_QUEUE_DEPTH (n % 2 ^ 16)).put O_HOT_QUEUE_PEAK (max (s.get O_HOT_QUEUE_PEAK) (n % 2 ^ 16))
  { s with holdVc4 := n ≥ 8192 || (s.holdVc4 && n ≥ 8064) }

/-- The hot-line monitor after an operation has joined a line (R338). -/
def State.watchLine (s : State) (l : Nat) : State :=
  let n := (s.queue l).length
  if n < s.get O_HOT_DEPTH then s
  else
    let s := if n == s.get O_HOT_DEPTH then s.raise O_REMOTE_FLAGS 0 else s
    let old := s.hotLines.find? fun h => h.addr == l
    let h : HotLine := match old with
      | some h => { h with peak := max h.peak n }
      | none => ⟨l, 0, 0, 0, n⟩
    { s with hotLines := (h :: s.hotLines.filter fun h => h.addr != l).take 16 }.genUp O_HOT_LINES

/-- Counts of a hot line advanced: stores, atomics, merged adds. -/
def State.hotCount (s : State) (l st at_ mg : Nat) : State :=
  { s with hotLines := s.hotLines.map fun h =>
      if h.addr == l then
        { h with stores := (h.stores + st) % 2 ^ 64, atomics := (h.atomics + at_) % 2 ^ 64,
                 merged := (h.merged + mg) % 2 ^ 32 }
      else h }

/-- An operation joins the queues of its lines (R335). -/
def State.joinQueues (s : State) (r : RemoteReq) (silent : Bool) : State :=
  ((linesOf r.addr r.size).foldl
    (fun s l => (s.setQueue l (s.queue l ++ [⟨r, [], [], silent⟩])).watchLine l) s).countQueues

/-- A response sent to the source of a request (R330). -/
def State.respond (s : State) (r : RemoteReq) (status : Nat) (data : Bytes) : State :=
  s.emit (.response r.srcNode r.id status data)

/-- A request that fails the home's checks (R341). -/
def State.invalidAtHome (s : State) (r : RemoteReq) : State :=
  ((s.bump O_ADDR_INVALID_COUNT 1).raise O_REMOTE_FLAGS 1).respond r 0x52 []

/-- A request arrives at its home and joins its line queue (R335, R341). -/
def arriveHome (s : State) (r : RemoteReq) : State :=
  if s.homeOk r.addr r.size then s.joinQueues r false else s.invalidAtHome r

/-! ### At the home: service (R331, R333, R335) -/

/-- The part of a request that lies in a line: its first key, and its place and length in the request. -/
def partOf (r : RemoteReq) (l : Nat) : Nat × Nat × Nat :=
  let q := addrKey r.addr
  let lo := max q (64 * l)
  let hi := min (q + r.size) (64 * l + 64)
  (lo, lo - q, hi - lo)

/-- May the head of a line queue be served: is no earlier line of its request still waiting (R333)? -/
def State.servable (s : State) (l : Nat) : Bool :=
  match s.queue l with
  | [] => false
  | q :: _ => !(linesOf q.req.addr q.req.size).any fun k =>
      k < l && (s.queue k).any fun v => v.req.id == q.req.id && v.req.srcNode == q.req.srcNode && v.silent == q.silent

/-- The new value of an atomic (R331). -/
def atomicResult (r : RemoteReq) (old v : Nat) : Nat :=
  match r.op with
  | .add => numOp r.ty 0 old v
  | .min => numOp r.ty 1 old v
  | .max => numOp r.ty 2 old v
  | .cas => if old == leNat r.cmp then v else old
  | _ => v

/-- Is the old value returned (R331)? -/
def fetches (r : RemoteReq) : Bool := r.fetch || r.op == .cas

/-- An atomic applied and answered, with one acknowledgement for each request merged into it (R331, R337). -/
def State.applyAtomic (s : State) (l : Nat) (q : Queued) : State :=
  let r := q.req
  let s := (s.bump O_ATOMICS_APPLIED 1).hotCount l 0 1 0
  if s.isPoisoned r.addr r.size then
    if q.silent then s else (r :: q.merged).foldl (fun s m => s.respond m 0xE9 []) s
  else
    let old := leNat (s.rd r.addr r.size)
    let vals := (r :: q.merged).map fun m => leNat m.data
    let new := vals.foldl (atomicResult r) old
    let s := s.wr r.addr (leBytes r.size new)
    if q.silent then s
    else if fetches r then s.respond r 0 (leBytes r.size old)
    else (r :: q.merged).foldl (fun s m => s.respond m 0 []) s

/-- The head operation of a line queue applied (R335): its part in this line, and its response with the last part. -/
def serveLine (s : State) (l : Nat) : State :=
  match s.queue l with
  | [] => s
  | q :: rest =>
    if !s.servable l then s
    else
      let r := q.req
      let last := lastLine r l
      let (key, off, n) := partOf r l
      let s := s.setQueue l rest
      let s := match r.op with
        | .load =>
          let got := q.got ++ memGets s.mem key n
          if !last then
            s.setQueue (l + 1) ((s.queue (l + 1)).map fun (v : Queued) =>
              if v.req.id == r.id && v.req.srcNode == r.srcNode && !v.silent then { v with got := got } else v)
          else if s.isPoisoned r.addr r.size then s.respond r 0xE9 []
          else s.respond r 0 got
        | .store | .flaggedStore =>
          let s := s.wr key ((r.data.drop off).take n)
          let s := s.hotCount l 1 0 0
          if last then (s.bump O_STORES_APPLIED 1).respond r 0 [] else s
        | .add | .min | .max | .cas => s.applyAtomic l q
        | .copyChunk | .copyGet => s
      s.countQueues

/-- Every operation that waits on lines below `hi` and at or above `lo` served, earlier lines first; `n` bounds how many. -/
def State.drainLines (s : State) (lo hi : Nat) : Nat → State
  | 0 => s
  | n + 1 =>
    if !(s.queues.any fun p => lo ≤ p.1 && p.1 < hi) then s
    else
      match s.queues.find? fun p => s.servable p.1 with
      | some p => if p.1 < hi then State.drainLines (serveLine s p.1) lo hi n else s
      | none => s

/-- Operations that arrived earlier on the lines of a span are applied first (R335). -/
def State.drainSpan (s : State) (a n : Nat) : State :=
  let l := linesOf a n
  s.drainLines (l.headD 0) (l.headD 0 + l.length) ((s.queues.map fun p => p.2.length).foldl (· + ·) 0)

/-- LINE_QUEUE_SERVICE (R335): the head operation of a line is applied and answered. -/
def execLineQueueService (line : Nat) (s : State) : Host.Outcome State Fault Refusal :=
  finish s (if s.coreUp then serveLine s line else s)

/-! ### Requests that arrive -/

/-- A request of one kind arrives at its home. -/
def homeRequest (s : State) (ok : Bool) (r : RemoteReq) : State := if s.coreUp && ok then arriveHome s r else s

/-- Chunks of a copy: their offsets and lengths. -/
def chunkList (len log2 : Nat) : List (Nat × Nat) :=
  (List.range ((len + 2 ^ log2 - 1) / 2 ^ log2)).map fun k => (k * 2 ^ log2, min (2 ^ log2) (len - k * 2 ^ log2))

/-- The request of a get reaches the engine that holds the data (R339): the data returns in chunks, each addressed as the
request says in its DATA bytes: destination, then CHUNK_LOG2. -/
def serveGet (s : State) (r : RemoteReq) : State :=
  if !s.homeOk r.addr r.size then s.invalidAtHome r
  else
    let s := s.drainSpan r.addr r.size
    if s.isPoisoned r.addr r.size then s.respond r 0xE9 []
    else
      let dst := leNat (r.data.take 8)
      s.emits ((chunkList r.size (leNat (r.data.drop 8))).map fun ch =>
        .remote r.srcNode { r with op := .copyChunk, addr := dst + ch.1, size := ch.2, data := s.rd (r.addr + ch.1) ch.2 })

/-- LOAD (R331): a load, or the request of a get, arrives at its home. -/
def execLoad (r : RemoteReq) (s : State) : Host.Outcome State Fault Refusal :=
  finish s (if s.coreUp && r.op == .copyGet then serveGet s r else homeRequest s (r.op == .load) r)

/-- STORE (R333): a store, flagged or not, arrives at its home. -/
def execStore (r : RemoteReq) (s : State) : Host.Outcome State Fault Refusal :=
  finish s (homeRequest s (r.op == .store || r.op == .flaggedStore) r)

/-- MIN (R331). -/
def execMin (r : RemoteReq) (s : State) : Host.Outcome State Fault Refusal :=
  finish s (homeRequest s (r.op == .min) r)

/-- MAX (R331). -/
def execMax (r : RemoteReq) (s : State) : Host.Outcome State Fault Refusal :=
  finish s (homeRequest s (r.op == .max) r)

/-- CAS (R331). -/
def execCas (r : RemoteReq) (s : State) : Host.Outcome State Fault Refusal :=
  finish s (homeRequest s (r.op == .cas) r)

/-- Can an add merge into another that waits last in their line's queue (R337)? -/
def mergeable (w : Queued) (r : RemoteReq) : Bool :=
  w.req.op == .add && !w.req.fetch && !w.silent && !r.fetch && w.req.addr == r.addr && w.req.ty == r.ty
    && w.req.size == r.size && (r.ty == .int32 || r.ty == .int64)

/-- An add arrives; a posted integer add may merge into the add that waits last on its line, when that one came within
32 ns and a merge record is free (R337). -/
def arriveAdd (s : State) (r : RemoteReq) (recent : Bool) : State :=
  if !s.homeOk r.addr r.size then s.invalidAtHome r
  else
    let l := addrKey r.addr / 64
    let q := s.queue l
    match q.getLast? with
    | none => s.joinQueues r false
    | some w =>
      if !(recent && mergeable w r) then s.joinQueues r false
      else
        let records := ((s.queues.map (·.2)).flatten.filter fun v => !v.merged.isEmpty).length
        if records ≥ 1024 then (s.bump O_MERGE_RECORDS_FULL 1).joinQueues r false
        else
          let s := s.setQueue l (q.dropLast ++ [{ w with merged := w.merged ++ [r] }])
          (s.bump O_ADDS_MERGED 1).hotCount l 0 0 1

/-- ADD (R337). -/
def execAdd (r : RemoteReq) (recent : Bool) (s : State) : Host.Outcome State Fault Refusal :=
  finish s (if s.coreUp && r.op == .add then arriveAdd s r recent else s)

/-! ### At the source: the end of operations (R330, R343, R344) -/

/-- Does an operation return a value: a load, a fetching atomic or a CAS? -/
def valued (r : RemoteReq) : Bool := r.op == .load || r.op == .cas || (fetches r && r.op != .copyGet)

/-- A FABRIC_COPY moves on when chunks of it have been acknowledged or lost; with none left, its descriptor ends. -/
def State.fabStep (s : State) (c idx n code : Nat) : State :=
  match (s.ctx c).fabs.find? fun j => j.idx == idx with
  | none => s
  | some j =>
    if code == 0 && j.left > n then
      s.modCtx c fun x => { x with fabs := x.fabs.map fun v => if v.idx == idx then { v with left := v.left - n } else v }
    else (s.modCtx c fun x => { x with fabs := x.fabs.filter fun v => v.idx != idx }).endDesc c idx code

/-- An operation ended under R343: TARGET_DEAD, and what becomes of it. -/
def State.loseRemote (s : State) (q : Pending) : State :=
  let c := q.req.srcCtx
  let s := { s with remotes := s.remotes.filter fun v => v.req.id != q.req.id, lapsed := s.lapsed ++ [(q.req.id, c)] }
  let s := s.craise c O_FABRIC_CTX_FLAGS 1
  let s := match q.host with
    | some m => if q.req.op == .load then s.emit (.hostRead m false (List.replicate q.req.size 0xFF)) else s
    | none => s
  if valued q.req then
    let st := s.cstate c
    if 2 ≤ st && st ≤ 5 then s.toState c 6 0x51 else s
  else
    let s := if q.req.op == .copyGet then s
      else
        let s := s.cbump c O_LOST_WRITES 1
        let s := s.modRing c fun r => { r with lostWrite := r.lostWrite ++ [q.req.id] }
        let gone := s.remotes.filter fun v => v.held && v.req.srcCtx == c && q.req.id < v.req.id
        let s := { s with remotes := s.remotes.filter fun v => !gone.any fun g => g.req.id == v.req.id }
        s.craiseN c O_FABRIC_CTX_FLAGS 4 gone.length
    match q.fab with
    | some i => s.fabStep c i 0 0x51
    | none => s

/-- A node is held dead (R342): operations to it end, flows towards it stop (R153), collectives with it abort (R363). -/
def State.nodeDies (s : State) (n : Nat) : State :=
  let s := if s.nodeDead n then s else { s with deadNodes := s.deadNodes ++ [n] }.genUp O_DEAD_NODES
  let s := ((s.remotes.filter fun q => q.node == n).map fun q => q.req.id).foldl
    (fun s i => match s.remotes.find? fun q => q.req.id == i with
      | some q => s.loseRemote q
      | none => s) s
  s.claimed.foldl (fun s c => (s.collMemberDead c n).pump c) s

/-! ### At the source: requests (R330 to R334, R340) -/

/-- Does a request pass the source windows of its context (R340)? `bit` is the permission it needs. -/
def Ctx.windowOk (x : Ctx) (a n bit : Nat) : Bool :=
  x.srcWindows.any fun w =>
    w.nodeFirst ≤ addrNode a && addrNode a ≤ w.nodeLast && w.space == addrSpace a && w.perm / 2 ^ bit % 2 == 1
      && w.offset ≤ addrOff a && addrOff a + n ≤ w.offset + w.length

/-- A request leaves for its home, or ends at once when its target is dead or no route is intact (R330, R342, R343). -/
def State.sendRemote (s : State) (q : Pending) : State :=
  let s := { s with remotes := s.remotes ++ [q] }
  if s.nodeDead q.node || !s.pathTo q.node then s.loseRemote q
  else
    let c := q.req.srcCtx
    let s := s.emit (.remote q.node q.req)
    if valued q.req then s.cbump c O_REMOTE_LOADS 1
    else if q.req.op == .copyChunk || q.req.op == .copyGet then s
    else s.cbump c O_REMOTE_WRITES 1

/-- The number of the next operation taken. -/
def State.takeId (s : State) : State := { s with nextId := s.nextId + 1 }

/-- Must a flagged store of a context wait: is an earlier write of it not acknowledged (R334)? -/
def State.writesOpen (s : State) (c id : Nat) : Bool :=
  s.remotes.any fun q => q.req.srcCtx == c && opWrites q.req.op && q.req.id < id

/-- A store or load of a context to another node, as R331, R340 and R334 have it. `host` is the HA module that asked. -/
def State.issueRemote (s : State) (c : Nat) (op : RemoteOp) (a n : Nat) (data : Bytes) (host : Option Nat) : State :=
  let r : RemoteReq := ⟨s.nextId, s.nodeOf c, c, op, a, n, .int64, false, data, [], 0⟩
  let held := op == .flaggedStore && s.writesOpen c s.nextId
  let q : Pending := ⟨r, addrNode a, held, s.beat, false, none, host⟩
  let s := s.takeId
  if held then { s with remotes := s.remotes ++ [q] } else s.sendRemote q

/-- Is a size one that the operation takes, and the address aligned to it (R331)? -/
def sizeOk (op : RemoteOp) (a n : Nat) : Bool :=
  [4, 8, 16, 32, 64, 128, 256].contains n && (op != .flaggedStore || n ≤ 64) && addrOff a % n == 0 && addrSpace a < 2

/-- The permission bit of an operation (R340). -/
def permBit (op : RemoteOp) : Nat :=
  match op with
  | .load => 0
  | .store => 1
  | .flaggedStore => 1
  | .copyGet => 3
  | .copyChunk => 4
  | _ => 2

/-- A host read that fails (R514). -/
def State.hostFail (s : State) (m : Option Nat) (write : Bool) (n : Nat) : State :=
  match m with
  | some m => if write then s else s.emit (.hostRead m false (List.replicate n 0xFF))
  | none => s

/-- An operation of a context at an address (R514): on this node it is applied in order of arrival, inside the context's
regions; to another node it passes R340 and leaves. -/
def State.contextAccess (s : State) (c : Nat) (op : RemoteOp) (a n : Nat) (data : Bytes) (m : Option Nat) : State :=
  let x := s.ctx c
  let write := op != .load
  if !sizeOk op a n then (s.craise c O_FABRIC_CTX_FLAGS 2).hostFail m write n
  else if addrNode a != s.nodeOf c then
    if x.windowOk a n (permBit op) then s.issueRemote c op a n data m
    else (s.windowViolation c).hostFail m write n
  else if !(x.inRegion a n && (!write || !x.hitsEngine a n)) then (s.windowViolation c).hostFail m write n
  else if op == .flaggedStore && s.writesOpen c s.nextId then s.issueRemote c op a n data m
  else
    let s := s.drainSpan a n
    if write then (s.wr a (data.take n)).bump O_STORES_APPLIED 1
    else if s.isPoisoned a n then (s.hostFail m false n).memHalt c none
    else match m with
      | some m => s.emit (.hostRead m true (s.rd a n))
      | none => s

/-- FLAGGED_STORE (R334): a context's flagged store, held until its earlier writes are acknowledged. -/
def execFlaggedStore (c a : Nat) (data : Bytes) (s : State) : Host.Outcome State Fault Refusal :=
  finish s <|
    if s.coreUp && c < 1024 && s.cstate c != 0 then s.contextAccess c .flaggedStore a data.length data none else s

/-- FLAGGED_STORE_RELEASE (R334): every earlier write of the context has been acknowledged, and the store leaves. -/
def execFlaggedStoreRelease (c id : Nat) (s : State) : Host.Outcome State Fault Refusal :=
  finish s <|
    match s.remotes.find? fun q => q.req.id == id && q.req.srcCtx == c && q.held with
    | none => s
    | some q =>
      if !s.coreUp || s.writesOpen c id then s
      else
        { s with remotes := s.remotes.filter fun v => v.req.id != id }.sendRemote { q with held := false, issued := s.beat }

/-! ### FABRIC_COPY and its chunks (R339) -/

/-- FABRIC_COPY issued (R339, R340): a put sends its chunks, a get one request. -/
def runFabricCopy (s : State) (c i : Nat) (d : Bytes) : State :=
  let src := fld d 16 8
  let dst := fld d 24 8
  let len := fld d 32 8
  let ctr := fld d 40 8
  let log2 := fld d 48 1
  let put := addrNode src == s.nodeOf c
  let x := s.ctx c
  let pass := if put then x.windowOk dst len 4 && (ctr == 0 || x.windowOk ctr 8 4) else x.windowOk src len 3
  let chs := chunkList len log2
  if !pass then (s.windowViolation c).endDesc c i 0x50
  else if put && s.isPoisoned src len then (s.endDesc c i 0xE9).memHalt c none
  else if chs.isEmpty then s.endDesc c i 0
  else
    let s := s.modCtx c fun x => { x with fabs := x.fabs ++ [⟨i, chs.length, false⟩] }
    if put then
      chs.foldl
        (fun s ch =>
          if !(s.ctx c).fabs.any (fun j => j.idx == i) then s
          else
            let r : RemoteReq := ⟨s.nextId, s.nodeOf c, c, .copyChunk, dst + ch.1, ch.2, .int64, false, s.rd (src + ch.1) ch.2, [],
              ctr⟩
            let q : Pending := ⟨r, addrNode dst, false, s.beat, false, some i, none⟩
            s.takeId.sendRemote q) s
    else
      let r : RemoteReq := ⟨s.nextId, s.nodeOf c, c, .copyGet, src, len, .int64, false, leBytes 8 dst ++ leBytes 1 log2, [], ctr⟩
      s.takeId.sendRemote ⟨r, addrNode src, false, s.beat, false, some i, none⟩

/-- The checks of FABRIC_COPY (R339, R394, R396, R407). -/
def fabCopyChecks (s : State) (c : Nat) (d : Bytes) : List (Option Nat) :=
  let src := fld d 16 8
  let dst := fld d 24 8
  let len := fld d 32 8
  let ctr := fld d 40 8
  let x := s.ctx c
  let put := addrNode src == s.nodeOf c
  let ctrHere := ctr != 0 && !put
  [reservedCheck d [(16, 33)], need (12 ≤ fld d 48 1 && fld d 48 1 ≤ 20) 0x12,
   need ((addrNode src == s.nodeOf c) != (addrNode dst == s.nodeOf c)) 0x12,
   need (ctr == 0 || addrNode ctr == addrNode dst) 0x12, s.stateCheck c d,
   need (addrSpace src < 2 && addrSpace dst < 2 && (ctr == 0 || (addrSpace ctr < 2 && ctr % 8 == 0))) 0x52,
   if put then x.checkRead src len else x.checkWrite dst len,
   if ctrHere then x.checkWrite ctr 8 else none]

/-- FABRIC_COPY at the front of a ring (R339, R394, R396). -/
def issueFabricCopy (s : State) (c i : Nat) (d : Bytes) : State :=
  s.issueDesc c i d (fabCopyChecks s c d) fun s => runFabricCopy s c i d

/-- FABRIC_COPY (R339). -/
def execFabricCopy (c : Nat) (s : State) : Host.Outcome State Fault Refusal :=
  finish s (s.takeFront c (fun d => fld d 0 1 == 0x12) fun i d => issueFabricCopy s c i d)

/-- A chunk applied in full, and the arrival counter stepped in its line's queue (R339). -/
def State.applyChunk (s : State) (r : RemoteReq) : State :=
  let s := (s.drainSpan r.addr r.size).wr r.addr (r.data.take r.size)
  if r.counter == 0 then s
  else s.joinQueues { r with op := .add, addr := r.counter, size := 8, ty := .int64, fetch := false, data := leBytes 8 1 } true

/-- A chunk arrives: of a get of this engine, or of another engine's put (R339, R341). -/
def arriveChunk (s : State) (r : RemoteReq) : State :=
  match s.remotes.find? fun q => q.req.id == r.id && r.srcNode == s.node && q.req.op == .copyGet with
  | some q =>
    let c := q.req.srcCtx
    let s := (s.applyChunk r).cbump c O_COPY_CHUNKS 1
    match q.fab with
    | none => s
    | some i =>
      let done := ((s.ctx c).fabs.find? fun j => j.idx == i).all fun j => j.left ≤ 1
      let s := if done then { s with remotes := s.remotes.filter fun v => v.req.id != r.id } else s
      s.fabStep c i 1 0
  | none =>
    if r.srcNode == s.node && addrNode r.addr == s.node then
      (if s.lapsed.any fun p => p.1 == r.id then
        (s.cbump r.srcCtx O_LATE_RESPONSES 1).craise r.srcCtx O_FABRIC_CTX_FLAGS 3
      else s)
    else if !s.homeOk r.addr r.size || (r.counter != 0 && !s.homeOk r.counter 8) then s.invalidAtHome r
    else (s.applyChunk r).respond r 0 []

/-- COPY_CHUNK (R339). -/
def execCopyChunk (r : RemoteReq) (s : State) : Host.Outcome State Fault Refusal :=
  finish s (if s.coreUp && r.op == .copyChunk then arriveChunk s r else s)

/-! ### Responses, timeouts, notices (R330, R341 to R344) -/

/-- A response arrives for an operation that has not ended (R330, R341, R457). -/
def endRemote (s : State) (q : Pending) (status : Nat) (data : Bytes) : State :=
  let c := q.req.srcCtx
  let s := { s with remotes := s.remotes.filter fun v => v.req.id != q.req.id }
  let s := if status == 0x52 then s.craise c O_FABRIC_CTX_FLAGS 2 else s
  let s := match q.host with
    | some m =>
      if q.req.op == .load then
        s.emit (if status == 0 then .hostRead m true data else .hostRead m false (List.replicate q.req.size 0xFF))
      else s
    | none => s
  let s := match q.fab with
    | some i =>
      let s := if status == 0 then s.cbump c O_COPY_CHUNKS 1 else s
      s.fabStep c i 1 status
    | none => s
  if status == 0xE9 then s.memHalt c none else s

/-- A response arrives (R330, R344). -/
def takeResponse (s : State) (id status : Nat) (data : Bytes) : State :=
  match s.remotes.find? fun q => q.req.id == id && !q.held with
  | some q => endRemote s q status data
  | none =>
    match s.lapsed.find? fun p => p.1 == id with
    | some (_, c) =>
      if s.cstate c == 0 then s else (s.cbump c O_LATE_RESPONSES 1).craise c O_FABRIC_CTX_FLAGS 3
    | none => s

/-- REMOTE_RESPONSE (R330). -/
def execRemoteResponse (id status : Nat) (data : Bytes) (s : State) : Host.Outcome State Fault Refusal :=
  finish s (if s.coreUp then takeResponse s id status data else s)

/-- REMOTE_TIMEOUT (R342): a request has had no response for REMOTE_TIMEOUT beats, and its node is held dead. -/
def execRemoteTimeout (id : Nat) (s : State) : Host.Outcome State Fault Refusal :=
  finish s <|
    match s.remotes.find? fun q => q.req.id == id && !q.held with
    | some q => if s.coreUp && s.beat ≥ q.issued + s.get O_REMOTE_TIMEOUT then s.nodeDies q.node else s
    | none => s

/-- DEAD_NODE_NOTICE (R342). -/
def execDeadNodeNotice (node : Nat) (s : State) : Host.Outcome State Fault Refusal :=
  finish s (if s.coreUp && node < 2 ^ 15 then s.nodeDies node else s)

/-- ROUTE_BLOCKED (R342, R343): the request is sent once more by the next intact route, or ends. -/
def execRouteBlocked (id : Nat) (s : State) : Host.Outcome State Fault Refusal :=
  finish s <|
    match s.remotes.find? fun q => q.req.id == id && !q.held with
    | none => s
    | some q =>
      if !s.coreUp then s
      else if q.retried || !s.pathTo q.node then s.loseRemote q
      else
        let s := { s with remotes := s.remotes.map fun (v : Pending) => if v.req.id == id then { v with retried := true } else v }
        (s.emit (.remote q.node q.req)).cbump q.req.srcCtx O_REROUTED 1

/-! ### The host window (R512 to R515) -/

/-- The entry of an aperture slot (R513). -/
def State.aperture (s : State) (m slot : Nat) : Aperture := s.apertures.getD (m * 64 + slot) ⟨0, 0, 0, 0⟩

/-- An access that no window of R512 or R514 takes: counted, a read failing with all ones. -/
def State.unmapped (s : State) (m : Nat) (write : Bool) (n : Nat) : State :=
  (s.bump O_UNMAPPED_ACCESSES 1).hostFail (some m) write n

/-- The module page of the host window (R512). -/
def State.modulePage (s : State) (m : Nat) : Bytes :=
  leBytes 8 s.beat ++ [Config.tickNow s.freeCtr] ++ leBytes 1 m ++ leBytes 1 (s.haState m)
    ++ List.replicate 53 0

/-- A host access to an aperture slot (R514). -/
def State.apertureAccess (s : State) (m off : Nat) (write : Bool) (n : Nat) (data : Bytes) : State :=
  let a := s.aperture m (off / 2 ^ 32)
  let o := off % 2 ^ 32
  let valid := a.flags % 2 == 1 && o + n ≤ a.pages * 4096 && !(write && a.flags / 4 % 2 == 1) && s.cstate a.ctx != 0
  if !valid then s.unmapped m write n
  else
    let op : RemoteOp := if !write then .load else if a.flags / 2 % 2 == 1 then .flaggedStore else .store
    s.contextAccess a.ctx op (a.base + o) n data (some m)

/-- `n` bytes of a byte string, padded with zeros. -/
def padTo (n : Nat) (bs : Bytes) : Bytes := (bs ++ List.replicate n 0).take n

/-- A mailbox as the host reads it (R422). -/
def Mailbox.image (b : Mailbox) : Bytes :=
  leBytes 4 b.reqSeq ++ leBytes 4 b.rspSeq ++ List.replicate 8 0 ++ padTo 1040 b.request ++ List.replicate 992 0
    ++ padTo 2048 b.response

/-- A host write into a mailbox: REQ_SEQ and the request area take it (R422). -/
def Mailbox.hostWrite (b : Mailbox) (o : Nat) (data : Bytes) : Mailbox :=
  let img := b.image
  let img := img.take o ++ data ++ img.drop (o + data.length)
  { b with reqSeq := leNat (img.take 4), request := (img.drop 16).take 1040 }

/-- HOST_APERTURE_ACCESS (R512, R514): an access of the host through module `m` at an offset of its window. Writes to a
mailbox's request area are kept for MAILBOX_POLL (R422). -/
def execHostApertureAccess (m off : Nat) (write : Bool) (size : Nat) (data : Bytes) (s : State) :
    Host.Outcome State Fault Refusal :=
  finish s <|
    if !s.coreUp || m ≥ 8 || s.haModules.getD m 0 % 128 == 0 || (write && data.length != size) then s
    else
      let s := s.bump (unitKey m (if write then O_HA_BYTES_IN else O_HA_BYTES_OUT)) size
      if off + size ≤ 0x10000 then
        let k := m * 16 + off / 4096
        let o := off % 4096
        let b := s.mailbox k
        if o + size > 4096 then s.unmapped m write size
        else if write then
          s.modMailbox k fun b => b.hostWrite o data
        else s.emit (.hostRead m true ((b.image.drop o).take size))
      else if 0x10000 ≤ off && off + size ≤ 0x10040 then
        if write then s.unmapped m write size
        else (s.emit (.hostRead m true (((s.modulePage m).drop (off - 0x10000)).take size))).drawn
      else if 2 ^ 38 ≤ off && off + size ≤ 2 ^ 38 + 64 * 2 ^ 32 then s.apertureAccess m (off - 2 ^ 38) write size data
      else s.unmapped m write size

end Sys2Proof.Machine
end

