-- ==== Sys2Proof/Machine/Fabric.lean ====
section
/-! DEFINITION. LX: the link layer (R311 to R315), lanes and training (R310, R314), transit and the bypass island (R323, R325
to R327), and announcements (R328, R329). -/

namespace Sys2Proof.Machine

open Sys2Proof

/-! ### Tags (R311) -/

/-- DEST_NODE of a tag. -/
def tagDest (t : Nat) : Nat := t % 2 ^ 15
/-- ROUTE_CLASS of a tag. -/
def tagClass (t : Nat) : Nat := t / 2 ^ 18 % 4
/-- XDIR of a tag. -/
def tagXMinus (t : Nat) : Bool := t / 2 ^ 20 % 2 == 1
/-- YDIR of a tag. -/
def tagYMinus (t : Nat) : Bool := t / 2 ^ 21 % 2 == 1
/-- LOCAL of a tag. -/
def tagLocal (t : Nat) : Bool := t / 2 ^ 23 % 2 == 1
/-- CTRL of a tag. -/
def tagCtrl (t : Nat) : Bool := t / 2 ^ 24 % 2 == 1
/-- SEQ of a tag. -/
def tagFrameSeq (t : Nat) : Nat := t / 2 ^ 32 % 4096
/-- CRC of a tag. -/
def tagCrc (t : Nat) : Nat := t / 2 ^ 48 % 65536

/-- The CRC of a frame: tag bits [47:0], then the flit. -/
def frameCrc (t : Nat) (flit : Bytes) : Nat := crc16 (leBytes 6 (t % 2 ^ 48) ++ flit)

/-- A tag with its SEQ and CRC set. -/
def sealTag (t seq : Nat) (flit : Bytes) : Nat :=
  let b := t % 2 ^ 32 + seq % 4096 * 2 ^ 32
  b + frameCrc b flit * 2 ^ 48

/-- The DATELINE class of a tag set (R322). -/
def setDateline (t : Nat) (one : Bool) : Nat := t - t / 2 ^ 22 % 2 * 2 ^ 22 + (if one then 2 ^ 22 else 0)

/-! ### Sending and receiving frames (R313, R315) -/

/-- A sequenced frame leaves on a link and enters its replay buffer (R313). -/
def State.sendFrame (s : State) (l tag : Nat) (flit : Bytes) : State :=
  let k := s.link l
  let t := sealTag tag k.txSeq flit
  let s := s.modLink l fun k => { k with txSeq := (k.txSeq + 1) % 4096, replay := k.replay ++ [(k.txSeq, t, flit)] }
  (s.emit (.frame l t flit)).bump (unitKey l O_FRAMES_TX) 1

/-- Has a link's replay buffer room (R313)? -/
def State.replayRoom (s : State) (l : Nat) : Bool := (s.link l).replay.length < 512

/-- A replay asked for in a CTRL frame; frames are discarded until it comes (R313). -/
def State.askReplay (s : State) (l : Nat) : State :=
  (s.modLink l fun k => { k with discarding := true }).emit (.ctrl l ⟨none, some (s.link l).rxNext, []⟩)

/-- A frame arrives on a link (R313). -/
def takeFrame (s : State) (l : Nat) (fecOk : Bool) (corrected tag : Nat) (flit : Bytes) : State :=
  let s := s.bump (unitKey l O_FEC_CORRECTED) corrected
  if !fecOk then (s.bump (unitKey l O_FEC_UNCORRECTED) 1).askReplay l
  else if tagCrc tag != frameCrc tag flit then (s.bump (unitKey l O_CRC_ERRORS) 1).askReplay l
  else if tagCtrl tag then s
  else if tagFrameSeq tag != (s.link l).rxNext then (if (s.link l).discarding then s else s.askReplay l)
  else
    let s := s.modLink l fun k => { k with rxNext := (k.rxNext + 1) % 4096, discarding := false }
    (s.bump (unitKey l O_FRAMES_RX) 1).emit (.ctrl l ⟨some (tagFrameSeq tag), none, []⟩)

/-- FRAME_RX (R313): a frame arrives, is checked and accepted in sequence, or asked for again. -/
def execFrameRx (l : Nat) (fecOk : Bool) (corrected tag : Nat) (flit : Bytes) (s : State) :
    Host.Outcome State Fault Refusal :=
  finish s (if s.coreUp && l < 12 && s.linkUp l then takeFrame s l fecOk corrected tag flit else s)

/-- Frames of a replay buffer after a cumulative acknowledgement of `seq` (R313). -/
def ackFrames (seq : Nat) (l : List (Nat × Nat × Bytes)) : List (Nat × Nat × Bytes) :=
  l.filter fun f => (f.1 + 4096 - seq - 1) % 4096 < 2048

/-- A CTRL frame's credits noted: cumulative counts modulo 2^16 by pool (R315). -/
def noteCredits (old new : List (Nat × Nat)) : List (Nat × Nat) :=
  new.foldl (fun l p => l.filter (fun q => q.1 != p.1) ++ [(p.1, p.2 % 65536)]) old

/-- A CTRL frame arrives (R313, R315). -/
def takeCtrl (s : State) (l : Nat) (f : CtrlFrame) : State :=
  let s := s.modLink l fun k =>
    { k with
      credits := noteCredits k.credits f.credits
      replay := match f.ack with
        | some a => ackFrames a k.replay
        | none => k.replay }
  match f.replayFrom with
  | none => s
  | some n =>
    let again := (s.link l).replay.filter fun v => (v.1 + 4096 - n) % 4096 < 2048
    let s := s.emits (again.map fun v => .frame l v.2.1 v.2.2)
    let s := (s.bump (unitKey l O_RETRIES) 1).modLink l fun k => { k with replays := k.replays + 1 }
    if (s.link l).replays == 65 then s.raise O_FABRIC_FLAGS 3 else s

/-- CTRL_FRAME (R315). -/
def execCtrlFrame (l : Nat) (f : CtrlFrame) (s : State) : Host.Outcome State Fault Refusal :=
  finish s (if s.coreUp && l < 12 && s.linkUp l then takeCtrl s l f else s)

/-! ### Announcements (R328, R329) -/

/-- An announcement of this engine flooded, and noted in its own table. -/
def State.announce (s : State) (mk : Nat → Announcement) : State :=
  let a := mk s.serial
  let s := { s with serial := s.serial + 1, announced := s.announced ++ [a] }
  s.emit (.announce a)

/-- What an announcement changes in the tables (R328). -/
def State.noteAnnouncement (s : State) (a : Announcement) : State :=
  let s := match a with
    | .bypass n _ => { s with bypassed := if s.bypassed.contains n then s.bypassed else s.bypassed ++ [n] }
    | .spineDown n d _ =>
      { s with spineDown := if s.spineDown.contains (n * 4 + d) then s.spineDown else s.spineDown ++ [n * 4 + d] }
    | .spineUp n d _ => { s with spineDown := s.spineDown.filter (· != n * 4 + d) }
  s.genUp O_RING_TABLE

/-- A new announcement is recorded and forwarded once (R328). -/
def takeAnnouncement (s : State) (a : Announcement) : State :=
  if s.announced.contains a then s
  else
    let s := { s with announced := s.announced ++ [a] }.noteAnnouncement a
    let s := match a with
      | .bypass _ _ => s.raise O_FABRIC_FLAGS 4
      | _ => s
    s.emit (.announce a)

/-- BYPASS_ANNOUNCEMENT (R328): an announcement of a bypass, or of a spine link that went down or came back. -/
def execBypassAnnouncement (a : Announcement) (s : State) : Host.Outcome State Fault Refusal :=
  finish s (if s.coreUp then takeAnnouncement s a else s)

/-- A return announcement (R329). One from a node that is not in bypass, after its last context was handed back, removes the
redirect (R473). -/
def takeReturned (s : State) (n : Nat) : State :=
  let dark := s.bypassed.contains n || s.nodeDead n
  let s := { s with bypassed := s.bypassed.filter (· != n), deadNodes := s.deadNodes.filter (· != n) }
  let s := (s.genUp O_RING_TABLE).genUp O_DEAD_NODES
  let s := if dark || !(s.redirects.any fun p => p.1 == n) then s
    else { s with redirects := s.redirects.filter fun p => p.1 != n }.genUp O_REDIRECTS
  s.claimed.foldl State.pump s

/-- RETURN_ANNOUNCEMENT (R329). -/
def execReturnAnnouncement (n : Nat) (s : State) : Host.Outcome State Fault Refusal :=
  finish s (if s.coreUp && n < 2 ^ 15 then takeReturned s n else s)

/-! ### Lanes and training (R310, R314) -/

/-- A link state set. -/
def State.setLink (s : State) (l v : Nat) : State := s.put (unitKey l O_LINK_STATE) v

/-- A link goes down (R314): what it had not acknowledged is dropped with it, and a spine link is announced (R328). -/
def State.linkDown (s : State) (l : Nat) : State :=
  let s := (s.setLink l 4).modLink l fun k => { k with replay := [], discarding := false, trainBeat := s.beat }
  let s := s.raise O_FABRIC_FLAGS 2
  if l < 8 then s
  else
    let s := s.announce fun n => .spineDown s.node (l - 8) n
    s.noteAnnouncement (.spineDown s.node (l - 8) 0)

/-- LANE_FAILED (R314): a lane of a trained link has failed. -/
def execLaneFailed (l lane : Nat) (s : State) : Host.Outcome State Fault Refusal :=
  finish s <|
    let up := s.get (unitKey l O_LANES_UP)
    if s.coreUp && l < 12 && lane < 8 && s.linkUp l && up / 2 ^ lane % 2 == 1 then
      let up := up - 2 ^ lane
      let s := (s.put (unitKey l O_LANES_UP) up).raise O_FABRIC_FLAGS 0
      if up % 16 == 15 || up / 16 == 15 then (s.setLink l 3).raise O_FABRIC_FLAGS 1 else s.linkDown l
    else s

/-- LINK_RETRAIN (R314): a link that is down tries to train again, every 1,024 beats. -/
def execLinkRetrain (l : Nat) (s : State) : Host.Outcome State Fault Refusal :=
  finish s <|
    let st := s.get (unitKey l O_LINK_STATE)
    if s.coreUp && l < 12 && (st == 4 || st == 1) && s.get O_LINK_ENABLE / 2 ^ l % 2 == 1
        && s.beat ≥ (s.link l).trainBeat + 1024 then
      (s.setLink l 1).modLink l fun k => { k with trainBeat := s.beat }
    else s

/-- A link has trained (R310, R244): its generation, far end and delay. -/
def linkTrained (s : State) (l gen peer delay : Nat) : State :=
  let up := if l ≥ 8 && s.get O_BYPASS_STATE == 1 then 5 else 2
  let s := ((s.setLink l up).put (unitKey l O_GENERATION) gen).put (unitKey l O_LANES_UP) 0xFF
  let s := (s.put (unitKey l O_LINK_DELAY_PS) (delay % 2 ^ 32)).put (unitKey l O_PEER_ID) (peer % 2 ^ 16)
  let s := s.modLink l fun k =>
    { k with txSeq := 0, rxNext := 0, discarding := false, replay := [], credits := [], measureBeat := s.beat }
  let s := if l ≥ 8 && s.spineDown.contains (s.node * 4 + (l - 8)) then
      (s.announce fun n => .spineUp s.node (l - 8) n).noteAnnouncement (.spineUp s.node (l - 8) 0)
    else s
  s.claimed.foldl State.pump s

/-- LINK_TRAINED (R310). -/
def execLinkTrained (l gen peer delay : Nat) (s : State) : Host.Outcome State Fault Refusal :=
  finish s <|
    if s.corePg && s.resetN && l < 12 && s.get (unitKey l O_LINK_STATE) == 1 && 1 ≤ gen && gen ≤ s.linkGenMax.getD l 3 then
      linkTrained s l gen peer delay
    else s

/-- LINK_DELAY_MEASURE (R244): a trained link is measured again, every 4,096 beats. -/
def execLinkDelayMeasure (l delay : Nat) (s : State) : Host.Outcome State Fault Refusal :=
  finish s <|
    if s.coreUp && l < 12 && s.linkUp l && s.beat ≥ (s.link l).measureBeat + 4096 then
      (s.put (unitKey l O_LINK_DELAY_PS) (delay % 2 ^ 32)).modLink l fun k => { k with measureBeat := s.beat }
    else s

/-! ### Transit (R321 to R323) -/

/-- The torus direction that a flit takes next from a node, as its tag says; none when it has reached the destination's
rack. -/
def State.tagDir (s : State) (node tag : Nat) : Option Nat :=
  let tx := s.get O_TORUS_X
  let a := rackOf node
  let b := rackOf (tagDest tag)
  let xOff := a % tx != b % tx
  let yOff := a / tx != b / tx
  let xd := if tagXMinus tag then 1 else 0
  let yd := if tagYMinus tag then 3 else 2
  if tagClass tag == 1 then (if yOff then some yd else if xOff then some xd else none)
  else (if xOff then some xd else if yOff then some yd else none)

/-- Does a hop from a node cross the wrap link of its ring (R322)? -/
def State.wraps (s : State) (node d : Nat) : Bool :=
  let tx := s.get O_TORUS_X
  let ty := s.get O_TORUS_Y
  let x := rackOf node % tx
  let y := rackOf node / tx
  match d with
  | 0 => x + 1 == tx
  | 1 => x == 0
  | 2 => y + 1 == ty
  | _ => y == 0

/-- The link that a flit takes next, and its tag there (R321, R322): a torus link, or a rack link to its final node. `from_`
is the link on which it arrived. -/
def State.nextLink (s : State) (from_ tag : Nat) : Option (Nat × Nat) :=
  match s.tagDir s.node tag with
  | some d =>
    let same := from_ ≥ 8 && (from_ - 8) / 2 == d / 2
    let line := (same && tag / 2 ^ 22 % 2 == 1) || s.wraps s.node d
    some (8 + d, setDateline tag line)
  | none => ((List.range 8).find? s.linkUp).map fun l => (l, setDateline tag false)

/-- A flit that only passes through (R323): forwarded on the link that its tag names, or discarded with a ROUTE_BLOCKED
notice to its source. -/
def transit (s : State) (l tag : Nat) (flit : Bytes) (src : Nat) : State :=
  match s.nextLink l tag with
  | some (k, t) =>
    if !s.linkUp k then s.emit (.routeBlocked src)
    else if s.replayRoom k then s.sendFrame k t flit
    else s
  | none => s.emit (.routeBlocked src)

/-- TRANSIT_FORWARD (R323). -/
def execTransitForward (l tag : Nat) (flit : Bytes) (src : Nat) (s : State) : Host.Outcome State Fault Refusal :=
  finish s <|
    if s.coreUp && l < 12 && s.linkUp l && tagDest tag != s.node && !tagLocal tag then transit s l tag flit src else s

/-! ### The bypass island (R325 to R327) -/

/-- The island enters bypass (R325, R328): spine links go on through it, rack links are down. -/
def State.enterBypass (s : State) : State :=
  if s.get O_BYPASS_STATE == 1 then s
  else
    let s := (s.put O_BYPASS_STATE 1).bumpW 32 O_BYPASS_ENTRIES 1
    let s := (List.range 12).foldl
      (fun s l =>
        let st := s.get (unitKey l O_LINK_STATE)
        let s := s.modLink l fun k => { k with replay := [], discarding := false, trainBeat := s.beat }
        if st == 0 then s
        else if l < 8 then s.setLink l 4
        else if st == 2 || st == 3 then s.setLink l 5 else s) s
    s.announce fun n => .bypass s.node n

/-- Is there still a cause for bypass (R325)? -/
def State.bypassCause (s : State) : Bool :=
  !s.corePg || !s.resetN || s.startStep.isSome || s.get O_ENGINE_STATE == 3 || s.get O_BYPASS_HOLD == 1

/-- The island leaves bypass once no cause is left, and the return is announced (R329). Rack links train again. -/
def State.leaveBypass (s : State) : State :=
  if s.get O_BYPASS_STATE == 0 || s.bypassCause then s
  else
    let s := s.put O_BYPASS_STATE 0
    let s := (List.range 12).foldl
      (fun s l =>
        let st := s.get (unitKey l O_LINK_STATE)
        if l < 8 then (if st == 4 && s.get O_LINK_ENABLE / 2 ^ l % 2 == 1 then s.setLink l 1 else s)
        else if st == 5 then s.setLink l 2 else s) s
    (s.emit (.returned s.node))

/-- A frame at the island (R325, R326): straight through, or discarded with a DEAD_NODE notice to its source, once in each
beat. -/
def islandFrame (s : State) (l tag : Nat) (flit : Bytes) (src : Nat) : State :=
  let d := oppDir (l - 8)
  let straight := tagLocal tag || (tagDest tag != s.node && s.tagDir s.node tag == some d)
  if straight then
    if s.get (unitKey (8 + d) O_LINK_STATE) == 5 then
      let line := tag / 2 ^ 22 % 2 == 1 || s.wraps s.node d
      (s.emit (.frame (8 + d) (sealTag (setDateline tag line) (tagFrameSeq tag) flit) flit)).bump O_BYPASS_FRAMES 1
    else s
  else if s.deadSent.contains (l, src) || s.deadSent.any (fun p => p.2 == src) then s
  else ({ s with deadSent := s.deadSent ++ [(l, src)] }.emit (.deadNode l src)).bump O_DEAD_NODE_NOTICES 1

/-- BYPASS_FRAME (R326): a frame arrives at the island in bypass. -/
def execBypassFrame (l tag : Nat) (flit : Bytes) (src : Nat) (s : State) : Host.Outcome State Fault Refusal :=
  finish s <|
    if s.get O_BYPASS_STATE == 1 && 8 ≤ l && l < 12 && s.get (unitKey l O_LINK_STATE) == 5 then islandFrame s l tag flit src
    else s

end Sys2Proof.Machine
end

