-- ==== Sys2Proof/Machine/Grouped.lean ====
section
/-! DEFINITION. GROUPED_OP (R161 to R165, R169 to R178, R186, R187), and the work items of tiles: start, commit, and the
filling of staging sets (R158 to R160, R168, R172, R173, R181, R461, R463). -/

namespace Sys2Proof.Machine

open Sys2Proof

/-! ### Group-table entries (R161 to R164) -/

/-- The fields of a group-table entry (R161). -/
structure GEntry where
  rows : Nat
  n : Nat
  k : Nat
  aFmt : Nat
  bFmt : Nat
  cFmt : Nat
  op : Nat
  act : Nat
  flags : Nat
  n2 : Nat
  hFmt : Nat
  dFmt : Nat
  a : Nat
  aScale : Nat
  b : Nat
  bScale : Nat
  c : Nat
  d : Nat
  dScale : Nat
  h : Nat
  aStride : Nat
  cStride : Nat
  cScale : Nat
  rowScale : Nat
deriving DecidableEq, Repr

/-- An entry read from its 128-byte image. -/
def parseGEntry (b : Bytes) : GEntry :=
  ⟨fld b 0 4, fld b 4 4, fld b 8 4, fld b 12 1, fld b 13 1, fld b 14 1, fld b 15 1, fld b 16 1, fld b 17 1, fld b 20 4,
    fld b 24 1, fld b 25 1, fld b 32 8, fld b 40 8, fld b 48 8, fld b 56 8, fld b 64 8, fld b 72 8, fld b 80 8, fld b 88 8,
    fld b 96 4, fld b 100 4, fld b 104 8, fld b 112 8⟩

/-- FUSE: 0 NONE, 1 GLU, 2 GLU_DOWN (R163). -/
def GEntry.fuse (e : GEntry) : Nat := e.op / 16 % 4
/-- TRANS_A (R163). -/
def GEntry.transA (e : GEntry) : Bool := e.op / 128 % 2 == 1
/-- TRANS_B (R163). -/
def GEntry.transB (e : GEntry) : Bool := e.op / 64 % 2 == 1
/-- Columns of C. -/
def GEntry.cols (e : GEntry) : Nat := if e.fuse == 2 then e.n2 else if e.fuse == 1 then e.n / 2 else e.n

/-- Is C written with a scale area: block scales, or the tensor scale of an unblocked FP8 tensor (R39, R161)? -/
def GEntry.cScaled (e : GEntry) : Bool :=
  (scaleOf e.cFmt).block != 0 || (e.cScale != 0 && (fmtElem e.cFmt == .e4m3 || fmtElem e.cFmt == .e5m2))

/-- A tensor of rows with a stride, in the layout of the region that holds it (R180, R301). -/
def Ctx.gtensor (x : Ctx) (base fmt rows cols stride scale : Nat) : TDesc :=
  let len := rowBytes (fmtElem fmt) cols
  let diag := x.inKind 1 base (rows * len)
  ⟨base, fmt, 2, if diag then 1 else 0, [cols, rows, 1, 1, 1], [stride, 0, 0, 0], scale, 0⟩

/-- The tensor of A: K rows of M elements when it is transposed (R180). -/
def GEntry.tensorA (e : GEntry) (x : Ctx) : TDesc :=
  if e.transA then x.gtensor e.a e.aFmt e.k e.rows e.aStride e.aScale else x.gtensor e.a e.aFmt e.rows e.k e.aStride e.aScale

/-- The tensor of B, in compact rows (R367). -/
def GEntry.tensorB (e : GEntry) (x : Ctx) : TDesc :=
  if e.transB then x.gtensor e.b e.bFmt e.k e.n (rowBytes (fmtElem e.bFmt) e.n) e.bScale
  else x.gtensor e.b e.bFmt e.n e.k (rowBytes (fmtElem e.bFmt) e.k) e.bScale

/-- The tensor of D. -/
def GEntry.tensorD (e : GEntry) (x : Ctx) : TDesc :=
  x.gtensor e.d e.dFmt e.n2 (e.n / 2) (rowBytes (fmtElem e.dFmt) (e.n / 2)) e.dScale

/-- The tensor of C. -/
def GEntry.tensorC (e : GEntry) (x : Ctx) : TDesc := x.gtensor e.c e.cFmt e.rows e.cols e.cStride e.cScale

/-- The tensor at H_PTR. -/
def GEntry.tensorH (e : GEntry) (x : Ctx) : TDesc :=
  x.gtensor e.h e.hFmt e.rows (e.n / 2) (rowBytes (fmtElem e.hFmt) (e.n / 2)) 0

/-- Bytes that a tensor spans; none when it has no rows. -/
def gspan (d : TDesc) : Nat := if d.rows == 0 || d.dim 0 == 0 then 0 else d.span

/-- Length of the scale area of an operand; its header tells of escapes. -/
def State.gscaleLen (s : State) (d : TDesc) : Nat := s.descScaleLen d

/-- Length of the scale area written for C. -/
def GEntry.cScaleLen (e : GEntry) : Nat :=
  if !e.cScaled then 0
  else
    let k := scaleOf e.cFmt
    let off := (16 + (if k.block == 0 then 0 else e.rows * (e.cols / k.block)) + 15) / 16 * 16
    scaleAreaLen k (escOf e.cFmt) off e.rows e.cols

/-- Is a format byte of A, B or D one that an operand may take (R39, R61, R162)? -/
def operandFmt (f : Nat) : Bool :=
  match elemOf f with
  | some .fp32 => false
  | some e => !fmtReserved f && scaleTakes e (scaleOf f) && (!escOf f || escTakes e)
  | none => false

/-- A scaled or diagonal tensor's rows: whole blocks (R39), and the shape of R301 in a diagonal region. -/
def shapeOk (d : TDesc) : Bool :=
  let b := (scaleOf d.format).block
  (b == 0 || d.dim 0 % b == 0)
    && (d.layout == 0 || (d.dim 1 % 32 == 0 && d.rowLen % 512 == 0 && d.base % 65536 == 0
      && d.strides.getD 0 0 == d.rowLen))

/-- A transposed operand in Local Store lies in a DIAGONAL region (R302). -/
def transOk (trans : Bool) (d : TDesc) : Bool := !trans || addrSpace d.base == 1 || d.layout == 1

/-- ESC agrees with the scale area (R162, R164). -/
def State.escAgrees (s : State) (d : TDesc) : Bool :=
  escOf d.format == (d.scale != 0 && s.rdNat (d.scale + 5) 1 == 1)

/-- Is a pair of operands listed, in either role (R61)? -/
def pairListed (a b : Nat) : Bool :=
  (pairRate (fmtElem b) (fmtElem a)).isSome || (pairRate (fmtElem a) (fmtElem b)).isSome

/-- The checks of an entry's own bytes: reserved codes and bits, ranges, format pairs, and what its form needs (R161 to
R164). -/
def GEntry.fieldsOk (e : GEntry) (img : Bytes) : Bool :=
  let down := e.fuse == 2
  fld img 26 6 == 0 && fld img 120 8 == 0 && e.flags < 4 && e.op % 16 == 0 && e.fuse != 3 && e.act ≤ 4
    && e.rows ≤ 1048576 && e.n % 32 == 0 && 32 ≤ e.n && e.n ≤ 65536 && e.k % 32 == 0 && 32 ≤ e.k && e.k ≤ 1048576
    && operandFmt e.aFmt && operandFmt e.bFmt && pairListed e.aFmt e.bFmt
    && !fmtReserved e.cFmt && [0, 1, 2, 3, 7].contains (e.cFmt / 16)
    && (scaleTakes (fmtElem e.cFmt) (scaleOf e.cFmt)) && (!escOf e.cFmt || escTakes (fmtElem e.cFmt))
    && (fmtElem e.cFmt != .e2m1 || (scaleOf e.cFmt).block != 0)
    && (e.cScaled || e.cScale == 0) && (e.flags / 2 % 2 == 1 || e.rowScale == 0)
    && (if down then
          e.n2 % 32 == 0 && e.n2 != 0 && [0x04, 0x08, 0x24, 0x28].contains e.hFmt && operandFmt e.dFmt
            && pairListed e.hFmt e.dFmt && e.d != 0 && e.h != 0
        else e.n2 == 0 && e.hFmt == 0 && e.dFmt == 0 && e.d == 0 && e.dScale == 0 && e.h == 0)
    && (e.fuse == 0 || (e.a != 0 && e.b != 0 && e.c != 0))

/-- What an entry reads: address and length. -/
def State.gReads (s : State) (x : Ctx) (e : GEntry) : List (Nat × Nat) :=
  let t := [e.tensorA x, e.tensorB x] ++ (if e.fuse == 2 then [e.tensorD x] else [])
  (t.map fun d => [(d.base, gspan d), (d.scale, if gspan d == 0 then 0 else s.gscaleLen d)]).flatten
    ++ [(e.rowScale, if e.flags / 2 % 2 == 1 then 4 * e.rows else 0)]

/-- What an entry writes. -/
def GEntry.writes (e : GEntry) (x : Ctx) : List (Nat × Nat) :=
  [(e.c, gspan (e.tensorC x)), (e.cScale, if e.rows == 0 then 0 else e.cScaleLen)]
    ++ (if e.fuse == 2 then [(e.h, gspan (e.tensorH x))] else [])

/-- The checks of an entry (R164, R165): the code with which the command ends, `none` when it passes. A write into an ENGINE
region is a PAGE_CONFLICT (R282). -/
def State.gCheck (s : State) (c : Nat) (img : Bytes) : Option Nat :=
  let x := s.ctx c
  let e := parseGEntry img
  let t := [e.tensorA x, e.tensorB x] ++ (if e.fuse == 2 then [e.tensorD x] else [])
  firstCode
    [need (e.fieldsOk img) 0x80,
     need ((s.gReads x e ++ e.writes x).all fun p => p.2 == 0 || x.inRegion p.1 p.2) 0x80,
     need (t.all (fun d => shapeOk d && s.escAgrees d) && shapeOk (e.tensorC x)) 0x80,
     need (transOk e.transA (e.tensorA x) && transOk e.transB (e.tensorB x)) 0x80,
     need (!(e.writes x).any fun p => x.hitsEngine p.1 p.2) 0xC4]

/-! ### Operands -/

/-- The rows of an operand tensor, decoded, with what that counts. -/
def State.gRows (s : State) (d : TDesc) (rows : List Nat) : List OpRow × Tally :=
  let g := gather (rows.map fun r =>
    areaRow d.elem (scaleOf d.format) (s.descRow d r) (if d.scale == 0 then [] else s.rd d.scale (s.gscaleLen d)) r (d.dim 0))
  (g.1, g.2.oneTensor)

/-- An operand along K: `ids` are the rows, or under TRANS the columns, that are wanted (R180). -/
def State.gOperand (s : State) (d : TDesc) (trans : Bool) (ids : List Nat) : List OpRow × Tally :=
  if trans then
    let all := s.gRows d (List.range (d.dim 1))
    let cols := transposed all.1 (d.dim 0)
    (ids.map fun i => cols.getD i ⟨0, [], 0⟩, all.2)
  else s.gRows d ids

/-- The operands of the first phase of a row block: A·B. -/
def State.gProd (s : State) (x : Ctx) (e : GEntry) (rows : List Nat) : Prod :=
  let da := e.tensorA x
  let db := e.tensorB x
  let a := s.gOperand da e.transA rows
  let b := s.gOperand db e.transB (List.range e.n)
  let own := (e.transA && (scaleOf e.aFmt).block != 0) || (e.transB && (scaleOf e.bFmt).block != 0)
  ⟨a.1, b.1, if own then some 16 else none, a.2.add b.2⟩

/-- The operands of the DOWN phase: H·D. -/
def State.gProdDown (s : State) (x : Ctx) (e : GEntry) (h : List (List Nat)) : Prod :=
  let d := s.gRows (e.tensorD x) (List.range e.n2)
  ⟨(quantOps e.hFmt h).1, d.1, none, d.2⟩

/-! ### C (R161, R163, R194 to R197) -/

/-- C of a row as it stands, as FP32 codes. -/
def State.oldC (s : State) (x : Ctx) (e : GEntry) (r : Nat) : List Nat :=
  let row := ((s.gRows (e.tensorC x) [r]).1.headD ⟨0, [], 0x3F800000⟩)
  if fmtElem e.cFmt == .fp32 then fp32Row (s.descRow (e.tensorC x) r)
  else row.folded.map fun v => f32Dy v false

/-- The multiplier of a row (R161). -/
def State.rowMul (s : State) (e : GEntry) (r : Nat) : Option Nat :=
  if e.flags / 2 % 2 == 1 then some (s.rdNat (e.rowScale + 4 * r) 4) else none

/-- Row multiplier and accumulation on columns c0 and on of a row of FP32 codes (R161). -/
def State.gAdjust (s : State) (x : Ctx) (e : GEntry) (r c0 : Nat) (vs : List Nat) : List Nat :=
  let vs := match s.rowMul e r with
    | some m => vs.map fun v => f32Mul v m
    | none => vs
  if e.flags % 2 == 1 then ((s.oldC x e r).drop c0 |>.zip vs).map fun p => f32Add p.1 p.2 else vs

/-- Is the result of the function unit converted once, straight to the format of C (R194)? -/
def GEntry.direct (e : GEntry) : Bool := !e.cScaled && e.flags == 0

/-- The epilogue of a row under FUSE NONE and after DOWN: codes of C's format when it is unscaled, FP32 codes otherwise.
`act` is the activation that applies. -/
def State.gEpilogue (s : State) (x : Ctx) (e : GEntry) (act r c0 : Nat) (vs : List Nat) : List Nat × Tally :=
  let f := (fmtElem e.cFmt).fmt
  if e.direct && act != 0 then
    let l := vs.map fun v => fuResult f act v (actExact act v)
    (l.map (·.1), Tally.sum (l.map (·.2)))
  else
    let vs := if act == 0 then vs else vs.map (act32 act)
    let vs := s.gAdjust x e r c0 vs
    if e.cScaled || f.mb == 23 then (vs, Tally.zero)
    else
      let l := vs.map f.of32
      (l.map (·.1), { Tally.sum (l.map (·.2)) with amax := amax32 vs })

/-- The epilogue of a row under GLU (R176, R196). -/
def State.gGlu (s : State) (x : Ctx) (e : GEntry) (r : Nat) (vs : List Nat) : List Nat × Tally :=
  let f := (fmtElem e.cFmt).fmt
  if e.direct then gluRow f e.act vs
  else
    let hs := s.gAdjust x e r 0 (hRow e.act (gateCols vs) (upCols vs))
    if e.cScaled || f.mb == 23 then (hs, Tally.zero)
    else
      let l := hs.map f.of32
      (l.map (·.1), { Tally.sum (l.map (·.2)) with amax := amax32 hs })

/-- Columns c0 and on of a row of an unscaled C written. -/
def State.writeC (s : State) (x : Ctx) (e : GEntry) (r c0 : Nat) (codes : List Nat) : State :=
  let d := e.tensorC x
  let row := unpackElems d.elem e.cols (s.descRow d r)
  s.setDescRow d r (packElems d.elem (row.take c0 ++ codes ++ row.drop (c0 + codes.length)))

/-- A scaled C written whole, from its rows as FP32 codes (R45, R46, R49, R540). -/
def State.writeScaledC (s : State) (c : Nat) (e : GEntry) (rows : List (List Nat)) : State :=
  let d := e.tensorC (s.ctx c)
  let k := scaleOf e.cFmt
  let q := quantTensor d.elem k (escOf e.cFmt) (s.cget c O_ESCAPE_THRESHOLD) (fun _ => .nearest) rows e.cols
  let s := q.rows.zipIdx.foldl (fun s r => s.setDescRow d r.2 (packElems d.elem r.1.codes)) s
  let s := s.wr e.cScale (q.scaleBytes k (escOf e.cFmt))
  s.tally c .fwd (s.ctx c).marks q.tally

/-! ### Jobs -/

/-- The job of a descriptor. -/
def Ctx.job (x : Ctx) (idx : Nat) : Option GroupedJob := x.grouped.find? (·.idx == idx)

/-- A job replaced. -/
def State.setJob (s : State) (c : Nat) (j : GroupedJob) : State :=
  s.modCtx c fun x => { x with grouped := x.grouped.map fun v => if v.idx == j.idx then j else v }

/-- The row block of an item. -/
def GroupedJob.block (j : GroupedJob) (group rb : Nat) : Option RowBlock :=
  j.blocks.find? fun b => b.expert == group && b.rb == rb

/-- A row block replaced. -/
def GroupedJob.setBlock (j : GroupedJob) (b : RowBlock) : GroupedJob :=
  { j with blocks := j.blocks.map fun v => if v.expert == b.expert && v.rb == b.rb then b else v }

/-- The entry of a group of a job. -/
def GroupedJob.entry (j : GroupedJob) (group : Nat) : GEntry := parseGEntry (j.table.getD group [])

/-- Groups of a job that have rows. -/
def GroupedJob.nonempty (j : GroupedJob) : List Nat :=
  (List.range j.table.length).filter fun g => (j.entry g).rows != 0

/-- Height and width of the items of a phase of a group (R169): of a job with one non-empty entry as a single-group
operation, whose GLU panels stay 256 columns wide (R176). -/
def State.gShape (s : State) (j : GroupedJob) (e : GEntry) : Nat × Nat :=
  if j.nonempty.length != 1 then (256, 128)
  else if e.fuse == 0 then singleShape e.rows e.n s.activeTotal
  else
    let fits (h : Nat) : Bool := (e.rows + h - 1) / h * ((e.n + 255) / 256) ≥ 4 * s.activeTotal
    (256, ((((List.range 8).map fun i => 128 - 16 * i)).find? fits).getD 16)

/-- The width of the DOWN items of a group. -/
def State.gDownWidth (s : State) (j : GroupedJob) (e : GEntry) (h : Nat) : Nat :=
  if j.nonempty.length != 1 then 256
  else (([256, 128, 64, 32].find? fun w => (e.rows + h - 1) / h * ((e.n2 + w - 1) / w) ≥ 4 * s.activeTotal)).getD 32

/-- The items of a row block's phase posted. -/
def State.postGrouped (s : State) (c idx : Nat) (b : RowBlock) (w : Nat) : State :=
  match (s.ctx c).job idx with
  | none => s
  | some j =>
    let e := j.entry b.expert
    let down := b.phase == 2
    let n := if down then e.n2 else e.n
    let k := if down then e.n / 2 else e.k
    let rate := if down then rateOf (fmtElem e.dFmt) (fmtElem e.hFmt) else rateOf (fmtElem e.bFmt) (fmtElem e.aFmt)
    let blocks := (j.blocks.filter (·.expert == b.expert)).length
    let sl := if e.fuse == 0 then s.sliceCount c (blocks * ((n + w - 1) / w)) k else 1
    let specs := blockSpecs n k b.height w rate sl
    let first := j.firstItem.getD s.nextItem
    let b := { b with left := specs.length, width := n, acc := zeroRect b.rows.length n }
    let base : Item := ⟨0, c, idx, 2, b.expert, b.rb, b.phase, 0, b.height, 0, 0, 0, 0, 0,
      [j.postedBeat + s.cget c O_DEADLINE_BEATS, c, 0, b.expert, b.rb, b.phase], b.region, none, none, 0, 0, 0, first⟩
    let s := s.postItems base (j.posted.getD b.region 0) specs
    s.setJob c { j.setBlock b with
      firstItem := some first
      posted := j.posted.set b.region (j.posted.getD b.region 0 + specs.length) }

/-- The row blocks of a group made (R169). -/
def groupBlocksOf (g : Nat) (e : GEntry) (single : Bool) (h : Nat) : List RowBlock :=
  ((chunks h (List.range e.rows)).zipIdx).map fun r =>
    ⟨0, g, r.2, 0, r.1, if single then h else blockHeight r.1.length, 0, 1, 0, false, [], [], [], [], [], []⟩

/-- Every row block of a job posted, in group order and row-block order (R170, R172, R173). -/
def State.postJob (s : State) (c idx : Nat) : State :=
  match (s.ctx c).job idx with
  | none => s
  | some j =>
    let single := j.nonempty.length == 1
    let l := (j.nonempty.map fun g =>
      let sh := s.gShape j (j.entry g)
      (groupBlocksOf g (j.entry g) single sh.2).map fun b => (b, sh.1)).flatten
    let s := s.setJob c { j with blocks := l.map (·.1) }
    let pad := (l.map fun b => b.1.height - b.1.rows.length).foldl (· + ·) 0
    let s := s.cbump c O_PAD_ROWS pad
    l.zipIdx.foldl
      (fun s v =>
        let first := (((s.ctx c).job idx).bind (·.firstItem)).getD s.nextItem
        s.postGrouped c idx { v.1.1 with region := s.regionFor c first v.2 } v.1.2) s

/-- A job whose groups are all complete ends: summary, descriptor (R186). -/
def State.finishJob (s : State) (c idx : Nat) : State :=
  match (s.ctx c).job idx with
  | none => s
  | some j =>
    if !j.nonempty.all j.groups.contains then s
    else
      let s := if j.summary == 0 then s
        else s.wr j.summary (summaryBytes 0 j.nonempty.length j.itemsRun j.rowsRun 0 0)
      let s := s.modCtx c fun x => { x with grouped := x.grouped.filter (·.idx != idx) }
      s.endDesc c idx 0

/-- A group whose row blocks are all done: a scaled C is written, and the group is counted (R190). -/
def State.finishGroup (s : State) (c idx g : Nat) : State :=
  match (s.ctx c).job idx with
  | none => s
  | some j =>
    if j.groups.contains g || !(j.blocks.filter (·.expert == g)).all (·.phase == 9) then s
    else
      let e := j.entry g
      let rows := (List.range e.rows).map fun r =>
        ((j.out.find? fun o => o.1 == g && o.2.1 == r).map (·.2.2)).getD (List.replicate e.cols 0)
      let s := if e.cScaled then s.writeScaledC c e rows else s
      let s := s.setJob c { j with groups := j.groups ++ [g], out := j.out.filter (·.1 != g) }
      (s.cbump c O_GROUPS_RUN 1).finishJob c idx

/-- Finished columns of rows of a group: written, or kept until C is written whole. -/
def State.putC (s : State) (c idx g : Nat) (e : GEntry) (c0 : Nat) (rows : List (Nat × List Nat)) : State :=
  if e.cScaled then
    match (s.ctx c).job idx with
    | none => s
    | some j =>
      let old (r : Nat) : List Nat :=
        ((j.out.find? fun o => o.1 == g && o.2.1 == r).map (·.2.2)).getD (List.replicate e.cols 0)
      let new := rows.map fun r => (g, r.1, (old r.1).take c0 ++ r.2 ++ (old r.1).drop (c0 + r.2.length))
      s.setJob c { j with out := j.out.filter (fun o => !(o.1 == g && rows.any fun r => r.1 == o.2.1)) ++ new }
  else rows.foldl (fun s r => s.writeC (s.ctx c) e r.1 c0 r.2) s

/-- The last commit of a phase of a row block of a job (R176, R177). -/
def State.jobPhaseDone (s : State) (c idx : Nat) (b : RowBlock) (vals : List (List Nat)) : State :=
  match (s.ctx c).job idx with
  | none => s
  | some j =>
    let x := s.ctx c
    let e := j.entry b.expert
    let m := x.marks
    let close (s : State) : State :=
      match (s.ctx c).job idx with
      | some j =>
        (s.setJob c { j.setBlock { b with phase := 9, acc := [], h := [] } with rowsRun := j.rowsRun + b.rows.length }).finishGroup
          c idx b.expert
      | none => s
    if e.fuse == 0 then close s
    else if e.fuse == 1 then
      let l := (b.rows.zip vals).map fun r => (r.1, s.gGlu x e r.1 r.2)
      let s := s.tally c .fwd m (Tally.sum (l.map fun r => r.2.2))
      close (s.putC c idx b.expert e 0 (l.map fun r => (r.1, r.2.1)))
    else if b.phase == 1 then
      let hs := vals.map (gluRowBf16 e.act)
      let hf := fmtElem e.hFmt
      let rows := hs.map (·.1)
      let st := tensorScale hf (scaleOf e.hFmt) [] rows
      let qs := rows.map fun r => quantRow hf (scaleOf e.hFmt) .nearest st [] r
      let s := s.tally c .fwd m (Tally.sum ((hs.map (·.2)) ++ qs.map (·.2)))
      let s := (b.rows.zip qs).foldl (fun s r => s.setDescRow (e.tensorH x) r.1 (packElems hf r.2.1.codes)) s
      let b := { b with phase := 2, h := rows, acc := [] }
      let s := s.setJob c (j.setBlock b)
      s.postGrouped c idx b (s.gDownWidth j e b.height)
    else
      let l := (b.rows.zip vals).map fun r => (r.1, s.gEpilogue x e 0 r.1 0 r.2)
      let s := s.tally c .fwd m (Tally.sum (l.map fun r => r.2.2))
      close (s.putC c idx b.expert e 0 (l.map fun r => (r.1, r.2.1)))

/-- Function-unit results of an item of a job (R192, R196). -/
def GEntry.fuResults (e : GEntry) (it : Item) : Nat :=
  let w := min it.w ((if it.phase == 2 then e.n2 else e.n) - it.panel * it.w)
  if it.phase == 2 then 0 else if e.fuse == 0 then (if e.act == 0 then 0 else it.h * w) else it.h * (w / 2)

/-- An item of a GROUPED_OP commits (R159, R174). -/
def State.commitGrouped (s : State) (it : Item) : State :=
  let c := it.ctx
  match (s.ctx c).job it.tag with
  | none => s
  | some j =>
    match j.block it.group it.rb with
    | none => s
    | some b =>
      let x := s.ctx c
      let e := j.entry it.group
      let q := if b.phase == 2 then s.gProdDown x e b.h else s.gProd x e b.rows
      let c0 := it.panel * it.w
      let acc := q.addPanel b.acc c0 (c0 + it.w) it.k0 it.k1
      let b := { b with acc := acc, left := b.left - 1 }
      let s := s.setJob c { j.setBlock b with itemsRun := j.itemsRun + 1 }
      let s := if it.panel == 0 && it.k0 == 0 then s.tally c .fwd x.marks q.tally
        else s.tally c .fwd x.marks q.tally.rereads
      let last := !s.items.any fun v =>
        v.ctx == c && v.kind == 2 && v.tag == it.tag && v.group == it.group && v.rb == it.rb && v.panel == it.panel
      let vals := q.finish acc
      let s := if last then
          let n := e.fuResults it
          (s.fuCount c n).bump (unitKey (it.tile.getD 0) O_TILE_FU_RESULTS) n
        else s
      let s := if last && e.fuse == 0 then
          let l := (b.rows.zip vals).map fun r => (r.1, s.gEpilogue x e e.act r.1 c0 ((r.2.drop c0).take it.w))
          let s := s.tally c .fwd x.marks (Tally.sum (l.map fun r => r.2.2))
          s.putC c it.tag it.group e c0 (l.map fun r => (r.1, r.2.1))
        else s
      if b.left == 0 then s.jobPhaseDone c it.tag b vals else s

/-! ### GROUPED_OP (R164, R187, R396) -/

/-- The number of the innermost iteration. -/
def Ring.innermost (r : Ring) : Nat := (r.loops.head?.map (·.iter)).getD 0

/-- GROUPED_OP accepted: its entries are checked, and its row blocks posted. -/
def runGrouped (s : State) (c i table count summary : Nat) : State :=
  if s.isPoisoned table (128 * count) then (s.endDesc c i 0xE9).memHalt c none
  else
    let imgs := (List.range count).map fun k => s.rd (table + 128 * k) 128
    match firstCode (imgs.map (s.gCheck c)) with
    | some code =>
      let s := if code == 0x80 then (s.cbump c O_GROUP_INVALID_COUNT 1).craise c O_EF_FLAGS 0 else s
      s.endDesc c i code
    | none =>
      let j : GroupedJob := ⟨i, imgs, summary, s.beat, 0, 0, [], [0, 0, 0, 0, 0], none, [], []⟩
      let s := s.modCtx c fun x => { x with grouped := x.grouped ++ [j] }
      (s.postJob c i).finishJob c i

/-- Where the entries of a GROUPED_OP begin: FIRST_ENTRY of the table, and the loop's own count when it is asked for
(R187, R396). -/
def groupTable (x : Ctx) (d : Bytes) : Nat :=
  fld d 16 8 + 128 * (fld d 28 4 + (if fld d 40 1 % 2 == 1 then x.ring.innermost else 0))

/-- The checks of GROUPED_OP (R164, R187, R396, R407). -/
def groupedChecks (s : State) (c : Nat) (d : Bytes) : List (Option Nat) :=
  let count := fld d 24 2
  let flags := fld d 40 1
  [reservedCheck d [(16, 10), (28, 13)],
   need (1 ≤ count && count ≤ 16384 && flags < 2 && (flags == 0 || count == 1)) 0x12,
   s.stateCheck c d,
   (s.ctx c).checkRead (groupTable (s.ctx c) d) (128 * count),
   (s.ctx c).addrCheck false true true (fld d 32 8) 32]

/-- GROUPED_OP at the front of a ring (R164, R187, R396). -/
def issueGrouped (s : State) (c i : Nat) (d : Bytes) : State :=
  let table := groupTable (s.ctx c) d
  s.issueDesc c i d (groupedChecks s c d) fun s => runGrouped s c i table (fld d 24 2) (fld d 32 8)

/-- GROUPED_OP (R164). -/
def execGroupedOp (c : Nat) (s : State) : Host.Outcome State Fault Refusal :=
  finish s (s.takeFront c (fun d => fld d 0 1 == 0x03) fun i d => issueGrouped s c i d)

/-! ### Tiles (R158 to R160, R172, R173, R181, R461, R463) -/

/-- May a tile take an item: of its region's list, undealt or dealt to it, of a part that began after the tile's last
return, of a context that no collective holds back (R160, R172, R173, R181, R463)? -/
def State.mayTake (s : State) (t : Nat) (it : Item) : Bool :=
  it.tile.isNone && it.region == t / 64 && (it.dealt.isNone || it.dealt == some t)
    && (s.tile t).returnedAt ≤ it.first && !(s.ctx it.ctx).collHolds

/-- The lowest-keyed of a list of items, the first of equals. -/
def lowestItem : List Item → Option Item
  | [] => none
  | i :: l => some (l.foldl (fun b v => if keyLt v.key b.key then v else b) i)

/-- Is what an item reads poisoned (R457)? -/
def State.itemBad (s : State) (it : Item) : Bool :=
  let x := s.ctx it.ctx
  if it.kind == 2 then
    match x.job it.tag with
    | some j => (s.gReads x (j.entry it.group)).any fun p => s.isPoisoned p.1 p.2
    | none => false
  else
    let bwd := it.kind == 1
    match x.part it.tag bwd with
    | some p => (p.block (if bwd && (it.phase == 5 || it.phase == 7) then it.phase else 0) it.group it.rb).any
        fun b => s.phaseBad it.ctx p b
    | none => false

/-- A GROUPED_OP that has read a poisoned line ends with MEM_UNCORRECTABLE (R457). -/
def State.dropJob (s : State) (c idx : Nat) : State :=
  let s := { s with items := s.items.filter fun i => !(i.ctx == c && i.kind == 2 && i.tag == idx) }
  let s := s.modCtx c fun x => { x with grouped := x.grouped.filter (·.idx != idx) }
  s.endDesc c idx 0xE9

/-- The row block of a started item is marked as started (R179). -/
def State.markStarted (s : State) (it : Item) : State :=
  if it.kind == 2 then s
  else
    let bwd := it.kind == 1
    match (s.ctx it.ctx).part it.tag bwd with
    | none => s
    | some p =>
      match p.block (if bwd && (it.phase == 5 || it.phase == 7) then it.phase else 0) it.group it.rb with
      | some b => s.setPart it.ctx (p.setBlock { b with started := true })
      | none => s

/-- An item started on a tile: it carries the tile's and the region's epochs (R461). -/
def State.startItem (s : State) (t : Nat) (it : Item) : State :=
  let it' := { it with tile := some t, epoch := (s.tile t).unitEpoch, regionEpoch := (s.reg (t / 64)).unitEpoch }
  { s with items := (s.items.filter fun (v : Item) => v.id != it.id) ++ [it'] }.markStarted it

/-- WORK_ITEM_START (R158, R159): a tile that holds fewer than two items takes the lowest-keyed one that it may. -/
def execWorkItemStart (tile : Nat) (s : State) : Host.Outcome State Fault Refusal :=
  finish s <|
    if !(s.coreUp && tile < 320 && s.tileActive tile) then s
    else if (s.items.filter fun i => i.tile == some tile).length ≥ 2 then s
    else match lowestItem (s.items.filter (s.mayTake tile)) with
      | none => s
      | some it =>
        if s.itemBad it then
          (if it.kind == 2 then s.dropJob it.ctx it.tag else s).memHalt it.ctx none
        else s.startItem tile it

/-- Counters of a committed item (R190, R438, R440). -/
def State.countCommit (s : State) (t : Nat) (it : Item) : State :=
  let s := s.countItems it.ctx 1 it.cost
  let s := (s.bump (unitKey t O_TILE_ITEMS) 1).bump (unitKey t O_TILE_ARITH_CYCLES) it.cost
  if it.sliced then s.cbump it.ctx O_SPLIT_K_ITEMS 1 else s

/-- Is an item's result stale: does an epoch it carries differ from GD's table (R461)? -/
def State.staleItem (s : State) (t : Nat) (it : Item) : Bool :=
  it.epoch != (s.tile t).epoch || it.regionEpoch != (s.reg (t / 64)).epoch

/-- WORK_ITEM_COMMIT (R159, R461): the item that the tile started first ends its epilogue. A stale result is discarded. -/
def execWorkItemCommit (tile : Nat) (s : State) : Host.Outcome State Fault Refusal :=
  finish s <|
    match s.items.find? fun i => i.tile == some tile with
    | none => s
    | some it =>
      if !s.coreUp then s
      else
        let rest := { s with items := s.items.filter fun (v : Item) => v.id != it.id }
        if s.staleItem tile it then
          (rest.bump O_STALE_RESULTS 1).raiseLog O_HEALTH_FLAGS 4 0xF4 2 2 tile 0xFFFF it.epoch
        else
          let s := rest.countCommit tile it
          if it.kind == 2 then s.commitGrouped it else s.commitWindow it

/-! ### Staging (R168, R378) -/

/-- A staging set filled: the cold weights have arrived from the host, and the parts that waited go on (R167, R168). -/
def fillStage (s : State) (c set : Nat) (cold : Bytes) (g : StageSet) : State :=
  let es := s.placed c g.slot g.layer
  let s := (es.filter (·.cold)).foldl (fun s e => (s.entrySpans c e).foldl (fun s p => s.haCount false p.1 p.2) s) s
  let s := s.cbump c O_COLD_BYTES (s.coldLen c g)
  let g' := { g with full := true, data := s.stageData c es cold }
  let s := s.modCtx c fun x =>
    { x with
      stages := x.stages.set set g'
      parts := x.parts.map fun p => { p with waitingStage := false } }
  s.walkAll c

/-- STAGING_FILL_DONE (R168): set number `set` of the context is full; the groups that wait for it go on. `cold` are the
bytes of its cold placements, which HA reads (R378). -/
def execStagingFillDone (c set : Nat) (cold : Bytes) (s : State) : Host.Outcome State Fault Refusal :=
  finish s <|
    match (s.ctx c).stages[set]? with
    | none => s
    | some g =>
      let n := s.coldLen c g
      if !s.coreUp || g.full || cold.length < n || (n != 0 && s.hostMods.isEmpty) then s
      else if s.stageBad c g then s.memHalt c none
      else fillStage s c set cold g

end Sys2Proof.Machine
end

