-- ==== Sys2Proof/Machine/Launch.lean ====
section
/-! DEFINITION. LAYER_FWD and LAYER_BWD (R397 to R399), the window limit (R142), and the launch of a window at its beat, on
the Anchored grid or after a deferred admission (R11, R21, R22, R150, R259, R261). -/

namespace Sys2Proof.Machine

open Sys2Proof

/-! ### Issue -/

/-- The first grid beat at or after a beat (R259). -/
def gridBeat (anchor grid b : Nat) : Nat :=
  if grid == 0 || b ≤ anchor then max anchor b else anchor + (b - anchor + grid - 1) / grid * grid

/-- The beat at which a window is due (R11, R255, R259). -/
def State.dueAt (s : State) (c : Nat) (at_ : Option Nat) (ready : Nat) : Nat :=
  match at_ with
  | some b => b
  | none => if s.det c == 2 then gridBeat (s.cget c O_STEP_ANCHOR) (s.cget c O_ANCHOR_GRID) ready else ready

/-- A window that has just issued (R398): its command list is complete within the beat. -/
def State.newWindow (s : State) (c i : Nat) (at_ : Option Nat) (tag : Nat) (bwd : Bool) (layer mb step tokens : Nat) :
    Window :=
  let ready := at_.getD (s.beat + 1)
  { tag := tag, bwd := bwd, idx := i, layerSlot := layer, mb := mb, step := step, mark := (s.ctx c).marks,
    tokens := tokens, inAddr := 0, outAddr := 0, statsAddr := 0, maskAddr := 0, summaryAddr := 0, dzAddr := 0,
    scoreAddr := 0, hostmap := 0, issuedBeat := s.beat, readyBeat := ready, launchAt := at_,
    dueBeat := s.dueAt c at_ ready, launched := none, deadline := 0, deferred := false, phase := .issued, slot := 0,
    map := [], dark := [], enable := 0, sprinkle := 0, bias := none, rows := [], logits := [], quant := none,
    spillPasses := 0, ledger := none, headers := [], nodeTable := [], flows := [], ret := [],
    outRows := [], statRows := [], dzRows := [], closedShort := false }

/-- Parts that have ended and whose tags lie half the sequence numbers behind are forgotten (R9). -/
def State.dropOldParts (s : State) (c q : Nat) : State :=
  s.modCtx c fun x => { x with parts := x.parts.filter fun p => !(p.past && p.done && !seqGe q (tagSeq p.tag)) }

/-- A window entered among those of its context, and among what the engine holds of its windows (R538). -/
def State.enterWindow (s : State) (c i : Nat) (w : Window) : State :=
  let k : Known := ⟨w.tag, w.bwd, w.layerSlot, (if w.bwd then some w.slot else none), w.summaryAddr, 0, w.mb, w.step,
    w.mark, 0⟩
  let s := s.modCtx c fun x =>
    { x with
      windows := x.windows ++ [w]
      known := x.known.filter (fun v => !(v.tag == w.tag && v.bwd == w.bwd)) ++ [k] }
  s.writeResult c i w.tag

/-- LAYER_FWD accepted (R10, R264, R397). -/
def runLayerFwd (s : State) (c i : Nat) (d : Bytes) (at_ : Option Nat) : State :=
  let x := s.ctx c
  let step := s.ringStep c
  let layer := fld d 60 2
  let halfB := fld d 62 1 == 1
  let (q, mb) := if halfB then x.openA.getLastD (0, 0) else (x.seqNext, x.mbCount step layer)
  let tag := c * 2 ^ 22 + q * 2 + (if halfB then 1 else 0)
  let s := s.modCtx c fun x =>
    if halfB then { x with openA := x.openA.dropLast }
    else { x.setMb step layer (mb + 1) with seqNext := (q + 1) % 2 ^ 21, openA := x.openA ++ [(q, mb)] }
  let s := if halfB then s else s.mirrorState c
  let w := s.newWindow c i at_ tag false layer mb step (fld d 56 4)
  (s.dropOldParts c q).enterWindow c i
    { w with inAddr := fld d 16 8, outAddr := fld d 24 8, statsAddr := fld d 32 8, maskAddr := fld d 40 8
             summaryAddr := fld d 48 8, hostmap := fld d 63 1 }

/-- LAYER_BWD accepted (R122, R264, R397). -/
def runLayerBwd (s : State) (c i : Nat) (d : Bytes) (at_ : Option Nat) : State :=
  match (s.ctx c).findLedger (fld d 16 4) with
  | none => s
  | some l =>
    let w := s.newWindow c i at_ l.tag true l.layerSlot l.mb (s.ringStep c) l.tokens
    let s := s.enterWindow c i
      { w with inAddr := fld d 24 8, outAddr := fld d 32 8, dzAddr := fld d 40 8, scoreAddr := fld d 48 8
               summaryAddr := fld d 56 8, hostmap := fld d 20 1, slot := l.slot, ledger := some l }
    s.walk c l.tag true

/-- Is the context at its limit of windows (R142)? -/
def State.atWindowLimit (s : State) (c : Nat) : Bool := s.cget c O_WINDOWS_OPEN_MAX ≤ (s.ctx c).windows.length

/-- LAYER_FWD at the front of a ring: held at the window limit, otherwise issued. -/
def issueLayerFwd (s : State) (c i : Nat) (d : Bytes) (at_ : Option Nat) : State :=
  if s.atWindowLimit c then s.hold c (.windowLimit i)
  else s.issueDesc c i d (s.fwdChecks c d) fun s => runLayerFwd s c i d at_

/-- LAYER_BWD at the front of a ring. -/
def issueLayerBwd (s : State) (c i : Nat) (d : Bytes) (at_ : Option Nat) : State :=
  if s.atWindowLimit c then s.hold c (.windowLimit i)
  else s.issueDesc c i d (s.bwdChecks c d) fun s => runLayerBwd s c i d at_

/-- LAYER_FWD (R398). -/
def execLayerFwd (c : Nat) (s : State) : Host.Outcome State Fault Refusal :=
  finish s (s.takeFront c (fun d => fld d 0 1 == 0x01) fun i d => issueLayerFwd s c i d none)

/-- LAYER_BWD (R122). -/
def execLayerBwd (c : Nat) (s : State) : Host.Outcome State Fault Refusal :=
  finish s (s.takeFront c (fun d => fld d 0 1 == 0x02) fun i d => issueLayerBwd s c i d none)

/-- The command held at the window limit. -/
def Ring.limited (r : Ring) : Option Nat :=
  (r.holds.filterMap fun h => match h with | .windowLimit i => some i | _ => none).head?

/-- HELD_COMMAND_ISSUE (R142): a window of the context has ended, and the held command is issued. -/
def execHeldCommandIssue (c : Nat) (s : State) : Host.Outcome State Fault Refusal :=
  finish s <|
    match (s.ctx c).ring.limited with
    | none => s
    | some i =>
      if s.atWindowLimit c then s
      else
        let t := s.modRing c fun r => r.unhold i
        match t.front c with
        | none => s
        | some (j, d) => if fld d 0 1 == 0x01 then issueLayerFwd t c j d none else issueLayerBwd t c j d none

/-! ### Launch (R11, R21, R22, R150, R259, R261) -/

/-- LAUNCH_SLIP (R261). -/
def State.slipCheck (s : State) (c : Nat) (w : Window) : State :=
  let from_ := ((s.ctx c).lastLaunch).getD (s.cget c O_STEP_ANCHOR)
  if s.det c == 2 && w.readyBeat > from_ + s.cget c O_ANCHOR_GRID then
    (s.cbump c O_LAUNCH_SLIP_COUNT 1).craise c O_DET_FLAGS 1
  else s

/-- The buffers that a window asks for at launch: its input rows, its output rows and statistics (R228), its ledger (R119)
or its logit gradients (R235). -/
def State.launchRequests (s : State) (c : Nat) (w : Window) : State :=
  let rows := w.tokens * 2 * s.hidden c
  let extra := if w.bwd then (if s.cget c O_ROUTER_GRAD == 1 then w.tokens * s.cget c O_EXPERT_COUNT * s.dzElem c else 0)
    else if s.cget c O_ROW_STATS == 0 then 0 else 16 * w.tokens
  let key := w.orderKey c
  let s := s.request c w.holder 0 key (s.bufsFor c 0 rows)
  let s := s.request c w.holder 4 key (s.bufsFor c 4 rows + s.bufsFor c 4 extra)
  if w.bwd then s
  else s.request c w.holder 5 key (s.bufsFor c 5 (32 + w.tokens * (16 + 16 * s.cget c O_TOP_K)))

/-- A window launches (R11, R30, R73, R79, R252). -/
def State.launch (s : State) (c : Nat) (w : Window) : State :=
  let s := s.slipCheck c w
  let (s, slot) := if w.bwd then (s, w.slot) else s.launchSlot c (tagSeq w.tag)
  let x := s.ctx c
  let w := { w with
    launched := some s.beat
    deadline := if w.deferred then w.deadline else s.beat + s.cget c O_DEADLINE_BEATS
    phase := .launched
    slot := slot
    map := x.map
    dark := s.bypassed
    enable := x.enable
    sprinkle := s.cget c O_SPRINKLE_AMP
    bias := if s.cget c O_CARAMEL_STATE == 1 then none else some x.bias }
  let s := s.modCtx c fun x =>
    { x.setWin w with
      lastLaunch := some s.beat
      known := x.known.map fun k => if k.tag == w.tag && k.bwd == w.bwd then { k with slot := some slot } else k }
  let s := s.crumbLeave c w.tag
  let s := s.bump O_WINDOWS_LAUNCHED 1
  let s := s.cput c O_STEP (s.stepNo c + w.layerSlot * 2 ^ 48)
  let s := s.launchRequests c w
  let s := s.stageNext c w
  (s.mirror .windowState c [w.tag, 3]).walk c w.tag w.bwd

/-- A window that is due looks for admission (R21, R22). -/
def State.enter (s : State) (c : Nat) (w : Window) : State :=
  if !s.anyBlack c then s.launch c w
  else if s.det c == 2 then s.endStep c 0x33 (some w)
  else if w.deferred then s
  else
    let s := s.craise c O_EXCHANGE_FLAGS 5
    s.modCtx c fun x => x.setWin { w with deferred := true, deadline := w.dueBeat + s.cget c O_DEADLINE_BEATS }

/-- A window at its due beat: a D2 window does not launch in HOLDOVER, and each launch that falls due there is a slip to the
next grid beat (R248). -/
def State.launchNow (s : State) (c : Nat) (w : Window) : State :=
  if s.det c == 2 && s.get O_BEAT_STATE == 2 then
    let s := (s.cbump c O_LAUNCH_SLIP_COUNT 1).craise c O_DET_FLAGS 1
    s.modCtx c fun x => x.setWin { w with dueBeat := s.beat + max 1 (s.cget c O_ANCHOR_GRID) }
  else s.enter c w

/-- WINDOW_LAUNCH (R11, R259): at the beat at which the window is due, in ring order. -/
def execWindowLaunch (c tag : Nat) (s : State) : Host.Outcome State Fault Refusal :=
  finish s <|
    match (s.ctx c).windows.find? fun w => w.launchDue s.beat with
    | some w => if s.coreUp && s.cstate c == 3 && w.tag == tag && !s.dueBelow 6 w.dueBeat then s.launchNow c w else s
    | none => s

/-- ADMISSION_RETRY (R21, R150): a window that was deferred looks for admission at a following beat. -/
def execAdmissionRetry (c tag : Nat) (s : State) : Host.Outcome State Fault Refusal :=
  finish s <|
    match (s.ctx c).windows.find? fun w => w.tag == tag && w.phase == .issued && w.deferred with
    | some w =>
      if s.coreUp && s.cstate c == 3 && w.dueBeat < s.beat && s.beat < w.deadline && !s.dueBelow 6 s.beat then s.enter c w else s
    | none => s

end Sys2Proof.Machine
end

