-- ==== Sys2Proof/Machine/LaunchAt.lean ====
section
/-! DEFINITION. LAUNCH_AT (R255): its issue, and the release at its beat of the run of commands that follows it. -/

namespace Sys2Proof.Machine

open Sys2Proof

/-- Does a STEP_MARK stand immediately after a ring index, as far as PRODUCER covers (R259)? -/
def State.markNext (s : State) (c i : Nat) : Bool :=
  let j := (i + 1) % 2 ^ 32
  idxDiff (s.ctx c).ring.producer i > 1 && s.rdNat (s.slotAddr c j) 1 == 0x30

/-- Does a beat lie on the grid of the step (R259)? -/
def State.onGrid (s : State) (c b : Nat) : Bool :=
  let a := s.cget c O_STEP_ANCHOR
  let g := s.cget c O_ANCHOR_GRID
  !(s.ctx c).hasAnchor || (a ≤ b && (g == 0 || (b - a) % g == 0))

/-- The checks of LAUNCH_AT (R255, R259, R396, R407). -/
def launchChecks (s : State) (c i : Nat) (d : Bytes) : List (Option Nat) :=
  [reservedCheck d [(16, 8)], need (fld d 16 8 ≤ s.beat + 2 ^ 32) 0x12, s.stateCheck c d,
   need (s.det c != 2 || s.onGrid c (fld d 16 8) || s.markNext c i) 0x12]

/-- LAUNCH_AT at the front of a ring (R255, R259). A late one is released at the next boundary, or ends a D2 step. -/
def issueLaunchAt (s : State) (c i : Nat) (d : Bytes) : State :=
  let b := fld d 16 8
  let set := s.det c == 2
  s.issueDesc c i d (launchChecks s c i d)
    fun s =>
      if s.beat < b then s.hold c (.launchAt i b false)
      else if set then ((s.endDesc c i 0xB4).craise c O_DET_FLAGS 0).endStep c 0xB4 none
      else ((s.cbump c O_LAUNCH_LATE_COUNT 1).craise c O_DET_FLAGS 0).hold c (.launchAt i (s.beat + 1) true)

/-- LAUNCH_AT (R255). -/
def execLaunchAt (c : Nat) (s : State) : Host.Outcome State Fault Refusal :=
  finish s (s.takeFront c (fun d => fld d 0 1 == 0x32) fun i d => issueLaunchAt s c i d)

/-- Does a run of released commands end before a descriptor (R255, R395): one that holds the ring, a window at the limit of
R142, STOP_ON_ERROR, or an intake whose bytes the host must supply? -/
def State.endsRun (s : State) (c : Nat) (d : Bytes) : Bool :=
  let op := fld d 0 1
  [0x30, 0x31, 0x32, 0x33, 0x35, 0x20, 0x23, 0x41].contains op || fld d 1 1 / 2 % 2 == 1
    || ((op == 0x01 || op == 0x02) && s.atWindowLimit c) || (op == 0x21 && fld d 50 1 % 4 != 0)

/-- One command of a run issued at beat `b`. -/
def State.issueOf (s : State) (c i : Nat) (d : Bytes) (b : Nat) : State :=
  match fld d 0 1 with
  | 0x00 => issueNop s c i d
  | 0x01 => issueLayerFwd s c i d (some b)
  | 0x02 => issueLayerBwd s c i d (some b)
  | 0x03 => issueGrouped s c i d
  | 0x10 => issueCopy s c i d
  | 0x11 => issueLayout s c i d
  | 0x12 => issueFabricCopy s c i d
  | 0x21 => issueIntake s c i d [] []
  | 0x22 => issueSlotSwitch s c i d (some b)
  | 0x34 => issueEndLoop s c i d
  | 0x40 => releaseCancelBatch s c i d b
  | 0x42 => issueDigestSnap s c i d
  | _ => s.issueDesc c i d [some 0x13] id

/-- The run of commands after a LAUNCH_AT (R255); `n` bounds it. -/
def State.runFrom (s : State) (c b : Nat) : Nat → State
  | 0 => s
  | n + 1 =>
    let s := if (s.ctx c).ring.fetched.isEmpty && !(s.ctx c).ring.paused then s.fetchMore c else s
    match s.front c with
    | none => s
    | some (i, d) => if s.endsRun c d then s else State.runFrom (s.issueOf c i d b) c b n

/-- A STEP_MARK that stands immediately after the LAUNCH_AT takes effect first (R253, R255). -/
def State.markFirst (s : State) (c b : Nat) : State :=
  let s := if (s.ctx c).ring.fetched.isEmpty && !(s.ctx c).ring.paused then s.fetchMore c else s
  match s.front c with
  | some (i, d) =>
    if fld d 0 1 != 0x30 || fld d 1 1 / 2 % 2 == 1 then s
    else
      let s := issueStepMark (s.modRing c fun r => { r with afterLaunchAt := some b }) c i d
      let s := match (s.ctx c).ring.marking with
        | some (j, n, _) => if j == i then (s.stepMarkEffect c n).endDesc c i 0 else s
        | none => s
      s.modRing c fun r => { r with afterLaunchAt := none }
  | none => s

/-- The LAUNCH_AT that holds a ring: its index and its beat. -/
def Ring.launching (r : Ring) : Option (Nat × Nat) :=
  (r.holds.filterMap fun h => match h with | .launchAt i b _ => some (i, b) | _ => none).head?

/-- LAUNCH_AT_RELEASE (R255): at the boundary of its beat LAUNCH_AT ends, and the run after it is issued; a CANCEL_BATCH of
that run takes effect at a release of its own, at position 7 of R254. -/
def execLaunchAtRelease (c : Nat) (s : State) : Host.Outcome State Fault Refusal :=
  finish s <|
    match (s.ctx c).ring.launching with
    | some (i, b) =>
      if s.coreUp && b ≤ s.beat && !s.dueBelow 4 b then
        ((s.endDesc c i 0).markFirst c s.beat).runFrom c s.beat (s.cget c O_RING_ENTRIES)
      else s.cancelDue c
    | none => s.cancelDue c

end Sys2Proof.Machine
end

