-- ==== Sys2Proof/Machine/Beat.lean ====
section
/-! DEFINITION. The beat (R240 to R251, R525, R526): the boundary and what it counts, beat flits, holdover, jumps and holds. -/

namespace Sys2Proof.Machine

open Sys2Proof

/-! ### The clock of the lane cells (R529 to R532) -/

/-- ARITH_CLOCK_MHZ: the lowest clock that any cause asks for (R532). -/
def State.arithClock (s : State) : Nat :=
  if s.pwrAlert then 1800 else 3600 - 600 * min 3 (max s.powerSteps s.thermSteps)

/-! ### Jumps and holds (R250, R251) -/

/-- A D2 context with an open window when the beat jumps or is held (R251): the windows end with BEAT_JUMP, the context
goes to HALTED. -/
def State.jumpStep (s : State) (c : Nat) : State :=
  let ws := (s.ctx c).windows.filter Window.isOpen
  if s.det c != 2 || ws.isEmpty || !s.working c then s
  else (ws.foldl (fun s w => s.abandon c w 0xB2) s).endStep c 0xB2 none

/-- BEAT_JUMP raised, and the D2 steps that it ends (R250, R251). -/
def State.beatJump (s : State) : State :=
  let s := s.raise O_BEAT_FLAGS 2
  s.claimed.foldl State.jumpStep s

/-! ### What a boundary counts -/

/-- Does some flow of a context hold data but no landing credit (R156)? -/
def State.creditStarved (s : State) (c : Nat) : Bool :=
  let x := s.ctx c
  x.windows.any (fun w => w.sends && w.flows.any fun f =>
      !f.stopped && !f.markerSent && f.flits < w.flowFlits f && s.credit c (s.via f.node) == 0)
    || x.relayHeld.any fun h => h.outs.any fun o => o.left != 0 && s.credit c (s.via o.node) == 0

/-- The counters of a context that advance with the beat (R142, R150, R156, R168, R309, R334, R360, R374), parts that wait
for their weights looked at again, and intakes that waited for a slot begun. -/
def State.ctxBeat (s : State) (c : Nat) : State :=
  let x := s.ctx c
  let waits (w : Window) : Bool := s.waits c w.holder 1 || s.waits c w.holder 8 || (!w.bwd && s.waits c w.holder 5)
  let s := s.cbump c O_POOL_WAIT_BEATS (x.windows.filter waits).length
  let s := s.cbump c O_WINDOW_HOLD_BEATS (if x.ring.limited.isSome then 1 else 0)
  let s := s.cbump c O_ADMISSION_DEFERRED_BEATS (x.windows.filter fun w => w.deferred && w.phase == .issued).length
  let s := s.cbump c O_CREDIT_WAIT_BEATS (if s.creditStarved c then 1 else 0)
  let s := s.cbump c O_CARAMEL_WAIT_BEATS (if x.windows.any fun w => w.phase == .scored && s.caramelWaits c w then 1 else 0)
  let s := s.cbump c O_COLL_WAIT_BEATS
    (if x.collHolds && s.items.any fun i => i.ctx == c && i.tile.isNone then 1 else 0)
  let s := s.cbump c O_STAGE_WAIT_BEATS (x.parts.filter fun p => p.waitingStage && !p.done).length
  let s := s.cbump c O_SLOT_HOLD_BEATS (x.intakes.filter (·.waiting)).length
  let s := s.cbump c O_FLAG_HOLD_BEATS (s.remotes.filter fun q => q.held && q.req.srcCtx == c).length
  let s := s.modCtx c fun x => { x with pollTicks := s.cget c O_RING_POLL_TICKS }
  let s := s.beginIntakes c
  if x.parts.any fun p => p.waitingStage && !p.done then s.walkAll c else s

/-- The beat flits that the originating engine sends at tick 0 (R242), the frame on BEAT_OUT (R526), and the heartbeat to the
partner (R468). -/
def State.beatSignals (s : State) : State :=
  let role := s.get O_BEAT_ROLE
  let org := s.node % 2 ^ 15 + (if role == 2 then 2 ^ 15 else 0)
  let downs := (List.range 12).filter fun l => s.get O_BEAT_DOWNLINKS / 2 ^ l % 2 == 1 && s.linkUp l
  let s := if role == 0 then s else s.emits (downs.map fun l => .beatFlit l s.beat org 0 0)
  let st := s.get O_BEAT_STATE
  let s := if st == 1 || st == 2 then s.emit (.beatOut s.beat (crc8Count 7 0 s.beat)) else s
  let tw := s.get O_TWIN_STATE
  if s.coreUp && (tw == 1 || tw == 2) then s.emit (.heartbeat s.beat (s.coreWords.map (·.1))) else s

/-- The progress words of the cores at work advance (R459). -/
def State.advanceWords (s : State) : State :=
  { s with coreWords := (List.range 4).map fun k =>
      let w := s.coreWords.getD k (0, 0)
      if s.coreStates.getD k 0 == 0 then ((w.1 + 1) % 2 ^ 32, s.beat) else w }

/-- A beat in which no heartbeat of the partner has arrived is missed (R468). -/
def State.countHeart (s : State) : State :=
  if s.paired && s.lastHeart + 1 < s.beat then { s with heartMissed := s.heartMissed + 1 }.bump O_HEARTBEATS_MISSED 1 else s

/-- A beat of an engine in service: its counters, and the contexts. -/
def State.serviceBeat (s : State) : State :=
  let s := (s.bump O_UPTIME_BEATS 1).countHeart
  let s := if s.arithClock < 3600 then s.bump O_THROTTLE_BEATS 1 else s
  let s := if s.get O_BEAT_STATE == 2 then s.bump O_HOLDOVER_BEATS 1 else s
  let s := if s.holdVc4 then s.bump O_CREDIT_HOLD_BEATS 1 else s
  let s := s.put O_MIRROR_LAG_BEATS (match s.unacked with
    | [] => 0
    | u :: _ => (s.beat - u.beat) % 2 ^ 32)
  let s := s.advanceWords
  s.claimed.foldl State.ctxBeat s

/-- A new beat begins (R240): the count advances, or jumps (R250); it stands still while HELD. -/
def newBeat (s : State) : State :=
  let s := { s with
    deadSent := []
    links := s.links.map fun p => (p.1, { p.2 with replays := 0 }) }
  if !s.corePg || !s.resetN || s.get O_BEAT_STATE == 3 then s
  else
    let j := s.jumpBy
    let s := { s.put O_BEAT_COUNT ((s.beat + 1 + j) % 2 ^ 64) with jumpBy := 0 }
    let s := if s.get O_BEAT_ROLE == 1 && s.get O_BEAT_STATE != 1 then s.put O_BEAT_STATE 1 else s
    let s := if j == 0 then s else (s.bump O_BEAT_JUMP_COUNT j).beatJump
    let s := if s.coreUp then s.serviceBeat else s
    s.beatSignals

/-- BEAT_BOUNDARY (R240). -/
def execBeatBoundary (s : State) : Host.Outcome State Fault Refusal := finish s (newBeat s)

/-! ### Following the beat (R243, R247 to R250) -/

/-- A placement error noted (R247): SKEW_ESTIMATE, the correction by at most 0.5 ns, and the run of beats above the limit. -/
def State.noteSkew (s : State) (err : Int) : State :=
  let s := s.put O_SKEW_ESTIMATE (err % (2 ^ 32 : Int)).toNat
  let slew : Int := max (-500) (min 500 err)
  { s with
    freqCorr := s.freqCorr - slew
    skewRun := if err.natAbs > 1000 * s.get O_BEAT_SKEW_LIMIT then s.skewRun + 1 else 0 }

/-- The beat of an accepted flit or frame compared with the count (R247, R250). `fresh` when the engine may differ: it comes
out of HOLDOVER, or the origin has changed. -/
def State.compareBeat (s : State) (b : Nat) (fresh : Bool) : State :=
  let st := s.get O_BEAT_STATE
  let here := s.beat + s.jumpBy
  if st == 0 then (s.put O_BEAT_COUNT b).put O_BEAT_STATE 1
  else if st == 3 && b < s.beat then s
  else if st == 1 && !fresh then s
  else if b == here then s.put O_BEAT_STATE 1
  else if here < b then { s.put O_BEAT_STATE 1 with jumpBy := b - s.beat }
  else ((s.put O_BEAT_STATE 3).bump O_BEATS_HELD (here - b)).beatJump

/-- A beat flit that a follower accepts (R242, R243): its figures are noted, and it goes on to the downlinks. -/
def acceptFlit (s : State) (l : Nat) (f : BeatFlit) : State :=
  let delay := s.get (unitKey l O_LINK_DELAY_PS)
  let changed := s.get O_BEAT_STATE != 0 && s.get O_BEAT_ORIGIN != f.origin
  let s := if changed then s.raise O_BEAT_FLAGS 3 else s
  let s := ((s.put O_BEAT_ORIGIN (f.origin % 2 ^ 16)).put O_BEAT_HOPS (f.hops % 256)).put O_PATH_DELAY
    ((f.pathDelay + delay) % 2 ^ 32)
  let s := if f.hops > 32 then s.raise O_BEAT_FLAGS 1 else s
  let s := (s.compareBeat f.beat (changed || s.get O_BEAT_STATE == 2)).noteSkew f.errorPs
  let downs := (List.range 12).filter fun k => s.get O_BEAT_DOWNLINKS / 2 ^ k % 2 == 1 && s.linkUp k
  let s := s.emits (downs.map fun k =>
    .beatFlit k f.beat f.origin (min 255 (f.hops + 1)) ((f.pathDelay + delay + f.residence) % 2 ^ 32))
  { s with beatSeen := s.beat }

/-- BEAT_FLIT (R243): a beat flit arrives at a follower, or passes straight through the island (R325). -/
def execBeatFlit (l : Nat) (f : BeatFlit) (s : State) : Host.Outcome State Fault Refusal :=
  finish s <|
    if s.get O_BYPASS_STATE == 1 && 8 ≤ l && l < 12 then
      let k := 8 + oppDir (l - 8)
      if s.get (unitKey k O_LINK_STATE) == 5 then
        s.emit (.beatFlit k f.beat f.origin (min 255 (f.hops + 1))
          ((f.pathDelay + s.get (unitKey l O_LINK_DELAY_PS) + f.residence) % 2 ^ 32))
      else s
    else if !s.corePg || !s.resetN || l ≥ 12 || !s.linkUp l || s.get O_BEAT_ROLE != 0 then s
    else if s.get O_BEAT_UPLINK != l then s.bump O_BEAT_FOREIGN 1
    else acceptFlit s l f

/-- BEAT_IN_FRAME (R525): a frame of the timing card at an engine in EXTERNAL role. One that fails its CRC is ignored. -/
def execBeatInFrame (count crc : Nat) (err : Int) (s : State) : Host.Outcome State Fault Refusal :=
  finish s <|
    if s.corePg && s.resetN && s.get O_BEAT_ROLE == 2 && crc == crc8Count 7 0 count then
      let s := (s.compareBeat count (s.get O_BEAT_STATE == 2)).noteSkew err
      { s with beatSeen := s.beat, lastExtern := count }
    else s

/-- BEAT_LOST (R248): two consecutive beats have passed without an accepted beat flit, or frame of the card. -/
def execBeatLost (s : State) : Host.Outcome State Fault Refusal :=
  finish s <|
    if s.corePg && s.resetN && s.get O_BEAT_ROLE != 1 && s.get O_BEAT_STATE == 1 && s.beat ≥ s.beatSeen + 3 then
      let s := ((s.put O_BEAT_STATE 2).raise O_BEAT_FLAGS 0).bump O_BEAT_LOST_COUNT 1
      { s with holdStart := s.beat }
    else s

/-- HOLDOVER_LIMIT_PASSED (R248). -/
def execHoldoverLimitPassed (s : State) : Host.Outcome State Fault Refusal :=
  finish s <|
    if s.get O_BEAT_STATE == 2 && s.beat ≥ s.holdStart + s.get O_HOLDOVER_LIMIT then s.raise O_BEAT_FLAGS 1 else s

/-- BEAT_SKEW (R247): an error above the limit has persisted for 16 beats. -/
def execBeatSkew (err : Int) (s : State) : Host.Outcome State Fault Refusal :=
  finish s <|
    if s.corePg && s.resetN && s.get O_BEAT_STATE == 1 && err.natAbs > 1000 * s.get O_BEAT_SKEW_LIMIT && s.skewRun ≥ 16 then
      (s.put O_SKEW_ESTIMATE (err % (2 ^ 32 : Int)).toNat).raise O_BEAT_FLAGS 1
    else s

end Sys2Proof.Machine
end

