-- ==== Sys2Proof/Machine/Areas.lean ====
section
/-! DEFINITION. Writes that lay out a context's memory: pages and extents (R280), regions (R281), tensor descriptors (R291 to
R293), source windows (R340), the areas named by region index (R308, R382, R383) and the command ring's place (R385). -/

namespace Sys2Proof.Machine

open Sys2Proof

/-- The numbers of a list of U16. -/
def u16List (bs : Bytes) : List Nat := (chunks 2 bs).map leNat

/-- A list of U16 as bytes. -/
def u16Bytes (l : List Nat) : Bytes := (l.map (leBytes 2)).flatten

/-! ### Tensor descriptors (R291 to R293, R301) -/

/-- The byte extent of dimensions 0 to `i` of a linear tensor (R292). -/
def TDesc.extent (d : TDesc) : Nat → Nat
  | 0 => d.rowLen
  | i + 1 => (d.dim (i + 1) - 1) * d.strides.getD i 0 + TDesc.extent d i

/-- Does every stride of the rank clear the extent of the dimension below it (R292)? -/
def TDesc.stridesOk (d : TDesc) : Bool := (List.range (d.rank - 1)).all fun i => d.extent i ≤ d.strides.getD i 0

/-- The shape of a DIAGONAL descriptor (R301). -/
def TDesc.diagOk (d : TDesc) : Bool :=
  d.rank == 2 && d.dim 1 % 32 == 0 && d.rowLen % 512 == 0 && d.base % 65536 == 0 && d.strides.getD 0 0 == d.rowLen

/-- The header of a scale area under R40 and R48: reserved bytes 0, a known kind that is FORMAT's, escapes present as FORMAT
says and only where R48 allows them. -/
def scaleHeaderOk (h : Bytes) (f k : Nat) : Bool :=
  let esc := fld h 5 1
  fld h 4 1 == f / 4 % 4 && fld h 4 1 < 3 && esc < 2 && fld h 6 2 == 0 && fld h 12 4 == 0 && (esc == 1 || fld h 8 4 == 0)
    && (esc == 1) == escOf f && (esc == 0 || k % 128 == 0)

/-- The checks of DESC_WRITE (R292). The header of the scale area is looked at once it lies in a LINEAR region. -/
def State.descCheck (s : State) (c : Nat) (bs : Bytes) : Option Nat :=
  let d := parseDesc bs
  let x := s.ctx c
  let sc := scaleOf d.format
  let header := d.scale != 0 && x.inKind 0 d.scale 16
  firstCode
    [need (!fmtReserved d.format && fld bs 11 1 == 0 && fld bs 12 4 == 0 && d.layout < 2) 0x12,
     need (1 ≤ d.rank && d.rank ≤ 5 && d.dims.all (· != 0) && (d.dims.drop d.rank).all (· == 1)) 0x12,
     need (d.handle < s.descMax c) 0x12,
     need (d.dim 0 * d.elem.bits % 8 == 0 && d.stridesOk) 0x12,
     need (d.layout == 0 || d.diagOk) 0x12,
     need (sc != .none || d.scale == 0) 0x12,
     need (!escOf d.format || (escTakes d.elem && d.dim 0 % 128 == 0)) 0x12,
     need (!header || scaleHeaderOk (s.rd d.scale 16) d.format (d.dim 0)) 0x12,
     need (scaleTakes d.elem sc && (sc.block == 0 || d.dim 0 % sc.block == 0)) 0x13,
     need (x.inKind d.layout d.base d.span) 0xC5,
     need (sc == .none || (header && x.inKind 0 d.scale (s.descScaleLen d))) 0xC5]

/-- DESC_WRITE accepted: the image is stored at HANDLE × 64, and the handle is valid (R292, R293). -/
def State.storeDesc (s : State) (c : Nat) (bs : Bytes) : State :=
  let h := (parseDesc bs).handle
  match s.descAddr c h with
  | none => s
  | some a =>
    (s.wr a bs).modCtx c fun x =>
      { x with handles := h :: x.handles.filter (· != h), descImage := bs }

/-! ### Pages and extents (R280) -/

/-- Opcodes whose commands hold pages and extents while they are in progress, windows apart (R280). -/
def holdsMemory (op : Nat) : Bool := [0x03, 0x10, 0x11, 0x12, 0x20, 0x21, 0x23, 0x41].contains op

/-- Does a command of the context that touches memory go on, or a restore into it (R280)? -/
def State.memBusy (s : State) (c : Nat) : Bool :=
  let x := s.ctx c
  x.windows.any Window.isOpen || x.ring.active.any (fun a => holdsMemory a.op)
    || (match s.restoring with | some j => j.ctx == c | none => false)

/-- Does a descriptor's tensor or scale area reach into leaving units? -/
def State.descReaches (s : State) (c : Nat) (hbm : Bool) (units : List Nat) (h : Nat) : Bool :=
  match s.descAddr c h with
  | none => false
  | some a =>
    let d := parseDesc (s.rd a 64)
    reaches hbm units a 64 || reaches hbm units d.base d.span || reaches hbm units d.scale (s.descScaleLen d)

/-- Does a weight-slot entry reach into leaving units, scale areas included? Weights of a COLD entry lie in host memory. -/
def State.entryReaches (s : State) (c : Nat) (hbm : Bool) (units : List Nat) (e : SlotEntry) : Bool :=
  let (gn, gk) := s.partDims c e.expert false
  let (dn, dk) := s.partDims c e.expert true
  let part (fmt n k p sp : Nat) : Bool :=
    reaches hbm units p (n * rowBytes ((elemOf fmt).getD .bf16) k) || reaches hbm units sp (compactScaleLen fmt n k)
  let grad (n k p : Nat) : Bool := p != 0 && reaches hbm units p (n * k * 4)
  (!e.cold && (part e.wFmt gn gk e.gu e.guScale || (e.expert != 0xFFFF && part e.dFmt dn dk e.down e.downScale)))
    || grad gn gk e.gradGu || (e.expert != 0xFFFF && grad dn dk e.gradDown)

/-- Units that a list of the context would gain, and those it would lose. -/
def gained (old new : List Nat) : List Nat := new.filter fun u => !old.contains u
/-- Units that leave a list. -/
def lost (old new : List Nat) : List Nat := (old.filter fun u => !new.contains u).eraseDups

/-- The units a context holds: pages, or extents. -/
def Ctx.units (x : Ctx) (hbm : Bool) : List Nat := if hbm then x.hbmExtents else x.lsPages

/-- The checks of a write of LS_PAGES or HBM_EXTENTS (R280, R466). A unit named twice is not free the second time. -/
def State.unitsCheck (s : State) (c : Nat) (hbm : Bool) (new : List Nat) : Option Nat :=
  let x := s.ctx c
  let leave := lost (x.units hbm) new
  let free (u : Nat) : Bool := (if hbm then s.extentOwner u else s.pageOwner u) == 0xFFFF
  firstCode
    [need ((gained (x.units hbm) new).all free && new.eraseDups.length == new.length) 0xC4,
     need (!x.regions.any fun r => reaches hbm leave r.base r.len) 0xC4,
     need (leave.isEmpty || !s.memBusy c) 0xC4]

/-- A write of LS_PAGES or HBM_EXTENTS accepted: descriptors and slot entries that reach into leaving units are removed, the
units are wiped (R280). -/
def State.setUnits (s : State) (c : Nat) (hbm : Bool) (new : List Nat) : State :=
  let x := s.ctx c
  let leave := lost (x.units hbm) new
  let gone := x.handles.filter (s.descReaches c hbm leave)
  let dead := ((s.slotEntries c).filter fun p => s.entryReaches c hbm leave p.2).map fun p => p.1.pos
  let s := s.modCtx c fun x =>
    { x with
      handles := x.handles.filter fun h => !gone.contains h
      slotMarks := x.slotMarks.filter fun m => !dead.contains m.pos
      lsPages := if hbm then x.lsPages else new
      hbmExtents := if hbm then new else x.hbmExtents }
  (s.wipeUnits (if hbm then [] else leave) (if hbm then leave else [])).ownersUp

/-! ### Regions (R281) -/

/-- The entries of a REGIONS image; reserved bytes are ignored (R7). -/
def parseRegions (bs : Bytes) : List Region := (chunks 32 bs).map fun e => ⟨fld e 0 8, fld e 8 8, fld e 16 1⟩

/-- The image of a region list. -/
def regionsImage (l : List Region) : Bytes :=
  (l.map fun r => leBytes 8 r.base ++ leBytes 8 r.len ++ leBytes 1 r.kind ++ List.replicate 15 0).flatten

/-- Is `n` the node of this engine, or that as which it answers for context `c` (R281, R469)? -/
def State.ownNode (s : State) (c n : Nat) : Bool := n == s.node || n == s.nodeOf c

/-- One region by itself (R281). -/
def State.regionOk (s : State) (c : Nat) (r : Region) : Bool :=
  s.ownNode c (addrNode r.base) && addrSpace r.base < 2 && r.base % 4096 == 0 && 4096 ≤ r.len && r.len % 4096 == 0
    && r.kind < 3
    && (r.kind != 1 || (addrSpace r.base == 0 && r.base % 65536 == 0 && r.len % 65536 == 0))

/-- Does a DIAGONAL or ENGINE region overlap another (R281)? -/
def regionsClash : List Region → Bool
  | [] => false
  | r :: l => l.any (fun q => (r.kind != 0 || q.kind != 0) && r.meets q.base q.len) || regionsClash l

/-- Spans that must stay within a region of their kind: pools with their metadata, and the command ring (R281). -/
def State.anchored (s : State) (c : Nat) : List (Nat × Nat) :=
  let pools := (List.range 256).filter fun p => s.pget p O_OWNER_CONTEXT == c && s.pget p O_POOL_STATE != 0
  (pools.map fun p => [(s.pget p O_BASE, s.pget p O_LENGTH), (s.pget p O_META_BASE, metaLen (s.pget p O_BUF_COUNT))]).flatten
    ++ (if s.cget c O_RING_BASE == 0 then [] else [(s.cget c O_RING_BASE, 64 + 64 * s.cget c O_RING_ENTRIES)])

/-- The objects that name a region by its index (R281). -/
def areaObjs : List Nat := [O_DESC_AREA, O_SLOT_TABLE_AREA, O_GROUP_AREA, O_STAGE_REGION]

/-- The checks of a write of REGIONS (R281). -/
def State.regionsCheck (s : State) (c : Nat) (new : List Region) : Option Nat :=
  let x := s.ctx c
  let kept (r : Region) : Bool := new.any fun q => q.kind == r.kind && q.holds r.base r.len
  let anchors := s.anchored c
  firstCode
    [need (new.all (s.regionOk c)) 0x12,
     need (new.all fun r => x.owns r.base r.len) 0xC4,
     need (!regionsClash new) 0xC4,
     need (x.regions.all fun r => kept r || !anchors.any fun a => r.holds a.1 a.2) 0xC4,
     need (areaObjs.all fun k => s.cget c k == 0xFF || x.regions[s.cget c k]? == new[s.cget c k]?) 0xC4]

/-! ### Source windows (R340) -/

/-- The entries of a SRC_WINDOWS image. -/
def parseWindows (bs : Bytes) : List SrcWindow :=
  (chunks 32 bs).map fun e => ⟨fld e 0 2, fld e 2 2, fld e 4 1, fld e 5 1, fld e 8 8, fld e 16 8⟩

/-- The image of a window list. -/
def windowsImage (l : List SrcWindow) : Bytes :=
  (l.map fun w => leBytes 2 w.nodeFirst ++ leBytes 2 w.nodeLast ++ leBytes 1 w.space ++ leBytes 1 w.perm ++ leBytes 2 0
    ++ leBytes 8 w.offset ++ leBytes 8 w.length ++ leBytes 8 0).flatten

/-- Does a range of HBM space reach into the spare region of a stack (R278, R340)? -/
def State.hitsSpare (s : State) (off n : Nat) : Bool :=
  (List.range 4).any fun st =>
    let top := st * 2 ^ 36 + s.stackCaps.getD st 0 * 2 ^ 30
    s.stackCaps.getD st 0 != 0 && off < top && top - 2 ^ 33 < off + n

/-- One source window (R340). -/
def State.windowOkay (s : State) (e : Bytes) (w : SrcWindow) : Bool :=
  w.nodeFirst < 2 ^ 15 && w.nodeLast < 2 ^ 15 && w.nodeFirst ≤ w.nodeLast && w.space < 2 && w.perm < 32
    && fld e 6 2 == 0 && fld e 24 8 == 0 && w.length % 64 == 0
    && (w.space != 0 || w.length == 0 || w.offset + w.length ≤ 7680 * 65536 || 8192 * 65536 ≤ w.offset)
    && (w.space != 1 || !s.hitsSpare w.offset w.length)

/-- The check of a write of SRC_WINDOWS (R340). -/
def State.windowsCheck (s : State) (bs : Bytes) : Option Nat :=
  need (((chunks 32 bs).zip (parseWindows bs)).all fun p => s.windowOkay p.1 p.2) 0x12

/-! ### Areas named by a region index (R308, R382, R383), and the ring (R385) -/

/-- A region index is FFh, or names a region of a kind (and, for STAGE_REGION, in Local Store). -/
def State.areaCheck (s : State) (c k v : Nat) : Option Nat :=
  let kind := if k == O_STAGE_REGION then 0 else 2
  match (s.ctx c).regions[v]? with
  | some r => need (v == 0xFF || (r.kind == kind && (k != O_STAGE_REGION || addrSpace r.base == 0))) 0x12
  | none => need (v == 0xFF) 0x12

/-- RING_BASE and RING_ENTRIES together (R385); RING_BASE 0 places no ring. -/
def State.ringCheck (s : State) (c base n : Nat) : Option Nat :=
  if base == 0 then none
  else firstCode
    [need (base % 64 == 0 && addrSpace base < 2) 0x12, need ((s.ctx c).inKind 0 base (64 + 64 * n)) 0xC5]

end Sys2Proof.Machine
end

