-- ==== Sys2Proof/Machine/Guardian.lean ====
section
/-! DEFINITION. Guardian (R447 to R464): the profile, cell faults, quarantine, return and sleep of tiles and regions, the
engine's quarantine, scrub, retired pages and extents, the sequencer cores, and the notice interval. -/

namespace Sys2Proof.Machine

open Sys2Proof

/-! ### Dealing items again (R159, R172, R173, R463) -/

/-- Items that a part or a job has had posted to a region. -/
def State.postedOf (s : State) (it : Item) (r : Nat) : Nat :=
  let l := if it.kind == 2 then ((s.ctx it.ctx).job it.tag).map (·.posted)
    else ((s.ctx it.ctx).part it.tag (it.kind == 1)).map (·.posted)
  (l.getD []).getD r 0

/-- One more item of a part or a job posted to a region. -/
def State.countPosted (s : State) (it : Item) (r : Nat) : State :=
  let n := s.postedOf it r + 1
  if it.kind == 2 then
    match (s.ctx it.ctx).job it.tag with
    | some j => s.setJob it.ctx { j with posted := j.posted.set r n }
    | none => s
  else
    match (s.ctx it.ctx).part it.tag (it.kind == 1) with
    | some p => s.setPart it.ctx { p with posted := p.posted.set r n }
    | none => s

/-- An item of region `r0` dealt again to region `r`: an unstarted one is moved, for a started one a fresh item is posted at
the head of the list (R172) or dealt in its turn (R173), and what the tile still delivers of the old one is stale (R461). -/
def State.dealAgain (s : State) (it : Item) (r : Nat) : State :=
  let own := s.partTiles r it.first
  let tiles := if own.isEmpty then s.activeTiles r else own
  let d0 := s.det it.ctx == 0
  let n := s.postedOf it r
  let fresh := { it with
    id := if it.tile.isSome then s.nextItem else it.id
    tile := none
    region := r
    dealt := if d0 then none else tiles[n % max 1 tiles.length]?
    key := if d0 && it.tile.isSome then [] else it.key
    runs := 0
    first := if own.isEmpty then 0 else it.first }
  let fresh := if own.isEmpty then { fresh with first := s.nextItem } else fresh
  let rest := if it.tile.isSome then
      s.items.map fun (v : Item) => if v.id == it.id && v.tile.isSome then { v with ctx := 0xFFFF } else v
    else s.items.filter fun (v : Item) => v.id != it.id
  let s := { s with items := fresh :: rest, nextItem := s.nextItem + (if it.tile.isSome then 1 else 0) }
  s.countPosted it r

/-- Items that a tile holds or has dealt to it. -/
def State.tileItems (s : State) (t : Nat) : List Item :=
  s.items.filter fun (i : Item) => i.ctx != 0xFFFF && (i.tile == some t || (i.tile.isNone && i.dealt == some t))

/-! ### Quarantine of the engine (R454) -/

/-- A checkpoint that stops before its seal leaves its slot INVALID, and a drain that stops its slot VALID (R504). A restore
or a verify stops with it. -/
def State.abortCkpt (s : State) : State :=
  let s := { s with restoring := none }
  match s.ckpt with
  | none => s.put O_CKPT_PHASE 0
  | some j =>
    let s := { s with ckpt := none }.put O_CKPT_PHASE 0
    if j.phase == 4 then s
    else
      let s := if j.phase == 1 then s
        else { s with ckptStates := s.ckptStates.set j.slot 3 }.genUp O_CKPT_SLOT_STATE
      (s.raise O_CKPT_FLAGS 5).bump O_CHECKPOINTS_ABORTED 1

/-- Is a key an object of a context or of a pool? -/
def isCtxOrPool (k : Nat) : Bool := (0x800000 ≤ k && k < 0xC00000) || (0x240000 ≤ k && k < 0x250000)

/-- Every context ends, and the data it held is lost (R454). What the engine held for its partner is lost too. -/
def State.loseContexts (s : State) : State :=
  { s.abortCkpt with
    objs := s.abortCkpt.objs.filter fun p => !isCtxOrPool p.1
    raises := s.abortCkpt.raises.filter fun p => !isCtxOrPool (p.1 / 32)
    ctxs := [], pools := [], groups := [], items := [], gradHeld := [], queues := [], remotes := [], lapsed := []
    holdVc4 := false, shadows := [], partnerPages := [], partnerExtents := [], heldHalf := [], unacked := []
    probing := none, taking := none, handing := none, staged := [], wipingPages := [], wipingExtents := [] }

/-- The engine quarantines itself: it yields to its twin, its heartbeats stop, and it enters bypass. Its contexts end: a
paired twin takes them over, and otherwise they are lost. -/
def State.quarantineEngine (s : State) : State :=
  if s.get O_ENGINE_STATE == 3 then s
  else
    let s := s.raiseLog O_GD_FLAGS 3 0xEB 4 0 0 0xFFFF 0
    let s := if s.paired then s.emit .yield else s
    (s.loseContexts.put O_ENGINE_STATE 3).enterBypass

/-! ### Quarantine of regions and tiles (R452, R453, R464) -/

/-- The place of a row block among those of its part or job, from which its region follows (R173). -/
def blockPlace (blocks : List RowBlock) (b : RowBlock) : Nat :=
  ((blocks.filter fun v => v.kind == b.kind).idxOf? b).getD 0

/-- A row block of a context moves to a region at work, with its items. `kind` is that of its items. -/
def State.moveBlock (s : State) (c tag kind : Nat) (b : RowBlock) (place first : Nat) : State :=
  let r := s.regionFor c first place
  let s := if kind == 2 then
      match (s.ctx c).job tag with
      | some j => s.setJob c (j.setBlock { b with region := r })
      | none => s
    else
      match (s.ctx c).part tag (kind == 1) with
      | some p => s.setPart c (p.setBlock { b with region := r })
      | none => s
  let mine (i : Item) : Bool :=
    i.ctx == c && i.tag == tag && i.kind == kind && i.group == b.expert && i.rb == b.rb
      && (if kind == 1 && (i.phase == 5 || i.phase == 7) then i.phase else 0) == b.kind
  (s.items.filter mine).foldl (fun s i => s.dealAgain i r) s

/-- Everything posted to region `r` goes to the remaining regions (R453). -/
def State.emptyRegion (s : State) (r : Nat) : State :=
  s.claimed.foldl
    (fun s c =>
      let x := s.ctx c
      let s := (x.parts.filter fun p => !p.done).foldl
        (fun s p => (p.blocks.filter fun b => b.region == r && b.phase < 8).foldl
          (fun s b => s.moveBlock c p.tag (if p.bwd then 1 else 0) b (blockPlace p.blocks b) (p.firstItem.getD s.nextItem)) s) s
      x.grouped.foldl
        (fun s j => (j.blocks.filter fun b => b.region == r && b.phase < 8).foldl
          (fun s b => s.moveBlock c j.idx 2 b (blockPlace j.blocks b) (j.firstItem.getD s.nextItem)) s) s) s

/-- A region leaves service, quarantined (1) or asleep (3): its table epoch advances (R461), its items go to the others. -/
def State.stopRegion (s : State) (r st : Nat) : State :=
  let e := ((s.reg r).epoch + 1) % 2 ^ 32
  let s := (s.modReg r fun g => { g with state := st, epoch := e }).genUp O_REGION_EPOCHS
  let s := if st == 1 then s.raiseLog O_HEALTH_FLAGS 3 0xF3 2 1 r 0xFFFF e else s
  if s.activeRegions.length < 3 then s.quarantineEngine else s.emptyRegion r

/-- A region quarantined (R453). -/
def State.quarantineRegion (s : State) (r : Nat) : State := if (s.reg r).state == 1 then s else s.stopRegion r 1

/-- A tile quarantined (R452): its table epoch advances, its items are dealt again; a region with fewer than 48 active tiles
is quarantined (R453). -/
def State.quarantineTile (s : State) (t : Nat) : State :=
  if (s.tile t).state == 1 then s
  else
    let e := ((s.tile t).epoch + 1) % 2 ^ 32
    let s := (s.modTile t fun v => { v with state := 1, epoch := e }).genUp O_TILE_EPOCHS
    let s := s.raiseLog O_HEALTH_FLAGS 2 0xF2 2 2 t 0xFFFF e
    if !s.regActive (t / 64) then s
    else if (s.activeTiles (t / 64)).length < 48 then s.quarantineRegion (t / 64)
    else (s.tileItems t).foldl (fun s i => s.dealAgain i (t / 64)) s

/-! ### Cell faults (R449 to R452) -/

/-- Faults of a cell within the retire window, this one among them. -/
def State.recentFaults (s : State) (t cell : Nat) : Nat :=
  ((s.tile t).faults.filter fun f => f.1 == cell && s.beat < f.2 + s.get O_RETIRE_WINDOW).length

/-- A cell retired to a spare; without a spare the tile is quarantined (R451, R452). -/
def State.retireCell (s : State) (t cell : Nat) : State :=
  if (s.tile t).spares ≥ 8 then s.quarantineTile t
  else
    let s := s.modTile t fun v => { v with spares := v.spares + 1, retired := v.retired ++ [cell] }
    s.raiseLog O_HEALTH_FLAGS 1 0xF1 2 3 (t * 264 + cell) 0xFFFF 0

/-- The item that a tile's cells run is run again; after the third faulted run in a row the tile is quarantined (R159,
R452). -/
def State.replay (s : State) (t : Nat) : State :=
  match s.items.find? fun (i : Item) => i.tile == some t && i.ctx != 0xFFFF with
  | none => s
  | some it =>
    let s := s.bump (unitKey t O_TILE_REPLAYS) 1
    let s := { s with items := s.items.map fun (v : Item) => if v.id == it.id then { v with runs := v.runs + 1 } else v }
    if it.runs + 1 ≥ 3 then s.quarantineTile t else s

/-- A cell fault (R451). -/
def cellFault (s : State) (t cell : Nat) (double : Bool) : State :=
  let s := s.modTile t fun v => { v with faults := v.faults ++ [(cell, s.beat)] }
  let s := (s.bump O_CELL_FAULTS 1).raiseLog O_HEALTH_FLAGS 0 0xF0 1 3 (t * 264 + cell) 0xFFFF 0
  let s := if double || s.recentFaults t cell ≥ s.get O_RETIRE_LIMIT then s.retireCell t cell else s
  s.replay t

/-- CELL_FAULT (R451): a fault that a cell, a tile, a region or the spine reports. -/
def execCellFault (t cell : Nat) (kind : CellFaultKind) (s : State) : Host.Outcome State Fault Refusal :=
  finish s <|
    if !s.coreUp then s
    else match kind with
      | .spineUncorrectable => s.quarantineEngine
      | .regionParity => if t < 320 && s.regActive (t / 64) then s.quarantineRegion (t / 64) else s
      | .tileParity => if t < 320 && s.tileActive t then s.quarantineTile t else s
      | _ =>
        if !(t < 320 && cell < 264 && s.tileActive t) || (s.tile t).retired.contains cell then s
        else match kind with
          | .registerSingle => s.bump O_REGFILE_CORRECTED 1
          | .registerDouble => cellFault s t cell true
          | _ => if s.get O_RESIDUE_ENABLE == 1 then cellFault s t cell false else s

/-! ### Return and sleep (R462 to R464) -/

/-- The state of the selected unit: a tile, or a region from 400h on (R475). -/
def State.unitState (s : State) (u : Nat) : Nat := if u ≥ 0x400 then (s.reg (u - 0x400)).state else (s.tile u).state

/-- The state of a unit set. -/
def State.setUnitState (s : State) (u st : Nat) : State :=
  if u ≥ 0x400 then s.modReg (u - 0x400) fun g => { g with state := st } else s.modTile u fun t => { t with state := st }

/-- UNIT_CTRL QUARANTINE (R453): of a tile, or of a region, whatever state it is in. -/
def ctlUnitQuarantine (s : State) (u : Nat) : Eff :=
  .ok (if u ≥ 0x400 then s.quarantineRegion (u - 0x400) else s.quarantineTile u)

/-- UNIT_CTRL RETURN (R462): of a unit that is quarantined or asleep. -/
def ctlUnitReturn (s : State) (u : Nat) : Eff :=
  if s.unitState u == 1 || s.unitState u == 3 then .ok (s.setUnitState u 2) else .error 0x21

/-- UNIT_CTRL SLEEP (R464): of a region at work, while at least three others are. -/
def ctlUnitSleep (s : State) (u : Nat) : Eff :=
  if u < 0x400 then .error 0x12
  else if (s.reg (u - 0x400)).state != 0 || s.activeRegions.length < 4 then .error 0x21
  else .ok (s.stopRegion (u - 0x400) 3)

/-- A write of UNIT_CTRL (R475, R536). -/
def ctlUnit (s : State) (u v : Nat) : Eff :=
  match v with
  | 1 => ctlUnitQuarantine s u
  | 2 => ctlUnitReturn s u
  | 3 => ctlUnitSleep s u
  | _ => .error 0x12

/-- The unit that returns takes GD's epoch and joins work posted from now on (R462, R463). What it had not delivered is
wiped. -/
def State.unitJoins (s : State) (u : Nat) : State :=
  if u ≥ 0x400 then
    let r := u - 0x400
    let s := s.modReg r fun g => { g with state := 0, unitEpoch := g.epoch }
    let s := ((List.range 64).map (64 * r + ·)).foldl (fun s t => s.modTile t fun v => { v with returnedAt := s.nextItem }) s
    { s with items := s.items.filter fun (i : Item) => !((i.tile.map (· / 64)) == some r) }
  else
    let s := s.modTile u fun v => { v with state := 0, unitEpoch := v.epoch, returnedAt := s.nextItem }
    { s with items := s.items.filter fun (i : Item) => i.tile != some u }

/-- UNIT_RETURNED (R462): the self-test of a returning unit has ended. -/
def execUnitReturned (u : Nat) (passed : Bool) (s : State) : Host.Outcome State Fault Refusal :=
  finish s <|
    if !s.coreUp || !(u < 320 || (0x400 ≤ u && u ≤ 0x404)) || s.unitState u != 2 then s
    else if !passed then s.setUnitState u 1
    else
      let s := s.unitJoins u
      let kind := if u ≥ 0x400 then 1 else 2
      let e := if u ≥ 0x400 then (s.reg (u - 0x400)).epoch else (s.tile u).epoch
      s.raiseLog O_HEALTH_FLAGS 5 0xF5 0 kind (u % 0x400) 0xFFFF e

/-! ### Scrub and memory faults (R456 to R458) -/

/-- The owner of a line of memory as the log names it: a context, or FFFFh. -/
def State.lineOwner (s : State) (a : Nat) : Nat :=
  let o := if addrSpace a == 1 then s.extentOwner (extentOf (addrOff a)) else s.pageOwner (pageOf (addrOff a))
  if o < 1024 then o else 0xFFFF

/-- A page or extent retired (R458): out of service once its context releases it. -/
def State.retireUnit (s : State) (hbm : Bool) (u : Nat) : State :=
  if hbm then
    if s.deadExtents.contains u then s
    else ({ s with deadExtents := s.deadExtents ++ [u] }.bumpW 16 O_RETIRED_EXTENTS 1).ownersUp
  else if s.deadPages.contains u then s
  else ({ s with deadPages := s.deadPages ++ [u] }.bumpW 16 O_RETIRED_PAGES 1).ownersUp

/-- A line found uncorrectable is poisoned (R457); the second one of a page or extent within 2^20 beats retires it
(R458). -/
def State.poison (s : State) (a : Nat) : State :=
  let line := addrKey a / 64 * 64
  if s.poisoned.any fun p => p.1 == line then s
  else
    let hbm := addrSpace a == 1
    let unit (k : Nat) : Nat := if hbm then extentOf (k % 2 ^ 46) else pageOf k
    let near := s.poisoned.any fun p =>
      (p.1 / 2 ^ 46 == line / 2 ^ 46) && unit p.1 == unit line && s.beat ≤ p.2 + 1048576
    let s := { s with poisoned := s.poisoned ++ [(line, s.beat)] }
    let place := if hbm then addrOff a / 2 ^ 36 else pageOf (addrOff a) / 24
    let s := s.raiseLog O_GD_FLAGS 1 0xE9 3 (if hbm then 5 else 4) place (s.lineOwner a) (mkAddr s.node (addrSpace a) (addrOff a))
    if near then s.retireUnit hbm (unit line) else s

/-- A correctable error found and written back (R456): the first after a clear raises MEM_CORRECTED (R477). -/
def State.corrected (s : State) (a : Nat) : State :=
  let hbm := addrSpace a == 1
  let s := s.bump (if hbm then O_HBM_CORRECTED else O_LS_CORRECTED) 1
  let s := if hbm then s.bump (unitKey (addrOff a / 2 ^ 36 % 4) O_PORT_ECC_CORRECTED) 1 else s
  if s.get O_GD_FLAGS % 2 == 1 then s
  else s.raiseLog O_GD_FLAGS 0 0xE8 1 (if hbm then 5 else 4) (if hbm then addrOff a / 2 ^ 36 else pageOf (addrOff a) / 24)
    (s.lineOwner a) (mkAddr s.node (addrSpace a) (addrOff a))

/-- Is an address one of the memory that a scrub path reads: Local Store of 512 MiB, or a stack in service (R319, R456)? -/
def State.scrubbed (s : State) (hbm : Bool) (a : Nat) : Bool :=
  if hbm then
    let st := addrOff a / 2 ^ 36
    addrSpace a == 1 && s.get O_HBM_PORTS_UP / 2 ^ st % 2 == 1 && st < 4
      && addrOff a % 2 ^ 36 < s.stackCaps.getD st 0 * 2 ^ 30
  else addrSpace a == 0 && addrOff a < 2 ^ 29

/-- SCRUB_PASS (R456, R457): a pass over Local Store or HBM has ended after `ms` milliseconds. -/
def execScrubPass (hbm : Bool) (ms : Nat) (findings : List ScrubFinding) (s : State) : Host.Outcome State Fault Refusal :=
  finish s <|
    let bit := if hbm then 1 else 0
    if !s.coreUp || s.get O_SCRUB_ENABLE / 2 ^ bit % 2 == 0 then s
    else
      let s := findings.foldl
        (fun s f =>
          match f with
          | .corrected a => if s.scrubbed hbm a then s.corrected a else s
          | .uncorrectable a => if s.scrubbed hbm a then s.poison a else s) s
      let period := if hbm then 1000 * s.get O_HBM_SCRUB_PERIOD_S else s.get O_LS_SCRUB_PERIOD_MS
      let s := s.put (if hbm then O_HBM_PASS_LAST_MS else O_LS_PASS_LAST_MS) (ms % 2 ^ 32)
      let others := s.scrubLate - (if s.scrubLate / 2 ^ bit % 2 == 1 then 2 ^ bit else 0)
      if 4 * ms > 5 * period then
        { s with scrubLate := others + 2 ^ bit }.raiseLog O_GD_FLAGS 4 0xEC 2 (if hbm then 5 else 4) 0 0xFFFF 0
      else { s with scrubLate := others }

/-- Does a page or extent come first in its slice or stack among those being wiped (R304)? -/
def wipesFirst (l : List Nat) (per u : Nat) : Bool := l.contains u && l.all fun v => v / per != u / per || u ≤ v

/-- WIPE_COMPLETE (R303): a page or extent has been wiped and read back. -/
def execWipeComplete (extent : Bool) (u : Nat) (ok : Bool) (s : State) : Host.Outcome State Fault Refusal :=
  finish s <|
    if !s.coreUp then s
    else if extent then
      if wipesFirst s.wipingExtents 4096 u then
        let s := { s with wipingExtents := s.wipingExtents.filter (· != u) }.wipeSpan (2 ^ 46 + u * 2 ^ 24) (2 ^ 24)
        (if ok then s else s.retireUnit true u).ownersUp
      else s
    else if wipesFirst s.wipingPages 24 u then
      let s := { s with wipingPages := s.wipingPages.filter (· != u) }.wipeSpan (u * 65536) 65536
      (if ok then s else s.retireUnit false u).ownersUp
    else s

/-! ### Sequencer cores (R459, R460) -/

/-- The descriptors that the rings of a core's contexts had read are read again from CONSUMER (R460). -/
def State.dropFetched (s : State) (core : Nat) : State :=
  (s.claimed.filter fun c => s.coreOf c == core).foldl (fun s c => s.modRing c fun r => { r with fetched := [] }) s

/-- A core fault (R460): the core restarts, or, at the third within 2^20 beats, is retired. -/
def coreFault (s : State) (k : Nat) : State :=
  let s := (s.bump O_SQ_CORE_FAULTS 1).raiseLog O_GD_FLAGS 2 0xEA 2 7 k 0xFFFF 0
  let s := s.dropFetched k
  let recent := (s.coreFaults.filter fun f => f.1 == k && s.beat ≤ f.2 + 1048576).length
  let st : Nat := if recent ≥ 2 then 2 else 1
  let s : State := { s with coreFaults := s.coreFaults ++ [(k, s.beat)], coreStates := s.coreStates.set k st }
  let s := s.genUp O_SQ_CORE_STATE
  if (s.coreStates.filter (· != 2)).length ≤ 1 then s.quarantineEngine else s

/-- SQ_CORE_FAULT (R460): a check of the core itself has found a fault. -/
def execSqCoreFault (k : Nat) (s : State) : Host.Outcome State Fault Refusal :=
  finish s (if s.coreUp && k < 4 && s.coreStates.getD k 0 == 0 then coreFault s k else s)

/-- PROGRESS_WORD_ALARM (R459): the core's word has stood still for 1,024 beats, or for 64 beats as the twin saw it. -/
def execProgressWordAlarm (k : Nat) (s : State) : Host.Outcome State Fault Refusal :=
  finish s (if s.coreUp && k < 4 && s.coreStates.getD k 0 == 0 then coreFault s k else s)

/-- SQ_CORE_RESTART (R460). -/
def execSqCoreRestart (k : Nat) (s : State) : Host.Outcome State Fault Refusal :=
  finish s <|
    if s.coreUp && s.coreStates.getD k 0 == 1 then
      ({ s with coreStates := s.coreStates.set k 0 }.dropFetched k).genUp O_SQ_CORE_STATE
    else s

/-! ### Profile and notices (R446, R447) -/

/-- PROFILE as its conditions stand (R447): 1 GUARDED, 0 BASIC. A scrub pass that ended late leaves BASIC until one ends on
time. -/
def State.profileNow (s : State) : Nat :=
  if s.get O_SCRUB_ENABLE == 3 && s.get O_LS_SCRUB_PERIOD_MS == 16 && s.get O_HBM_SCRUB_PERIOD_S == 8
      && s.get O_RESIDUE_ENABLE == 1 && s.paired && (s.exceeded == 0 || s.beat ≥ s.exceeded + 1024)
      && s.scrubLate == 0 then 1 else 0

/-- PROFILE_CHANGE (R447). -/
def execProfileChange (s : State) : Host.Outcome State Fault Refusal :=
  finish s <|
    if s.coreUp && s.profileNow != s.get O_PROFILE then
      (s.put O_PROFILE s.profileNow).logEvent 0 0 0 0 0xFFFF 0
    else s

/-- NOTICE_INTERVAL_END (R446): a change inside the interval is sent if the summary is still not 0. -/
def execNoticeIntervalEnd (s : State) : Host.Outcome State Fault Refusal :=
  finish s <|
    if s.noticeDue && s.noticeFree then
      (if s.get O_NOTICE_ENABLE != 0 && s.engSummary != 0 then s.sendNotice else { s with noticeDue := false })
    else s

end Sys2Proof.Machine
end

