-- ==== Sys2Proof/Machine/Image.lean ====
section
/-! DEFINITION. What a read of each object returns (R412, R413, R425): the images of STR and DOMAIN objects, the values of
scalar objects that the engine derives rather than keeps, the telemetry latch (R439) and the two digests of configuration
(R434, R438). -/

namespace Sys2Proof.Machine

open Sys2Proof

/-! ### Paths and selectors (R431) -/

/-- The value of a selector object for a path. -/
def State.sel (s : State) (p : Path) (k : Nat) : Nat :=
  ((s.selectors.find? fun e => e.1 == p && e.2.1 == k).map (·.2.2)).getD 0

/-- A selector object set for a path. -/
def State.setSel (s : State) (p : Path) (k v : Nat) : State :=
  { s with selectors := (p, k, v) :: s.selectors.filter fun e => !(e.1 == p && e.2.1 == k) }

/-- A path as LAST_DENIED and a debug challenge name it: kind, module, node (R436, R490). -/
def pathNums : Path → Nat × Nat × Nat
  | .mctp => (0, 0, 0)
  | .host m => (1, m, 0)
  | .vc0 n => (2, 0, n)

/-! ### Images of DOMAIN and STR objects -/

/-- The bytes of a text. -/
def textBytes (t : String) : Bytes := t.toList.map fun c => BitVec.ofNat 8 c.toNat

/-- A list of U32 as bytes. -/
def u32Bytes (l : List Nat) : Bytes := (l.map (leBytes 4)).flatten

/-- A list of U64 as bytes. -/
def u64Bytes (l : List Nat) : Bytes := (l.map (leBytes 8)).flatten

/-- The two's complement of a number in `n` bytes. -/
def intBytes (n : Nat) (v : Int) : Bytes := leBytes n (v % (2 ^ (8 * n) : Int)).toNat

/-- A set of numbers as bits, `n` bytes. -/
def setBytes (n : Nat) (l : List Nat) : Bytes := leBytes n (l.foldl (fun a k => Nat.lor a (2 ^ k)) 0)

/-- HOST_GRANTS entries and MCTP_GRANT (R436). -/
def grantImage (g : Grant) : Bytes := leBytes 2 g.level ++ leBytes 2 g.first ++ leBytes 2 g.last ++ leBytes 2 0

/-- A FABRIC_GRANTS entry (R436). -/
def fabricGrantImage (e : Nat × Grant) : Bytes :=
  leBytes 2 e.1 ++ leBytes 2 e.2.level ++ leBytes 2 e.2.first ++ leBytes 2 e.2.last

/-- An attempt of the start journal (R484). -/
def Attempt.image (a : Attempt) : Bytes :=
  leBytes 4 a.number ++ leBytes 1 a.kind ++ leBytes 1 a.outcome ++ leBytes 1 a.lastStep ++ leBytes 1 a.lc
    ++ leBytes 8 a.startUs ++ leBytes 4 (if a.outcome == 0 then 0 else a.totalUs) ++ leBytes 4 a.firmware ++ leBytes 8 0
    ++ ((List.range 32).map fun i =>
        let r := (a.recs.find? fun r => r.step == i).getD ⟨i, 0, 0, 0, 0⟩
        leBytes 1 i ++ leBytes 1 r.result ++ leBytes 1 r.code ++ [0] ++ leBytes 2 r.units ++ leBytes 2 r.duration).flatten

/-- An aperture entry (R513). -/
def Aperture.image (a : Aperture) : Bytes := leBytes 8 a.base ++ leBytes 4 a.pages ++ leBytes 2 a.ctx ++ leBytes 1 a.flags ++ [0]

/-- A hot line (R348). -/
def HotLine.image (h : HotLine) : Bytes :=
  leBytes 8 h.addr ++ leBytes 8 h.stores ++ leBytes 8 h.atomics ++ leBytes 4 h.merged ++ leBytes 2 h.peak ++ leBytes 2 0

/-- A snapshot (R271). -/
def Snapshot.image (e : Snapshot) : Bytes := u64Bytes [e.beat, e.position, e.digest, e.sent, e.accepted]

/-- The 48 bytes of a debug challenge (R490). -/
def State.challengeOf (s : State) (p : Path) : Bytes :=
  match s.challenges.find? fun c => c.path == p with
  | some c => c.bytes
  | none => List.replicate 48 0

/-- The open scopes of a path (R492). -/
def State.scopes (s : State) (p : Path) : Nat := ((s.sessions.find? fun d => d.path == p).map (·.scopes)).getD 0

/-- DEBUG_STATE (R508): MCTP, host modules, and VC0 with the node of its newest session. -/
def State.debugState (s : State) : Bytes :=
  let v := s.sessions.findSome? fun d => match d.path with
    | .vc0 n => some (n, d.scopes)
    | _ => none
  leBytes 1 (s.scopes .mctp) ++ ((List.range 8).map fun m => leBytes 1 (s.scopes (.host m))).flatten
    ++ leBytes 1 ((v.map (·.2)).getD 0) ++ leBytes 2 ((v.map (·.1)).getD 0) ++ leBytes 4 0

/-- The experts of a context. -/
def State.experts (s : State) (c : Nat) : Nat := s.cget c O_EXPERT_COUNT

/-- The image of a STR or DOMAIN object of context `c`; `k` is the key of context 0. -/
def State.ctxImage (s : State) (c k : Nat) : Bytes :=
  let x := s.ctx c
  let n := s.experts c
  let pub (i : Nat) : Bytes := padTo (4 * n) (u32Bytes (x.pub.getD i []))
  if k == O_LAST_REFUSAL then x.lastRefusal
  else if k == O_EXPERT_ENABLE then leBytes 1024 x.enable
  else if k == O_STEP_REQUESTED then pub 0
  else if k == O_STEP_KEPT then pub 1
  else if k == O_STEP_DROPPED then pub 2
  else if k == O_STEP_SPILL_IN then pub 3
  else if k == O_EXPERT_MAP then u64Bytes x.map
  else if k == O_BIAS then (x.bias.map (intBytes 4)).flatten
  else if k == O_LS_PAGES then u16Bytes x.lsPages
  else if k == O_HBM_EXTENTS then u16Bytes x.hbmExtents
  else if k == O_REGIONS then regionsImage x.regions
  else if k == O_DESC_WRITE then x.descImage
  else if k == O_SRC_WINDOWS then windowsImage x.srcWindows
  else if k == O_SNAP_RING then padTo 320 (x.snaps.map Snapshot.image).flatten
  else if k == O_CRUMB_LIST then (x.crumbs.map fun e => leBytes 4 e.tag ++ leBytes 4 e.beat).flatten
  else if k == O_SLOT_ENTRY_WRITE then x.slotImage
  else if k == O_SLOT_STATE then (x.slotStates.map (leBytes 1)).flatten
  else if k == O_COLL_LAST_RESULT then x.collResult
  else []

/-- The image of a STR or DOMAIN object of the engine as path `p` reads it. -/
def State.engineImage (s : State) (p : Path) (k : Nat) : Bytes :=
  if k == O_VENDOR_NAME then textBytes "Maelkai Silicon Works"
  else if k == O_BLOCK_NAME then textBytes "Naica Bilak"
  else if k == O_HOST_GRANTS then (s.hostGrants.map grantImage).flatten
  else if k == O_FABRIC_GRANTS then (s.fabricGrants.map fabricGrantImage).flatten
  else if k == O_MCTP_GRANT then grantImage s.mctpGrant
  else if k == O_LAST_DENIED then s.lastDenied
  else if k == O_JOURNAL then (s.attempts.map Attempt.image).flatten
  else if k == O_START_POLICY then (s.policy.map (leBytes 1)).flatten
  else if k == O_PARTNER_JOURNAL then s.partnerJournal
  else if k == O_APERTURES then padTo 8192 (s.apertures.map Aperture.image).flatten
  else if k == O_HA_MODULE_STATE then ((List.range 8).map fun m => leBytes 1 (s.haState m)).flatten
  else if k == O_TILE_EPOCHS then u32Bytes ((List.range 320).map fun t => (s.tile t).epoch)
  else if k == O_REGION_EPOCHS then u32Bytes ((List.range 5).map fun r => (s.reg r).epoch)
  else if k == O_STACK_CAPACITY then u16Bytes s.stackCaps
  else if k == O_PAGE_OWNER then u16Bytes ((List.range 8192).map s.pageOwner)
  else if k == O_EXTENT_OWNER then u16Bytes ((List.range 16384).map s.extentOwner)
  else if k == O_LINK_GEN_MAX then (s.linkGenMax.map (leBytes 1)).flatten
  else if k == O_VC_WEIGHT then (s.vcWeight.map (leBytes 1)).flatten
  else if k == O_RING_TABLE then setBytes 4096 s.bypassed ++ setBytes 16384 s.spineDown
  else if k == O_DEAD_NODES then setBytes 4096 s.deadNodes
  else if k == O_HOT_LINES then padTo 512 (s.hotLines.map HotLine.image).flatten
  else if k == O_GROUP_MEMBERS then (s.group (s.sel p O_GROUP_SELECT)).members
  else if k == O_TAKEOVER_LAST then s.takeoverLast
  else if k == O_REDIRECTS then (s.redirects.map fun r => leBytes 2 r.1 ++ leBytes 2 r.2).flatten
  else if k == O_SQ_CORE_STATE then (s.coreStates.map (leBytes 1)).flatten
  else if k == O_EVENT_LOG then s.log.flatten
  else if k == O_OWNER_KEY_HASH then s.ownerKey.getD []
  else if k == O_VENDOR_KEY_HASH then (List.range 48).map Config.vendorKeyHash
  else if k == O_DEBUG_REQUEST || k == O_DEBUG_RESPONSE then (if s.debugImage.length == (if k == O_DEBUG_REQUEST then 8 else 193) then s.debugImage else [])
  else if k == O_DEBUG_CHALLENGE then s.challengeOf p
  else if k == O_DEBUG_STATE then s.debugState
  else if k == O_CKPT_SLOT_STATE then (s.ckptStates.map (leBytes 1)).flatten
  else if k == O_CKPT_SLOT_INFO then s.ckptInfo.flatten
  else if k == O_CONTEXT_FLAG_MAP then s.flagMap
  else if k == O_TEMP_REGION then (s.tempRegion.map (intBytes 4)).flatten
  else []

/-- Is a key one of the context blocks (R433)? -/
def isCtxObj (k : Nat) : Bool := 0x800000 ≤ k && k < 0xC00000

/-- The context of a key, and its key in context 0. -/
def keyCtx (k : Nat) : Nat := (k - 0x800000) / 4096
/-- The key in context 0 of a context's object. -/
def keyBase (k : Nat) : Nat := 0x800000 + k % 4096

/-- The image of any STR or DOMAIN object. -/
def State.image (s : State) (p : Path) (k : Nat) : Bytes :=
  if isCtxObj k then s.ctxImage (keyCtx k) (keyBase k) else s.engineImage p k

/-! ### Scalar values (R440, and the derived values of the object tables) -/

/-- Units that owner tables show free. -/
def State.freePages (s : State) : Nat := ((List.range 7680).filter fun u => s.pageOwner u == 0xFFFF).length
/-- Extents that read FFFFh. -/
def State.freeExtents (s : State) : Nat := ((List.range 16384).filter fun u => s.extentOwner u == 0xFFFF).length

/-- Derived values of a context's objects; the others stand in the store. -/
def State.ctxScalar (s : State) (c k : Nat) : Nat :=
  let x := s.ctx c
  if k == O_DESC_MAX then s.descMax c
  else if k == O_SRC_WINDOW_COUNT then x.srcWindows.length
  else if k == O_LOOP_DEPTH then x.ring.loops.length
  else if k == O_CRUMB_ENTRIES then x.crumbs.length
  else if k == O_FLAG_SUMMARY then s.flagSummary c
  else s.cget c k

/-- Derived values of the objects of units: tiles, regions, HBM ports, HA modules, sequencer cores (R440). -/
def State.unitScalar (s : State) (k : Nat) : Nat :=
  let n := normKey k
  let u := (k - n) / 256
  if n == O_TILE_SPARES_USED then (s.tile u).spares
  else if n == O_TILE_STATE then (s.tile u).state
  else if n == O_REG_TILES_ACTIVE then (s.activeTiles u).length
  else if n == O_PORT_BYTES_READ || n == O_PORT_BYTES_WRITTEN || n == O_PORT_COPY_BYTES || n == O_HA_RETRIES
      || n == O_CORE_BUSY_TICKS then Config.sensor k s.freeCtr % 2 ^ 64
  else s.get k

/-- The live value of a scalar object as path `p` reads it, digests apart. -/
def State.current (s : State) (p : Path) (k : Nat) : Nat :=
  let g := s.sel p O_GROUP_SELECT
  let u := s.sel p O_UNIT_SELECT
  if k % 256 == 0 then highestSub (k / 256)
  else if isCtxObj k then s.ctxScalar (keyCtx k) (keyBase k)
  else if 0x310000 ≤ k then s.unitScalar k
  else if k == O_FIRMWARE_RELEASE then ((s.attempts.head?.map (·.firmware)).getD 0)
  else if k == O_DIE_NUMBER then Config.dieNumber.toNat
  else if k == O_VENDOR_PEN then Config.vendorPen.toNat
  else if k == O_ENGINE_STATE then s.engineState
  else if k == O_CONTEXTS_CLAIMED then s.claimed.length
  else if k == O_D2_CONTEXTS then (s.claimed.filter fun c => s.det c == 2).length
  else if k == O_ARITH_CLOCK_MHZ then s.arithClock
  else if k == O_TILES_ACTIVE then 320 - s.tilesQuarantined
  else if k == O_REGIONS_ACTIVE then bitsOf ((List.range 5).map fun r => (s.reg r).state != 1)
  else if k == O_TICK_IN_BEAT then (Config.tickNow s.freeCtr).toNat
  else if k == O_CELLS_RETIRED then (s.tiles.map fun t => t.2.spares).foldl (· + ·) 0
  else if k == O_TILES_QUARANTINED then s.tilesQuarantined
  else if k == O_UNIT_SELECT then u
  else if k == O_UNIT_STATE then s.unitState u
  else if k == O_FREE_PAGES then s.freePages
  else if k == O_FREE_EXTENTS then s.freeExtents
  else if k == O_GROUPS_USED then (s.groups.filter fun e => e.2.active).length
  else if k == O_GROUP_SELECT then g
  else if k == O_GROUP_OWNER then (s.group g).owner
  else if k == O_GROUP_STATE then (if (s.group g).active then 1 else 0)
  else if k == O_GROUP_DIGEST then (if (s.group g).active then (s.group g).digest else 0)
  else if k == O_GROUP_SEQ then (s.group g).seq
  else if k == O_HOT_QUEUE_DEPTH then s.get k
  else if k == O_POISONED_LINES then s.poisoned.length
  else if k == O_WIPE_STATE then (if s.startStep == some 8 then 1 else if s.startStep == some 19 then 2 else 0)
  else if k == O_INTAKE_ACTIVE then (s.ctxs.map fun e => e.2.intakes.length).foldl (· + ·) 0
  else if k == O_ENGINE_FLAG_SUMMARY then s.engSummary
  else if k == O_POWER_MW || k == O_POWER_PEAK_MW || k == O_TEMP_MAX || k == O_THROTTLE_BEATS then s.get k
  else if k == O_CORE_MV || k == O_CORE_CURRENT_A || k == O_VAON_MW then Config.sensor k s.freeCtr % 2 ^ 16
  else s.get k

/-! ### Digests of configuration (R434, R438) -/

/-- The value of an object as its bytes. -/
def State.valueBytes (s : State) (p : Path) (k : Nat) (i : ObjInfo) : Bytes :=
  if i.ty.len == 0 then s.image p k else leBytes i.ty.len (s.current p k)

/-- CTX_MATCH_DIGEST (R434). -/
def State.matchDigest (s : State) (c : Nat) : Nat :=
  let rows := objTable.filter fun r =>
    (r.1 / 256 == 0x8001 && r.2.wr != .never)
      || [O_EXPERT_MAP, O_DET_LEVEL, O_SEED, O_ANCHOR_GRID, O_SR_ENABLE, O_ESCAPE_THRESHOLD, O_ESCAPE_DISPATCH,
          O_DEADLINE_BEATS].contains r.1
  crc64 ((rows.map fun r => s.valueBytes .mctp (ctxKey c r.1) r.2).flatten)

/-- Is a row of the table covered by ENGINE_CONFIG_DIGEST (R438)? -/
def digestCovers (r : Nat × ObjInfo) : Bool :=
  0x200000 ≤ r.1 && r.1 < 0x300000 && (r.2.access == 1 || r.2.access == 2) && r.2.wr != .never
    && (match r.2.chk with
        | .flags _ => false
        | .action _ => false
        | _ => true)
    && ! [O_UNIT_SELECT, O_GROUP_SELECT, O_DEBUG_REQUEST, O_DEBUG_RESPONSE, O_DEAD_NODES].contains r.1

/-- ENGINE_CONFIG_DIGEST (R438): pools in ascending number stand where index 2400h stands; the group read is the one that
MCTP selects. -/
def State.configDigest (s : State) : Nat :=
  let rows := objTable.filter digestCovers
  let bytes (l : List (Nat × ObjInfo)) : Bytes := (l.map fun r => s.valueBytes .mctp r.1 r.2).flatten
  let below := rows.filter fun r => r.1 < 0x240000
  let pool := rows.filter fun r => r.1 / 256 == 0x2400
  let above := rows.filter fun r => 0x250000 ≤ r.1
  crc64 (bytes below
    ++ ((List.range 256).map fun u => (pool.map fun r => s.valueBytes .mctp (unitKey u r.1) r.2).flatten).flatten
    ++ bytes above)

/-! ### Reading with the latch (R439) -/

/-- Is a key one of the telemetry objects 3001h to 3423h? -/
def isTelemetry (k : Nat) : Bool := 0x300100 ≤ k && k < 0x342400 && k % 256 != 0

/-- The value of a scalar object as a request on path `p` reads it. -/
def State.value (s : State) (p : Path) (k : Nat) : Nat :=
  if isTelemetry k && s.get O_LATCH_MODE == 1 then tblGet 0 s.latched k
  else if isCtxObj k && keyBase k == O_CTX_MATCH_DIGEST then s.matchDigest (keyCtx k)
  else if k == O_ENGINE_CONFIG_DIGEST then s.configDigest
  else s.current p k

/-- The bytes of an object as a request on path `p` reads it (R413). -/
def State.objBytes (s : State) (p : Path) (k : Nat) (i : ObjInfo) : Bytes :=
  if i.ty.len != 0 then leBytes i.ty.len (s.value p k)
  else if k == O_TEMP_REGION && s.get O_LATCH_MODE == 1 then leBytes 20 (tblGet 0 s.latched k)
  else s.image p k

/-- The keys of every telemetry object. -/
def telemetryKeys : List Nat :=
  let of (b n : Nat) : List Nat :=
    ((List.range n).map fun u => ((objTable.filter fun r => r.1 / 256 == b).map fun r => unitKey u r.1)).flatten
  of 0x3001 1 ++ of 0x3100 320 ++ of 0x3300 5 ++ of 0x3400 4 ++ of 0x3410 8 ++ of 0x3420 4

/-- Every counter of telemetry copied (R439). -/
def State.latchAll (s : State) : State :=
  let v (k : Nat) : Nat := if k == O_TEMP_REGION then leNat (s.image .mctp k) else s.current .mctp k
  { s with
    latched := (telemetryKeys.map fun k => (k, v k)).filter fun e => e.2 != 0
    latchDue := false }.put O_LATCH_BEAT s.beat

/-- LATCH_CAPTURE (R439): the boundary after a write of LATCH_CTRL. -/
def execLatchCapture (s : State) : Host.Outcome State Fault Refusal :=
  finish s (if s.coreUp && s.latchDue then (s.latchAll.put O_POWER_PEAK_MW 0).drawn else s)

end Sys2Proof.Machine
end

