-- ==== Sys2Proof/Machine/Record.lean ====
section
/-! DEFINITION. The record of a context: what the twin's first full mirror carries (R465, R467), what a takeover, a handback
or a restore gives a context (R469, R473, R505, R506), and what a checkpoint keeps in its context record (R499). Values go
by object key, images by object key or by one of the keys below. -/

namespace Sys2Proof.Machine

open Sys2Proof

/-! ### Keys of images that are no object of their own -/

/-- A group of the context. -/
def kGroup (g : Nat) : Nat := 2 ^ 32 + g
/-- A pool of the context. -/
def kPool (p : Nat) : Nat := 2 * 2 ^ 32 + p
/-- A stored tensor descriptor, by handle. -/
def kDesc (h : Nat) : Nat := 3 * 2 ^ 32 + h
/-- A weight-slot entry, by place. -/
def kSlot (pos : Nat) : Nat := 4 * 2 ^ 32 + pos

/-! ### Taking a record -/

/-- Scalar objects that only the engine writes and that a record carries all the same: step position, caramel loop, the
weight slot in use (R93, R467, R499). -/
def recordExtra : List Nat :=
  [O_STEP, O_CARAMEL_STATE, O_STEPS_RUN, O_LAST_SPREAD, O_SKIPPED_STEPS, O_ACTIVE_SLOT, O_SWITCH_SEQ, O_MAP_VERSION]

/-- Does a record carry a scalar object of a context? `k` is its key in context 0. -/
def inRecord (k : Nat) : Bool :=
  recordExtra.contains k ||
    match objInfo k with
    | some i => i.wr != .never && i.ty.len != 0 && (match i.chk with
        | .flags _ => false
        | .action _ => false
        | _ => true)
    | none => false

/-- The configuration objects of a pool. -/
def poolObjs : List Nat :=
  [O_OWNER_CONTEXT, O_SPACE, O_LAYOUT, O_BUF_SIZE_LOG2, O_BASE, O_LENGTH, O_META_BASE, O_AMBER_PCT, O_RED_PCT, O_BLACK_PCT]

/-- The pools of a context. -/
def State.poolsOf (s : State) (c : Nat) : List Nat := (List.range 256).filter fun p => s.pget p O_OWNER_CONTEXT == c

/-- The values of a context's record: what differs from its default. -/
def State.recordVals (s : State) (c : Nat) : List (Nat × Nat) :=
  (s.objs.filter fun e => isCtxKey c e.1 && inRecord (keyBase e.1))
    ++ ((s.poolsOf c).map fun p => poolObjs.map fun k => (unitKey p k, s.pget p k)).flatten

/-- The DOMAIN objects of a record. -/
def recordDomains : List Nat :=
  [O_EXPERT_ENABLE, O_EXPERT_MAP, O_BIAS, O_LS_PAGES, O_HBM_EXTENTS, O_REGIONS, O_SRC_WINDOWS, O_SLOT_STATE]

/-- The image of a group. -/
def Group.image (g : Group) : Bytes := leBytes 1 (if g.active then 1 else 0) ++ leBytes 4 g.seq ++ g.members

/-- The image of a slot entry, with what has been written of it. -/
def State.slotImageOf (s : State) (c : Nat) (m : SlotMark) : Bytes :=
  s.slotEntry c m.pos ++ leBytes 1 (if m.guDone then 1 else 0) ++ leBytes 1 (if m.downDone then 1 else 0)

/-- The images of a context's record. -/
def State.recordImages (s : State) (c : Nat) : List (Nat × Bytes) :=
  let x := s.ctx c
  (recordDomains.map fun k => (ctxKey c k, s.ctxImage c k))
    ++ ((s.groups.filter fun e => e.2.owner == c).map fun e => (kGroup e.1, e.2.image))
    ++ ((s.poolsOf c).map fun p => (kPool p, leBytes 1 (s.pget p O_POOL_STATE)))
    ++ (x.handles.filterMap fun h => (s.descAddr c h).map fun a => (kDesc h, s.rd a 64))
    ++ (x.slotMarks.map fun m => (kSlot m.pos, s.slotImageOf c m))

/-- The settled run, the window sequence and STEP of a context. -/
def State.recordNums (s : State) (c : Nat) : List Nat := [(s.ctx c).settled, (s.ctx c).seqNext, s.stepNo c]

/-! ### Giving a record to a context -/

/-- The values of a record put in place for context `c`, which owns the pools of the record. -/
def State.applyVals (s : State) (c : Nat) (vals : List (Nat × Nat)) : State :=
  vals.foldl (fun s e =>
    if isCtxObj e.1 then s.cput c (keyBase e.1) e.2
    else
      let p := (e.1 - normKey e.1) / 256
      let o := s.pget p O_OWNER_CONTEXT
      if o != c && o != 0xFFFF then s
      else s.put e.1 (if normKey e.1 == O_OWNER_CONTEXT && e.2 != 0xFFFF then c else e.2)) s

/-- A pool created anew, every buffer free (R284, R469, R506). -/
def State.rebuildPool (s : State) (p : Nat) : State :=
  let n := s.pget p O_LENGTH / s.bufSize p
  let s := s.wr (s.pget p O_META_BASE) (freeRing n)
  let s := ((s.pput p O_POOL_STATE 2).pput p O_BUF_COUNT n).pput p O_LEVEL 0
  (((s.modPool p fun _ => Pool.init).pput p O_FREE_NOW n).pput p O_FREE_MIN n).pput p O_COMMITTED 0

/-- The numbers of a BIAS image. -/
def biasOf (bs : Bytes) : List Int :=
  (chunks 4 bs).map fun b => let v := leNat b; if v < 2 ^ 31 then (v : Int) else (v : Int) - 2 ^ 32

/-- A DOMAIN object of a context set from its image. -/
def Ctx.setImage (x : Ctx) (k : Nat) (bs : Bytes) : Ctx :=
  if k == O_EXPERT_ENABLE then { x with enable := leNat bs }
  else if k == O_EXPERT_MAP then { x with map := (chunks 8 bs).map leNat }
  else if k == O_BIAS then { x with bias := biasOf bs }
  else if k == O_LS_PAGES then { x with lsPages := u16List bs }
  else if k == O_HBM_EXTENTS then { x with hbmExtents := u16List bs }
  else if k == O_REGIONS then { x with regions := parseRegions bs }
  else if k == O_SRC_WINDOWS then { x with srcWindows := parseWindows bs }
  else if k == O_SLOT_STATE then { x with slotStates := bs.map (·.toNat) }
  else x

/-- One image of a record put in place for context `c`. -/
def State.applyImage (s : State) (c : Nat) (e : Nat × Bytes) : State :=
  let k := e.1 % 2 ^ 32
  let bs := e.2
  match e.1 / 2 ^ 32 with
  | 0 => (s.modCtx c fun x => x.setImage (keyBase e.1) bs).genUp (ctxKey c (keyBase e.1))
  | 1 =>
    if bs.isEmpty || ((s.group k).owner != 0xFFFF && (s.group k).owner != c) then s
    else s.modGroup k fun _ => ⟨c, bs.drop 5, fld bs 0 1 == 1, fld bs 1 4⟩
  | 2 => if s.pget k O_OWNER_CONTEXT == c && leNat bs != 0 then s.rebuildPool k else s
  | 3 =>
    match s.descAddr c k with
    | some a => if bs.isEmpty || k ≥ s.descMax c then s else (s.wr a bs).modCtx c fun x => { x with handles := k :: x.handles.filter (· != k) }
    | none => s
  | _ =>
    match s.slotEntryAddr c k with
    | some a =>
      if bs.isEmpty || k ≥ s.slotTableMax c then s
      else (s.wr a (bs.take 64)).modCtx c fun x =>
        { x with slotMarks := x.slotMarks.filter (fun m => m.pos != k) ++ [⟨k, fld bs 64 1 == 1, fld bs 65 1 == 1⟩] }
    | none => s

/-- A whole record given to context `c`. -/
def State.applyRecord (s : State) (c : Nat) (vals : List (Nat × Nat)) (images : List (Nat × Bytes)) : State :=
  images.foldl (fun s e => s.applyImage c e) (s.applyVals c vals)

/-! ### A record as bytes (R499) -/

/-- An entry of a record: kind, key, length, bytes. -/
def recEntry (kind key : Nat) (bs : Bytes) : Bytes := leBytes 1 kind ++ leBytes 8 key ++ leBytes 4 bs.length ++ bs

/-- A record as bytes, with the ring header that the context had (R499): the engine's own layout. -/
def packRecord (nums : List Nat) (vals : List (Nat × Nat)) (images : List (Nat × Bytes)) (ring : Bytes) : Bytes :=
  let key (k : Nat) : Nat := if isCtxObj k then keyBase k else k
  (nums.zipIdx.map fun e => recEntry 1 e.2 (leBytes 8 e.1)).flatten
    ++ (vals.map fun e => recEntry 2 (key e.1) (leBytes 8 e.2)).flatten
    ++ (images.map fun e => recEntry 3 (key e.1) e.2).flatten ++ recEntry 4 0 ring

/-- The entries of a record; `fuel` bounds their number. -/
def unpackRecord : Nat → Bytes → List (Nat × Nat × Bytes)
  | 0, _ => []
  | n + 1, bs =>
    if bs.length < 13 || fld bs 0 1 == 0 then []
    else
      let len := fld bs 9 4
      (fld bs 0 1, fld bs 1 8, (bs.drop 13).take len) :: unpackRecord n (bs.drop (13 + len))

/-- The values of an unpacked record. -/
def unpackVals (l : List (Nat × Nat × Bytes)) : List (Nat × Nat) :=
  (l.filter fun e => e.1 == 2).map fun e => (e.2.1, leNat e.2.2)

/-- The images of an unpacked record. -/
def unpackImages (l : List (Nat × Nat × Bytes)) : List (Nat × Bytes) := (l.filter fun e => e.1 == 3).map (·.2)

/-- The numbers of an unpacked record. -/
def unpackNums (l : List (Nat × Nat × Bytes)) : List Nat := (l.filter fun e => e.1 == 1).map fun e => leNat e.2.2

end Sys2Proof.Machine
end

