-- ==== Sys2Proof/Machine/Twin.lean ====
section
/-! DEFINITION. The twin (R465 to R473, R517): pairing, the mirror and what the partner keeps of it, heartbeats, the probe,
takeover, redirects and handback. -/

namespace Sys2Proof.Machine

open Sys2Proof

/-! ### Wiping memory whole (R304, R486) -/

/-- Is a memory key in the spare region of its stack (R278)? -/
def State.inSpare (s : State) (q : Nat) : Bool :=
  2 ^ 46 ≤ q && q % 2 ^ 36 ≥ s.stackCaps.getD (q % 2 ^ 46 / 2 ^ 36) 0 * 2 ^ 30 - 2 ^ 33

/-- Both checkpoint slots EMPTY (R486, R509). -/
def State.emptySlots (s : State) : State :=
  (({ s with ckptStates := [0, 0], ckptInfo := [List.replicate 32 0, List.replicate 32 0] }.put O_NEWEST_SLOT 0xFF).genUp
    O_CKPT_SLOT_STATE).genUp O_CKPT_SLOT_INFO

/-- Local Store and HBM wiped; the spare region is kept unless `spare` (R304). -/
def State.wipeMemory (s : State) (spare : Bool) : State :=
  let s := { s with
    mem := s.mem.filter fun p => !spare && s.inSpare p.1
    poisoned := s.poisoned.filter fun p => !spare && s.inSpare p.1
    wipingPages := [], wipingExtents := [] }
  let s := (s.put O_WIPE_LAST_US (Config.duration s.freeCtr % 2 ^ 32)).drawn
  (if spare then s.emptySlots else s).ownersUp

/-! ### The mirror at its sender (R467) -/

/-- The first full mirror of a context (R465). -/
def State.mirrorFull (s : State) (c : Nat) : State :=
  let x := s.ctx c
  let s := s.mirrorAll .config c (s.recordVals c) [] (s.recordImages c) none
  let s := s.mirrorState c
  let s := s.mirrorAll .caramel c [] [x.settled] [] none
  let s := s.mirror .ringIndices c [s.cget c O_CONSUMER, s.cget c O_COMPLETED]
  let s := ((s.slotEntries c).filter fun e => e.2.expert == 0xFFFF && e.1.guDone).foldl
    (fun s e => s.mirrorAll .routerWeights c [] [e.1.pos] [(e.1.pos, s.rd e.2.gu (s.hidden c * s.experts c * 2))] none) s
  let s := (x.windows.filter fun w => w.isOpen && w.launched.isSome).foldl
    (fun s w => s.mirror .windowState c [w.tag, 3]) s
  let s := x.ledgers.foldl (fun s l => s.mirrorAll .ledger c [] [l.tag] [] (some l)) s
  x.crumbs.foldl (fun s k => s.mirror .crumb c [k.tag, k.beat]) s

/-- Mirror records up to a number acknowledged: what waited for them goes on (R467). -/
def State.acknowledge (s : State) (seq : Nat) : State :=
  let done := s.unacked.filter fun (u : Unacked) => u.seq ≤ seq
  let s := { s with unacked := s.unacked.filter fun (u : Unacked) => seq < u.seq }
  let s := ((done.map fun (u : Unacked) => u.hold).flatten).foldl State.handOut s
  ((done.map fun (u : Unacked) => u.ends).flatten).foldl (fun s e => s.endDesc e.1 e.2 0) s

/-- MIRROR_ACKNOWLEDGEMENT (R467): records up to `seq` are held by the partner. -/
def execMirrorAcknowledgement (seq : Nat) (s : State) : Host.Outcome State Fault Refusal :=
  finish s (if s.coreUp then s.acknowledge seq else s)

/-- MIRROR_LAG (R467): the oldest record has waited longer than MIRROR_LAG_LIMIT. -/
def execMirrorLag (s : State) : Host.Outcome State Fault Refusal :=
  finish s <|
    match s.unacked with
    | u :: _ =>
      if s.coreUp && s.paired && s.beat > u.beat + s.get O_MIRROR_LAG_LIMIT then
        s.raiseLog O_TWIN_FLAGS 3 0xFB 0 8 0 0xFFFF (s.get O_PARTNER_NODE)
      else s
    | [] => s

/-- The mirror stops: nothing waits for the partner any more, and shadow memory is wiped and released (R469, R473). -/
def State.dropShadows (s : State) : State :=
  let s := s.acknowledge s.mirrorNext
  let pages := s.partnerPages.map (·.1)
  let extents := s.partnerExtents.map (·.1)
  { s with partnerPages := [], partnerExtents := [], shadows := [] }.wipeUnits pages extents

/-! ### Pairing (R465, R473) -/

/-- What a partner's engine is taken to report when a plain WRITE of TWIN_CTRL tells nothing of it: it does not hold PAIR yet,
and nothing in it stands against pairing. -/
def State.noInfo (s : State) : PartnerInfo :=
  ⟨false, s.node, 0x204, s.current .mctp O_FIRMWARE_RELEASE, 1 - s.get O_TWIN_ROLE, false, [], [], [], List.range 7680,
    List.range 16384⟩

/-- Does one of the refusals of R465 hold? -/
def State.pairRefused (s : State) (i : PartnerInfo) : Bool :=
  let mine := s.claimed
  let fits (c : Nat) : Bool :=
    (s.ctx c).lsPages.all i.freePages.contains && (s.ctx c).hbmExtents.all i.freeExtents.contains
  i.release != 0x204 || i.firmware != s.current .mctp O_FIRMWARE_RELEASE || i.role == s.get O_TWIN_ROLE
    || !mine.all fits
    || !(i.claimedPages.all fun e => s.pageOwner e.1 == 0xFFFF) || !(i.claimedExtents.all fun e => s.extentOwner e.1 == 0xFFFF)
    || (mine.any (fun c => !s.ownHalf c) && !i.claimed.isEmpty) || (i.claimed.any s.ownHalf && !mine.isEmpty)
    || (i.solo && !mine.isEmpty)

/-- TWIN_CTRL PAIR (R465). The engine is PAIRING from here on, and sends the first full mirror of every claimed context. -/
def ctlPair (s : State) (i : PartnerInfo) : Eff :=
  let st := s.get O_TWIN_STATE
  if st == 1 || st == 2 then .error 0x21
  else if s.pairRefused i then .error 0xFD
  else
    let s := if i.solo then s.wipeMemory true else s
    let s := { s.put O_TWIN_STATE 1 with
      partnerPages := i.claimedPages, partnerExtents := i.claimedExtents, shadows := [], unacked := [] }.ownersUp
    .ok (s.claimed.foldl State.mirrorFull s)

/-- PAIRING_COMPLETE (R465): the partner has acknowledged the first full mirror. -/
def execPairingComplete (s : State) : Host.Outcome State Fault Refusal :=
  finish s <|
    if s.coreUp && s.get O_TWIN_STATE == 1 && s.unacked.isEmpty then
      let s := { s.put O_TWIN_STATE 2 with lastHeart := s.beat, heartMissed := 0, probing := none, taking := none }
      s.raiseLog O_TWIN_FLAGS 0 0xF8 0 8 0 0xFFFF (s.get O_PARTNER_NODE)
    else s

/-- TWIN_CTRL UNPAIR (R473): each engine holds only contexts of its own half. -/
def ctlUnpair (s : State) (i : PartnerInfo) : Eff :=
  if s.get O_TWIN_STATE == 0 then .error 0x21
  else if !(s.claimed.all s.ownHalf) || i.claimed.any s.ownHalf then .error 0xFD
  else .ok ({ s.put O_TWIN_STATE 0 with probing := none }.dropShadows)

/-! ### The mirror at its receiver (R467) -/

/-- Pairs by key, later ones in place of earlier ones. -/
def mergeKeys {α : Type} (old new : List (Nat × α)) : List (Nat × α) :=
  old.filter (fun e => !new.any fun f => f.1 == e.1) ++ new

/-- The partner's list of pages or extents for a context, as its record says. -/
def State.noteUnits (s : State) (c : Nat) (images : List (Nat × Bytes)) : State :=
  images.foldl (fun s e =>
    if e.1 == ctxKey c O_LS_PAGES then
      let gone := ((s.partnerPages.filter fun (v : Nat × Nat) => v.2 == c).map (·.1)).filter fun u => !(u16List e.2).contains u
      ({ s with partnerPages := s.partnerPages.filter (fun (v : Nat × Nat) => v.2 != c) ++ (u16List e.2).map fun u => (u, c) }.ownersUp).wipeUnits
        gone []
    else if e.1 == ctxKey c O_HBM_EXTENTS then
      let gone := ((s.partnerExtents.filter fun (v : Nat × Nat) => v.2 == c).map (·.1)).filter fun u => !(u16List e.2).contains u
      ({ s with partnerExtents := s.partnerExtents.filter (fun (v : Nat × Nat) => v.2 != c) ++ (u16List e.2).map fun u => (u, c) }.ownersUp).wipeUnits
        [] gone
    else s) s

/-- Router weights written on this engine too (R467). -/
def State.shadowWeights (s : State) (c pos : Nat) (bs : Bytes) : State :=
  match (s.shadow c).images.find? fun e => e.1 == kSlot pos with
  | none => s
  | some e =>
    let s := s.wr (parseSlotEntry (e.2.take 64)).gu bs
    s.modShadow c fun h => { h with images := mergeKeys h.images [(kSlot pos, e.2.take 64 ++ [1, 1])] }

/-- A context of the partner that has become FREE: its memory here is wiped and released. -/
def State.freeShadow (s : State) (c : Nat) : State :=
  let pages := (s.partnerPages.filter fun e => e.2 == c).map (·.1)
  let extents := (s.partnerExtents.filter fun e => e.2 == c).map (·.1)
  let s := { s with
    shadows := tblErase s.shadows c
    partnerPages := s.partnerPages.filter fun e => e.2 != c
    partnerExtents := s.partnerExtents.filter fun e => e.2 != c }
  s.wipeUnits pages extents

/-! ### Taking up a context (R469, R473) -/

/-- A context takes up its mirrored state: RUNNING and DRAINING become ARMED, CHECKPOINTING its PRIOR_STATE; pools are
rebuilt; the ring is paused at the mirrored COMPLETED; no expert weights are held (R469, R470). -/
def State.assume (s : State) (c : Nat) (sh : Shadow) (cause : Nat) : State :=
  let st0 := sh.nums.getD 0 0
  if st0 == 0 then s
  else
    let st := if st0 == 3 || st0 == 4 then 2 else if st0 == 7 then sh.nums.getD 3 2 else st0
    let s := s.clearCtx c
    let s := { s with
      partnerPages := s.partnerPages.filter fun e => e.2 != c
      partnerExtents := s.partnerExtents.filter fun e => e.2 != c
      shadows := tblErase s.shadows c }
    let s := (s.applyRecord c sh.vals sh.images).ownersUp
    let s := s.cput c O_STEP (sh.nums.getD 1 0)
    let keep := s.cget c O_LEDGER_KEEP
    let kept := sh.ledgers.filter fun l => !sh.openTags.contains l.tag
    let active := s.activeSlot c
    let router (m : SlotMark) : Bool := (parseSlotEntry (s.slotEntry c m.pos)).expert == 0xFFFF
    let s := s.modCtx c fun x =>
      { x with
        seqNext := sh.nums.getD 2 0
        settled := sh.nums.getD 4 0
        ledgers := if keep == 0 then [] else kept.drop (kept.length - keep)
        crumbs := sh.crumbs.drop (sh.crumbs.length - s.cget c O_CRUMB_DEPTH)
        slotStates := if st == 1 then [0, 0] else [0, 1].map fun i => if i == active then 3 else 0
        slotMarks := x.slotMarks.map fun m => if router m then m else { m with guDone := false, downDone := false }
        ring := { x.ring with paused := true, producer := sh.ring.getD 1 0 } }
    let s := if st == 1 || s.cget c O_RESERVE_CHECK == 0 then s
      else
        let r := s.reserveFor c (s.ctx c).map
        let p := s.poolFor c 2
        (s.cput c O_RESERVE r).pput p O_COMMITTED (s.pget p O_COMMITTED + r)
    let s := if cause == 0 then s else s.cput c O_HALT_CAUSE cause
    let s := if s.cget c O_RING_BASE == 0 then s else s.wrNat (s.cget c O_RING_BASE) 4 (sh.ring.getD 1 0)
    ((s.cput c O_CONSUMER (sh.ring.getD 1 0)).cput c O_COMPLETED (sh.ring.getD 1 0)).toState c st cause

/-- An attempt of the partner's start journal put first among the four that are kept (R484, R485). -/
def State.noteJournal (s : State) (img : Bytes) : State :=
  let rest := (chunks 288 s.partnerJournal).filter fun b => fld b 0 4 != fld img 0 4
  { s with partnerJournal := ((img :: rest).take 4).flatten }.genUp O_PARTNER_JOURNAL

/-- Does the partner's journal reach this engine: a twin module is trained, and PARTNER_NODE names the partner (R485)? -/
def State.twinJoined (s : State) : Bool :=
  s.get O_PARTNER_NODE != 0xFFFF
    && (List.range 8).any fun m => s.get O_TWIN_MODULES / 2 ^ m % 2 == 1 && s.haModules.getD m 0 % 128 != 0

/-- A mirror record taken (R467, R473). -/
def takeMirror (s : State) (r : MirrorRec) : State :=
  let c := r.ctx
  let s := if r.kind == .journal then s else s.emit (.mirrorAck r.seq)
  match r.kind with
  | .journal => r.images.foldl (fun s e => if e.2.length == 288 then s.noteJournal e.2 else s) s
  | .config =>
    (s.modShadow c fun h =>
      { h with vals := mergeKeys h.vals r.vals, images := mergeKeys h.images r.images }).noteUnits c r.images
  | .ctxState =>
    if r.nums.getD 0 0 == 0 then s.freeShadow c
    else s.modShadow c fun h =>
      { h with vals := mergeKeys h.vals r.vals, nums := r.nums.take 4 ++ [h.nums.getD 4 0] }
  | .caramel =>
    s.modShadow c fun h =>
      { h with
        vals := mergeKeys h.vals r.vals
        images := mergeKeys h.images r.images
        nums := padTo4 h.nums ++ [r.nums.getD 0 0] }
  | .windowState =>
    let tag := r.nums.getD 0 0
    let rest := (s.shadow c).openTags.filter (· != tag)
    s.modShadow c fun h => { h with openTags := if r.nums.getD 1 0 ≥ 3 then rest ++ [tag] else rest }
  | .ledger =>
    s.modShadow c fun h =>
      { h with ledgers := h.ledgers.filter (fun l => !r.ledger.any fun v => v.tag == l.tag) ++ r.ledger.toList }
  | .crumb =>
    let tag := r.nums.getD 0 0
    s.modShadow c fun h =>
      { h with
        vals := mergeKeys h.vals r.vals
        crumbs := h.crumbs.filter (·.tag != tag) ++ [⟨tag, r.nums.getD 1 0⟩]
        ledgers := h.ledgers.filter (·.tag != tag) }
  | .ringIndices => s.modShadow c fun h => { h with ring := r.nums }
  | .routerWeights => r.images.foldl (fun s e => s.shadowWeights c e.1 e.2) s
  | .handback =>
    let sh := s.shadow c
    s.assume c { sh with nums := r.nums.take 4 ++ [sh.nums.getD 4 0], openTags := [] } 0
where
  /-- The first four numbers of a shadow. -/
  padTo4 (l : List Nat) : List Nat := (l ++ [0, 0, 0, 0]).take 4

/-- MIRROR_RECORD (R467, R485): a record of the partner arrives; one of its start journal also while the engines are not
paired. -/
def execMirrorRecord (r : MirrorRec) (s : State) : Host.Outcome State Fault Refusal :=
  finish s <|
    let joined := if r.kind == .journal then s.twinJoined else s.paired || s.get O_TWIN_STATE == 1
    if s.coreUp && joined && r.ctx < 1024 then takeMirror s r else s

/-! ### Heartbeats (R468) -/

/-- Progress words as they have arrived, each with the beat at which it last moved. -/
def State.noteWords (s : State) (words : List Nat) : List (Nat × Nat) :=
  words.zipIdx.map fun w =>
    match s.partnerWords[w.2]? with
    | some p => if p.1 == w.1 then p else (w.1, s.beat)
    | none => (w.1, s.beat)

/-- HEARTBEAT (R468, R459): the partner's heartbeat of a beat. A progress word that has stood still for 64 beats is told to
it. -/
def execHeartbeat (beat : Nat) (words : List Nat) (s : State) : Host.Outcome State Fault Refusal :=
  finish s <|
    if s.coreUp && (s.paired || s.get O_TWIN_STATE == 1) && beat ≤ s.beat + 1 then
      let l := s.noteWords words
      let s := { s with lastHeart := s.beat, heartMissed := 0, partnerWords := l }
      (l.zipIdx.filter fun p => s.beat == p.1.2 + 64).foldl (fun s p => s.emit (.alarm p.2)) s
    else s

/-! ### The loss of the partner (R468, R469) -/

/-- Step 1 of a takeover in the mirrored state: open windows are dropped and crumbed, a D2 context with one is HALTED (R19,
R469). -/
def Shadow.drop (sh : Shadow) (c beat : Nat) : Shadow × Nat :=
  let d2 := ((sh.vals.find? fun e => e.1 == ctxKey c O_DET_LEVEL).map (·.2)).getD 0 == 2
  let nums := if d2 && !sh.openTags.isEmpty then sh.nums.set 0 5 else sh.nums
  let tags := sh.openTags.filter fun t => !sh.crumbs.any fun k => k.tag == t
  ({ sh with nums := nums, crumbs := sh.crumbs ++ tags.map fun t => ⟨t, beat⟩ }, sh.openTags.length)

/-- The partner is lost: TWIN_LOST; with a link UP the takeover begins, its announcement floods, and this engine's own frames
turn to itself (R469). Without one nothing is taken over. -/
def State.partnerLost (s : State) : State :=
  let lost := s.get O_PARTNER_NODE
  let s := s.raiseLog O_TWIN_FLAGS 1 0xF9 4 8 0 0xFFFF lost
  let s := (s.acknowledge s.mirrorNext)
  if !(List.range 12).any s.linkUp then ({ s with probing := none }.put O_TWIN_STATE 0).dropShadows
  else
    let dropped := (s.shadows.map fun e => (e.2.drop e.1 s.beat).2).foldl (· + ·) 0
    let s := { s with
      probing := none, taking := some dropped
      shadows := s.shadows.map fun (e : Nat × Shadow) => (e.1, (e.2.drop e.1 s.beat).1)
      redirects := (s.redirects.filter (fun (r : Nat × Nat) => r.1 != lost) ++ [(lost, s.node)]) }
    (s.emit (.takeover lost s.node)).genUp O_REDIRECTS

/-- HEARTBEAT_LOSS (R468): eight beats in a row have brought no heartbeat. A partner known to be in bypass is lost at once;
otherwise it is probed. -/
def execHeartbeatLoss (s : State) : Host.Outcome State Fault Refusal :=
  finish s <|
    if s.coreUp && s.paired && s.heartMissed ≥ 8 && s.probing.isNone && s.taking.isNone then
      (if s.bypassed.contains (s.get O_PARTNER_NODE) then s.partnerLost
       else { s with probing := some s.beat }.emit (.probe (s.get O_PARTNER_NODE)))
    else s

/-- PROBE (R469): a probe arrives; an engine that works answers it. -/
def execProbe (node : Nat) (s : State) : Host.Outcome State Fault Refusal :=
  finish s (if s.coreUp then s.emit (.probeAnswer node) else s)

/-- PROBE_ANSWER (R469): the partner lives, so both engines become UNPAIRED and keep their own halves. -/
def execProbeAnswer (s : State) : Host.Outcome State Fault Refusal :=
  finish s <|
    if s.coreUp && s.paired && s.probing.isSome then
      let s := s.raiseLog O_TWIN_FLAGS 1 0xF9 4 8 0 0xFFFF (s.get O_PARTNER_NODE)
      ({ s with probing := none }.put O_TWIN_STATE 0).dropShadows
    else s

/-- PROBE_TIMEOUT (R469): 16 beats have passed without an answer. -/
def execProbeTimeout (s : State) : Host.Outcome State Fault Refusal :=
  finish s <|
    match s.probing with
    | some b => if s.coreUp && s.paired && s.beat ≥ b + 16 then s.partnerLost else s
    | none => s

/-- YIELD_MESSAGE (R454, R468): the partner stands down; neither the count nor the probe is waited for. -/
def execYieldMessage (s : State) : Host.Outcome State Fault Refusal :=
  finish s (if s.coreUp && s.paired && s.taking.isNone then s.partnerLost else s)

/-- TAKEOVER_COMPLETE (R469): the partner's contexts are taken up; TWIN_STATE reads SOLO. -/
def execTakeoverComplete (s : State) : Host.Outcome State Fault Refusal :=
  finish s <|
    match s.taking with
    | none => s
    | some dropped =>
      if !s.coreUp then s
      else
        let lost := s.get O_PARTNER_NODE
        let cs := (s.shadows.filter fun e => e.2.nums.getD 0 0 != 0).map (·.1)
        let s := { s with taking := none, heldHalf := s.heldHalf ++ cs.filter fun c => !s.ownHalf c }
        let s := cs.foldl
          (fun s c =>
            let sh := s.shadow c
            s.assume c sh (if sh.nums.getD 0 0 == 5 && !sh.openTags.isEmpty then 0x34 else 0)) s
        let s := { s with
          shadows := []
          takeoverLast := leBytes 2 lost ++ leBytes 2 (min 0xFFFF (s.beat - s.lastHeart)) ++ leBytes 8 s.beat
            ++ leBytes 4 dropped }.genUp O_TAKEOVER_LAST
        ((s.put O_TWIN_STATE 3).bumpW 32 O_TAKEOVERS 1).raiseLog O_TWIN_FLAGS 2 0xFA 4 8 0 0xFFFF lost

/-! ### Redirects (R469, R471) -/

/-- TAKEOVER_ANNOUNCEMENT (R469, R471): frames of VC1, VC2, VC3 and VC6 for the lost node go to the serving one from now on;
the announcement floods once. An engine that reads itself as lost quarantines itself. -/
def execTakeoverAnnouncement (lost serving : Nat) (s : State) : Host.Outcome State Fault Refusal :=
  finish s <|
    if !s.coreUp then s
    else if lost == s.node then s.quarantineEngine
    else if s.redirects.contains (lost, serving) then s
    else
      let l := s.redirects.filter (fun r => r.1 != lost) ++ [(lost, serving)]
      let s := ({ s with redirects := l.drop (l.length - 16) }.genUp O_REDIRECTS).emit (.takeover lost serving)
      s.claimed.foldl State.pump s

/-! ### Handback (R473) -/

/-- TWIN_CTRL HANDBACK (R473): accepted under the three conditions; the context moves at the next beat boundary. -/
def ctlHandback (s : State) : Eff :=
  let c := s.get O_HANDBACK_CONTEXT
  let st := s.cstate c
  let x := s.ctx c
  if s.paired && c < 1024 && !s.ownHalf c && (st == 2 || st == 5) && !x.windows.any Window.isOpen && x.coll.isNone then
    .ok { s with handing := some c }
  else .error 0x21

/-- HANDBACK_TRANSFER (R473): the context becomes the partner's, and this engine keeps its shadow. The last context of the
lost node takes the redirect with it. -/
def execHandbackTransfer (s : State) : Host.Outcome State Fault Refusal :=
  finish s <|
    match s.handing with
    | none => s
    | some c =>
      if !s.coreUp || !s.paired then { s with handing := none }
      else
        let x := s.ctx c
        let nums := [s.cstate c, s.cget c O_STEP, x.seqNext, s.cget c O_PRIOR_STATE]
        let sh : Shadow := ⟨s.recordVals c, s.recordImages c, nums ++ [x.settled],
          [s.cget c O_CONSUMER, s.cget c O_COMPLETED], [], x.crumbs, x.ledgers⟩
        let s := s.mirror .handback c nums
        let s := ((s.releaseReserve c).dropGroups c).dropPools c
        let s := ctxDomains.foldl (fun s k => s.genUp (ctxKey c k)) (s.clearCtx c)
        let s := (s.modShadow c fun _ => sh)
        let s := { s with
          handing := none
          heldHalf := s.heldHalf.filter (· != c)
          partnerPages := s.partnerPages ++ x.lsPages.map fun u => (u, c)
          partnerExtents := s.partnerExtents ++ x.hbmExtents.map fun u => (u, c) }.ownersUp
        if s.heldHalf.isEmpty then
          let lost := s.get O_PARTNER_NODE
          ({ s with redirects := s.redirects.filter fun r => r.1 != lost }.genUp O_REDIRECTS).emit (.returned lost)
        else s

end Sys2Proof.Machine
end

