-- ==== Sys2Proof/Machine/Ckpt.lean ====
section
/-! DEFINITION. Checkpoint and restore (R496 to R506, R509): the slots in the spare region, the manifest and its test, CHECKPOINT
from issue to seal and drain, DISCARD and VERIFY of a slot, and RESTORE. -/

namespace Sys2Proof.Machine

open Sys2Proof

/-! ### Slots (R496) -/

/-- The HBM ports in service. -/
def State.portsUp (s : State) : List Nat := (List.range 4).filter fun p => s.get O_HBM_PORTS_UP / 2 ^ p % 2 == 1

/-- The lowest stack in service, which holds the manifests (R496). -/
def State.lowStack (s : State) : Nat := s.portsUp.head?.getD 0

/-- The memory key of the first byte of a slot in a stack (R496). -/
def State.slotBase (s : State) (st slot : Nat) : Nat :=
  2 ^ 46 + st * 2 ^ 36 + (s.stackCaps.getD st 0 * 2 ^ 30 - (2 - slot) * 2 ^ 32)

/-- Bytes of the manifest area. -/
def manifestArea : Nat := 65536

/-- The bytes of a slot's area in a stack. -/
def slotArea : Nat := 2 ^ 32

/-- The state of a slot set (R509). -/
def State.setCkptSlot (s : State) (slot st : Nat) (info : Bytes) : State :=
  (({ s with ckptStates := s.ckptStates.set slot st, ckptInfo := s.ckptInfo.set slot info }).genUp O_CKPT_SLOT_STATE).genUp
    O_CKPT_SLOT_INFO

/-- NEWEST_SLOT: of the VALID slots the one with the later CUT_BEAT (R503). -/
def State.setNewest (s : State) : State :=
  let ok (i : Nat) : Bool := s.ckptStates.getD i 0 == 2
  let cut (i : Nat) : Nat := fld (s.ckptInfo.getD i []) 16 8
  s.put O_NEWEST_SLOT
    (if ok 0 && ok 1 then (if cut 0 < cut 1 then 1 else 0) else if ok 0 then 0 else if ok 1 then 1 else 0xFF)

/-! ### Shards (R501) and the manifest (R502) -/

/-- The digest of bytes: SHA-256 over the SHA-256 digests of the 2 MiB chunks (R501). -/
def shardDigest (bs : Bytes) : Bytes := sha256 ((chunks chunkSize bs).map sha256).flatten

/-- Cut a length into pieces of at most 256 MiB: offset and length of each (R501). -/
def pieces (len : Nat) : List (Nat × Nat) :=
  (List.range ((len + 268435455) / 268435456)).map fun i => (i * 268435456, min 268435456 (len - i * 268435456))

/-- The fields of a manifest entry, its digest apart (R502). -/
structure CkEntry where
  kind : Nat
  region : Nat
  stack : Nat
  srcOff : Nat
  length : Nat
  place : Nat
  digest : Bytes
deriving DecidableEq, Repr

/-- An entry as its 64 bytes. -/
def CkEntry.image (e : CkEntry) : Bytes :=
  leBytes 1 e.kind ++ leBytes 1 e.region ++ leBytes 2 e.stack ++ leBytes 8 e.srcOff ++ leBytes 4 e.length
    ++ leBytes 8 e.place ++ leBytes 8 0 ++ padTo 32 e.digest

/-- An entry read from its 64 bytes. -/
def parseCkEntry (b : Bytes) : CkEntry := ⟨fld b 0 1, fld b 1 1, fld b 2 2, fld b 4 8, fld b 12 4, fld b 16 8, b.drop 32⟩

/-- The 56 bytes of a header before its SEAL. -/
def State.ckHeader (s : State) (j : CkptJob) (n : Nat) : Bytes :=
  leBytes 4 0x464D4B43 ++ leBytes 1 1 ++ leBytes 1 j.slot ++ leBytes 2 j.ctx ++ leBytes 4 j.ckId ++ leBytes 4 n
    ++ leBytes 8 j.step ++ leBytes 8 j.cutBeat ++ leBytes 2 (s.get O_BLOCK_RELEASE) ++ leBytes 2 s.node
    ++ leBytes 4 (s.current .mctp O_FIRMWARE_RELEASE) ++ leBytes 8 j.digest ++ leBytes 8 0

/-- SEAL: the first 8 bytes of the SHA-256 of header bytes [55:0] and all the entries (R502). -/
def ckSeal (head entries : Bytes) : Bytes := (sha256 (head ++ entries)).take 8

/-- A manifest from its header without SEAL and its entries. -/
def ckManifest (head : Bytes) (es : List CkEntry) : Bytes :=
  let body := (es.map CkEntry.image).flatten
  head ++ ckSeal head body ++ body

/-- A manifest read and tested (R502): its header and entries, or nothing. -/
def readManifest (rd : Nat → Nat → Bytes) : Option (Bytes × List CkEntry) :=
  let h := rd 0 64
  let n := fld h 12 4
  if h.length != 64 || fld h 0 4 != 0x464D4B43 || fld h 4 1 != 1 || n > 1023 then none
  else
    let body := rd 64 (64 * n)
    if body.length == 64 * n && h.drop 56 == ckSeal (h.take 56) body then some (h, (chunks 64 body).map parseCkEntry) else none

/-- The manifest area of a slot. -/
def State.readSlot (s : State) (slot off n : Nat) : Bytes := memGets s.mem (s.slotBase s.lowStack slot + off) n

/-- SLOT_INFO of a slot (R509): the bytes held are those of its shards. -/
def slotInfo (ckId ctx step cut : Nat) (lens : List Nat) : Bytes :=
  leBytes 4 ckId ++ leBytes 2 ctx ++ leBytes 2 0 ++ leBytes 8 step ++ leBytes 8 cut ++ leBytes 8 (lens.foldl (· + ·) 0)

/-- SLOT_INFO as a manifest gives it. -/
def infoOf (m : Bytes × List CkEntry) : Bytes :=
  slotInfo (fld m.1 8 4) (fld m.1 6 2) (fld m.1 16 8) (fld m.1 24 8) (m.2.map (·.length))

/-- Does a slot's area hold nothing but zeros? -/
def State.slotBlank (s : State) (slot : Nat) : Bool :=
  s.portsUp.all fun st => (memSpan s.mem (s.slotBase st slot) slotArea).isEmpty

/-- The scan of both slots (R503): a slot is VALID when its manifest passes, EMPTY when nothing was written to it since its
area was wiped, and INVALID otherwise. -/
def State.scanSlots (s : State) : State :=
  ([0, 1].foldl
    (fun s i =>
      match readManifest (s.readSlot i) with
      | some m => s.setCkptSlot i 2 (infoOf m)
      | none => s.setCkptSlot i (if s.slotBlank i then 0 else 3) (List.replicate 32 0)) s).setNewest

/-! ### CHECKPOINT (R497, R498) -/

/-- The regions of REGION_MASK, in ascending index. -/
def maskRegions (mask : Nat) : List Nat := (List.range 64).filter fun i => mask / 2 ^ i % 2 == 1

/-- The context record's room: 1 MiB. -/
def recordRoom : Nat := 1048576

/-- Bytes bound for each stack's slot area (R498). Local Store regions go to the lowest stack. -/
def State.ckBytes (s : State) (c mask st : Nat) : Nat :=
  let rs := (maskRegions mask).filterMap fun i => ((s.ctx c).regions)[i]?
  let stackOf (r : Region) : Nat := if addrSpace r.base == 1 then addrOff r.base / 2 ^ 36 else s.lowStack
  (if st == s.lowStack then manifestArea + recordRoom else 0)
    + ((rs.filter fun r => stackOf r == st).map (·.len)).foldl (· + ·) 0

/-- The checks of a CHECKPOINT at issue (R400, R498). -/
def State.ckChecks (s : State) (c : Nat) (d : Bytes) : List (Option Nat) :=
  let slot := fld d 24 1
  let fl := fld d 25 1
  let mask := fld d 32 8
  [reservedCheck d [(16, 10), (28, 20)], need (slot < 2 && fl < 8 && (fl % 2 == 1 || fld d 40 8 == 0)) 0x12, s.stateCheck c d,
   need ((maskRegions mask).all fun i => (((s.ctx c).regions)[i]?).any fun r => r.kind != 2) 0x12,
   need ((List.range 4).all fun st => s.ckBytes c mask st ≤ slotArea) 0xC9,
   need (s.ckpt.isNone && s.restoring.isNone && (slot != s.get O_NEWEST_SLOT || fl / 2 % 2 == 1)) 0xCC,
   need (s.beat < fld d 16 8) 0xC8]

/-- The flag of a checkpoint code in CKPT_FLAGS (R509). -/
def State.ckFlag (s : State) (code : Nat) : State :=
  if code == 0xC8 then s.raise O_CKPT_FLAGS 0
  else if code == 0xC9 then s.raise O_CKPT_FLAGS 1
  else if code == 0xCA then s.raise O_CKPT_FLAGS 2
  else if code == 0xCB then s.raise O_CKPT_FLAGS 3
  else if code == 0xCC then s.raise O_CKPT_FLAGS 4
  else if code == 0xCE then s.raise O_CKPT_FLAGS 6
  else if code == 0xCF then s.raise O_CKPT_FLAGS 7
  else s

/-- CHECKPOINT at the front of a ring (R498): it holds the ring until its cut has ended. -/
def issueCheckpoint (s : State) (c i : Nat) (d : Bytes) : State :=
  let cut := fld d 16 8
  let s := s.ckFlag ((firstCode (s.ckChecks c d)).getD 0)
  s.issueDesc c i d (s.ckChecks c d) fun s =>
    let j : CkptJob := ⟨c, i, fld d 24 1, cut, fld d 25 1, fld d 28 4, fld d 32 8, fld d 40 8, 1, 0, 0, [], []⟩
    ({ s with ckpt := some j }.put O_CKPT_PHASE 1).hold c (.checkpoint i cut)

/-- CHECKPOINT (R498). -/
def execCheckpoint (c : Nat) (s : State) : Host.Outcome State Fault Refusal :=
  finish s (s.takeFront c (fun d => fld d 0 1 == 0x41) fun i d => issueCheckpoint s c i d)

/-! ### The end of a checkpoint's descriptor -/

/-- The descriptor of a checkpoint ends, when it still exists (R504). -/
def State.endCkptDesc (s : State) (j : CkptJob) (code : Nat) : State :=
  if (s.ctx j.ctx).ring.active.any fun a => a.idx == j.idx && a.op == 0x41 then s.endDesc j.ctx j.idx code else s

/-- A checkpoint stops before its seal (R504); a context in CHECKPOINTING goes back to its PRIOR_STATE, or to HALTED after an
uncorrectable read (R457). -/
def State.stopCkpt (s : State) (j : CkptJob) (read : Bool) : State :=
  let s := s.abortCkpt.endCkptDesc j 0xCD
  let s := if s.cstate j.ctx == 7 then s.toState j.ctx (s.cget j.ctx O_PRIOR_STATE) 0 else s
  if read then s.memHalt j.ctx none else s

/-- CHECKPOINT_ABORT (R504): a checkpoint using the slot stops before its seal, as after a read that its copy engine found
uncorrectable. -/
def execCheckpointAbort (slot : Nat) (s : State) : Host.Outcome State Fault Refusal :=
  finish s <|
    match s.ckpt with
    | some j => if s.coreUp && j.slot == slot && j.phase < 4 then s.stopCkpt j false else s
    | none => s

/-! ### The cut and stage 1 (R499) -/

/-- Is something of the context in progress that rules out a cut (R499)? -/
def Ctx.cutBusy (x : Ctx) : Bool :=
  x.windows.any Window.isOpen || !x.grouped.isEmpty || !x.fabs.isEmpty || x.coll.isSome || !x.intakes.isEmpty
    || x.ring.active.any fun a => [0x03, 0x10, 0x11, 0x12, 0x20, 0x21].contains a.op

/-- The context record as bytes, filled up to 1 MiB with zeros (R499). -/
def State.ckRecord (s : State) (c : Nat) : Bytes :=
  let base := s.cget c O_RING_BASE
  let ring := if base == 0 then [] else s.rd base 64
  let l := packRecord (s.recordNums c) (s.recordVals c) (s.recordImages c) ring
  l ++ List.replicate (recordRoom - l.length) 0

/-- The shards of a checkpoint and their places: the record, then the regions in ascending index and offset (R501, R502). -/
def State.planShards (s : State) (j : CkptJob) (recLen : Nat) : List Shard :=
  let low := s.lowStack
  let base (st : Nat) : Nat := s.slotBase st j.slot
  let used := (List.range 4).map fun st => if st == low then manifestArea + recLen else 0
  let ps := ((maskRegions j.mask).map fun i =>
      match ((s.ctx j.ctx).regions)[i]? with
      | some r => (pieces r.len).map fun p =>
          (i, (if addrSpace r.base == 1 then addrOff r.base / 2 ^ 36 else low), addrKey r.base + p.1, p.2)
      | none => []).flatten
  let out := ps.foldl
    (fun (a : List Shard × List Nat) p =>
      let at_ := a.2.getD p.2.1 0
      (a.1 ++ [⟨1, p.1, p.2.1, p.2.2.1, p.2.2.2, base p.2.1 + at_⟩], a.2.set p.2.1 (at_ + p.2.2.2))) ([], used)
  ⟨0, 0, low, 0, recLen, base low + manifestArea⟩ :: out.1

/-- Is a shard a piece of an HBM region, which the background stage copies? -/
def Shard.hbm (sh : Shard) : Bool := sh.kind == 1 && 2 ^ 46 ≤ sh.srcOff

/-- The chunks of the background stage, in ascending region and address (R500). -/
def ckChunks (shards : List Shard) : List (Nat × Nat) :=
  (shards.zipIdx.map fun p =>
    if p.1.hbm then (List.range ((p.1.length + chunkSize - 1) / chunkSize)).map fun k => (p.2, k * chunkSize) else []).flatten

/-- A Local Store shard copied into the slot. -/
def State.copyShard (s : State) (sh : Shard) : State :=
  { s.unpoison sh.place sh.length with mem := memCopy s.mem sh.srcOff sh.place sh.length }

/-- The cut is taken (R499): the context goes to CHECKPOINTING, the manifest's header is zeroed, and record and Local Store
regions are copied. -/
def State.takeCut (s : State) (c : Nat) (j : CkptJob) : State :=
  let st := s.cstate c
  let s := (s.cput c O_PRIOR_STATE st).toState c 7 0
  let s := s.wr (s.slotBase s.lowStack j.slot) (List.replicate 64 0)
  let s := (s.setCkptSlot j.slot 1 (List.replicate 32 0)).setNewest
  let rec_ := s.ckRecord c
  let shards := s.planShards j rec_.length
  let local_ := shards.filter fun sh => sh.kind == 1 && !sh.hbm
  let j := { j with
    phase := 2, step := s.cget c O_STEP, digest := s.matchDigest c, shards := shards, chunks := ckChunks shards }
  let s := ({ s with ckpt := some j }.put O_CKPT_PHASE 2).modRing c fun r =>
    { r.unhold j.idx with holds := .stage1 j.idx :: (r.unhold j.idx).holds }
  if local_.any fun sh => s.isPoisoned sh.srcOff sh.length then s.stopCkpt j true
  else
    let s := s.wr (s.slotBase s.lowStack j.slot + manifestArea) rec_
    local_.foldl State.copyShard s

/-- The CHECKPOINT that holds a ring before its cut: its index and beat. -/
def Ring.cutting (r : Ring) : Option (Nat × Nat) :=
  (r.holds.filterMap fun h => match h with | .checkpoint i b => some (i, b) | _ => none).head?

/-- CHECKPOINT_CUT (R499): at the boundary of CUT_BEAT, at position 3 of R254. Without a cut the descriptor ends with
CKPT_BUSY. -/
def execCheckpointCut (c : Nat) (s : State) : Host.Outcome State Fault Refusal :=
  finish s <|
    match (s.ctx c).ring.cutting, s.ckpt with
    | some (i, b), some j =>
      if !s.coreUp || s.beat < b || s.dueBelow 3 b || j.ctx != c || j.idx != i then s
      else
        let st := s.cstate c
        if (s.ctx c).cutBusy || !(st == 2 || st == 3 || st == 5) then
          ((({ s with ckpt := none }).put O_CKPT_PHASE 0).ckFlag 0xCC).endDesc c i 0xCC
        else s.takeCut c j
    | _, _ => s

/-- CHECKPOINT_STAGE1_END (R499): the context returns to PRIOR_STATE, the ring resumes, and the background stage begins. -/
def execCheckpointStage1End (c : Nat) (s : State) : Host.Outcome State Fault Refusal :=
  finish s <|
    match s.ckpt with
    | some j =>
      if s.coreUp && j.ctx == c && j.phase == 2 then
        let s := { s with ckpt := some { j with phase := 3 } }.put O_CKPT_PHASE 3
        let s := s.modRing c fun r => r.unhold j.idx
        if s.cstate c == 7 then s.toState c (s.cget c O_PRIOR_STATE) 0 else s.syncRing c
      else s
    | none => s

/-! ### The background stage, the seal and the drain (R500 to R503) -/

/-- BACKGROUND_CHUNK_COPY (R500): the next chunk is copied; one that reads a poisoned line stops the checkpoint. -/
def execBackgroundChunkCopy (c : Nat) (s : State) : Host.Outcome State Fault Refusal :=
  finish s <|
    match s.ckpt with
    | some j =>
      match j.chunks with
      | ch :: _ =>
        if s.coreUp && j.ctx == c && j.phase == 3 then
          match j.chunkSpan ch with
          | some (src, _, n) => if s.isPoisoned src n then s.stopCkpt j true else s.copyChunk j ch
          | none => s
        else s
      | [] => s
    | none => s

/-- The entries of a sealed slot: SOURCE_OFFSET counts within the region, PLACE within the slot area of the stack. -/
def State.ckEntries (s : State) (j : CkptJob) : List CkEntry :=
  j.shards.zipIdx.map fun p =>
    let before := ((j.shards.take p.2).filter fun v => v.kind == p.1.kind && v.region == p.1.region).length
    ⟨p.1.kind, p.1.region, p.1.stack, before * 268435456, p.1.length, p.1.place - s.slotBase p.1.stack j.slot,
      shardDigest (memGets s.mem p.1.place p.1.length)⟩

/-- The manifest is written, SEAL last, and the slot is VALID (R502). -/
def State.sealSlot (s : State) (j : CkptJob) : State :=
  let es := s.ckEntries j
  let s := s.wr (s.slotBase s.lowStack j.slot) (ckManifest (s.ckHeader j es.length) es)
  let info := slotInfo j.ckId j.ctx j.step j.cutBeat (j.shards.map (·.length))
  ((s.setCkptSlot j.slot 2 info).put O_NEWEST_SLOT j.slot).bump O_CHECKPOINTS 1

/-- CHECKPOINT_SEAL (R502): every shard is in the slot. With DRAIN set the drain begins, and otherwise the descriptor ends. -/
def execCheckpointSeal (c : Nat) (s : State) : Host.Outcome State Fault Refusal :=
  finish s <|
    match s.ckpt with
    | some j =>
      if s.coreUp && j.ctx == c && j.phase == 3 && j.chunks.isEmpty then
        let s := s.sealSlot j
        if j.flags % 2 == 1 then ({ s with ckpt := some { j with phase := 4 } }.put O_CKPT_PHASE 4).put O_DRAIN_BYTES 0
        else ({ s with ckpt := none }.put O_CKPT_PHASE 0).endCkptDesc j 0
      else s
    | none => s

/-- The entries of a drained image: shards at 64 KiB-aligned places from 64 KiB, STACK FFFFh (R503). The number is the length
of the image. -/
def drainPlaces : Nat → List CkEntry → List CkEntry × Nat
  | end_, [] => ([], end_)
  | end_, e :: r =>
    let p := (end_ + 65535) / 65536 * 65536
    let (l, n) := drainPlaces (p + e.length) r
    ({ e with stack := 0xFFFF, place := p } :: l, n)

/-- Bytes of a drained image sent: to the host, or as copy chunks to another node (R503). -/
def State.drainBytes (s : State) (j : CkptJob) (off : Nat) (bs : Bytes) : State :=
  if j.flags / 4 % 2 == 1 then s.hostWrite (j.drainAddr + off) bs
  else
    (chunks 1048576 bs).zipIdx.foldl
      (fun s p =>
        let a := j.drainAddr + off + 1048576 * p.2
        let r : RemoteReq := ⟨s.nextId, s.nodeOf j.ctx, j.ctx, .copyChunk, a, p.1.length, .int64, false, p.1, [], 0⟩
        s.takeId.emit (.remote (addrNode a) r)) s

/-- The image sent, its manifest last and its SEAL last of all (R503). -/
def State.drainImage (s : State) (j : CkptJob) (len : Nat) (es : List CkEntry) : State :=
  let s := (j.shards.zip es).foldl (fun s p => s.drainBytes j p.2.place (memGets s.mem p.1.place p.1.length)) s
  let m := ckManifest (s.ckHeader j es.length) es
  let s := s.drainBytes j 0 (m.take 56 ++ List.replicate 8 0 ++ m.drop 64)
  (s.drainBytes j 56 ((m.drop 56).take 8)).put O_DRAIN_BYTES len

/-- CHECKPOINT_DRAIN (R503): the drain ends. It fails when its destination is not covered by a source window or has not taken
it (`delivered` false), when no HA module carries it, or when the slot itself cannot be read. -/
def execCheckpointDrain (c : Nat) (delivered : Bool) (s : State) : Host.Outcome State Fault Refusal :=
  finish s <|
    match s.ckpt with
    | some j =>
      if s.coreUp && j.ctx == c && j.phase == 4 then
        let (es, len) := drainPlaces manifestArea (s.ckEntries j)
        let way := if j.flags / 4 % 2 == 1 then !s.hostMods.isEmpty else (s.ctx c).windowOk j.drainAddr len 4
        let bad := j.shards.any fun sh => s.isPoisoned sh.place sh.length
        let ok := delivered && way && !bad
        let s := if ok then s.drainImage j len es else s.ckFlag 0xCF
        ({ s with ckpt := none }.put O_CKPT_PHASE 0).endCkptDesc j (if ok then 0 else 0xCF)
      else s
    | none => s

/-! ### SLOT_CTRL (R486, R502, R509) -/

/-- SLOT_CTRL DISCARD: the slot's area is wiped in every stack, and the slot is EMPTY (R486). -/
def ctlSlotDiscard (s : State) (slot : Nat) : Eff :=
  let s := s.portsUp.foldl (fun s st => s.wipeSpan (s.slotBase st slot) slotArea) s
  .ok (s.setCkptSlot slot 0 (List.replicate 32 0)).setNewest

/-- SLOT_CTRL VERIFY: manifest and shard digests of the slot are looked at. -/
def ctlSlotVerify (s : State) (slot : Nat) : Eff :=
  .ok ({ s with restoring := some ⟨0xFFFF, [], true, slot⟩ }.put O_CKPT_PHASE 5)

/-- A write of SLOT_CTRL (R509, R536). -/
def ctlSlot (s : State) (v : Nat) : Eff :=
  match v with
  | 1 => ctlSlotDiscard s 0
  | 2 => ctlSlotDiscard s 1
  | 3 => ctlSlotVerify s 0
  | 4 => ctlSlotVerify s 1
  | _ => .error 0x12

/-- RESTORE_STATUS takes the outcome of a restore or a verify, with its flag. -/
def State.restoreEnds (s : State) (code : Nat) : State :=
  (({ s with restoring := none }.put O_CKPT_PHASE 0).put O_RESTORE_STATUS code).ckFlag code

/-- The source that a restore or a verify reads: the manifest area of the slot, or the drained image. -/
def State.restoreRead (s : State) (j : RestoreJob) (off n : Nat) : Bytes :=
  if j.slot < 2 then s.readSlot j.slot off n else (j.image.drop off).take n

/-- The bytes of a shard at that source. -/
def State.shardBytes (s : State) (j : RestoreJob) (e : CkEntry) : Bytes :=
  if j.slot < 2 then memGets s.mem (s.slotBase e.stack j.slot + e.place) e.length else (j.image.drop e.place).take e.length

/-- SLOT_VERIFY_END (R509): the verify ends; RESTORE_STATUS takes 00h, CKPT_NO_MANIFEST or CKPT_DIGEST. A slot without a
sealed manifest is INVALID, unless nothing was written to it. -/
def execSlotVerifyEnd (s : State) : Host.Outcome State Fault Refusal :=
  finish s <|
    match s.restoring with
    | some j =>
      if !s.coreUp || !j.verify then s
      else match readManifest (s.restoreRead j) with
        | none =>
          let st := if s.slotBlank j.slot then 0 else 3
          (s.setCkptSlot j.slot st (List.replicate 32 0)).setNewest.restoreEnds 0xCB
        | some m => s.restoreEnds (if m.2.all fun e => shardDigest (s.shardBytes j e) == e.digest then 0 else 0xCA)
    | none => s

/-! ### RESTORE (R505, R506) -/

/-- The unpacked record of a checkpoint. -/
def State.restoreRecord (s : State) (j : RestoreJob) (es : List CkEntry) : List (Nat × Nat × Bytes) :=
  match es.find? fun e => e.kind == 0 with
  | some e => unpackRecord e.length (s.shardBytes j e)
  | none => []

/-- The region shards of a manifest. -/
def regionShards (es : List CkEntry) : List CkEntry := es.filter fun e => e.kind == 1

/-- Is a region of the manifest registered in the target with the same KIND and LENGTH (R505)? -/
def regionMatches (x : Ctx) (old : List Region) (es : List CkEntry) (i : Nat) : Bool :=
  let len := (((regionShards es).filter fun e => e.region == i).map (·.length)).foldl (· + ·) 0
  match x.regions[i]?, old[i]? with
  | some r, some o => r.kind == o.kind && r.len == o.len && r.len == len
  | _, _ => false

/-- Does nothing stand in the way of a restore (R505)? -/
def State.restoreFits (s : State) (j : RestoreJob) (m : Bytes × List CkEntry) : Bool :=
  let images := unpackImages (s.restoreRecord j m.2)
  let old := ((images.find? fun e => e.1 == O_REGIONS).map fun e => parseRegions e.2).getD []
  let unused (e : Nat × Bytes) : Bool :=
    let k := e.1 % 2 ^ 32
    match e.1 / 2 ^ 32 with
    | 1 => (s.group k).owner == 0xFFFF
    | 2 => leNat e.2 == 0 || s.pget k O_POOL_STATE == 0
    | _ => true
  fld m.1 32 2 == s.get O_BLOCK_RELEASE && ((regionShards m.2).map (·.region)).all (regionMatches (s.ctx j.ctx) old m.2)
    && images.all unused

/-- RESTORE_CTRL RESTORE (R505): the manifest is checked against the target, and the shards start to be read. `image` is what
lies at RESTORE_ADDR. -/
def ctlRestore (s : State) (image : Bytes) : Eff :=
  let c := s.get O_RESTORE_CONTEXT
  if c ≥ 1024 || s.cstate c != 1 then .error 0x21
  else
    let j : RestoreJob := ⟨c, image, false, s.get O_RESTORE_FROM⟩
    match readManifest (s.restoreRead j) with
    | none => .ok (s.restoreEnds 0xCB)
    | some m =>
      if s.restoreFits j m then .ok ({ s with restoring := some j }.put O_CKPT_PHASE 5) else .ok (s.restoreEnds 0xCE)

/-- Region shards checked and written, in order, up to the first that fails; the code that stopped them, if any. -/
def State.restoreShards (s : State) (j : RestoreJob) (es : List CkEntry) : State × Option Nat :=
  (regionShards es).foldl
    (fun (a : State × Option Nat) e =>
      match a.2, ((a.1.ctx j.ctx).regions)[e.region]? with
      | some code, _ => (a.1, some code)
      | none, none => (a.1, some 0xCE)
      | none, some r =>
        let bs := a.1.shardBytes j e
        if j.slot < 2 && a.1.isPoisoned (a.1.slotBase e.stack j.slot + e.place) e.length then (a.1, some 0xE9)
        else if shardDigest bs != e.digest then (a.1, some 0xCA)
        else if e.srcOff + e.length > r.len then (a.1, some 0xCE)
        else (a.1.wr (r.base + e.srcOff) bs, none)) (s, none)

/-- Does an image of the record apply to the target: memory it lays out is that of the target itself, and a pool lies in the
target's regions? -/
def State.restoreImageOk (s : State) (c : Nat) (e : Nat × Bytes) : Bool :=
  let x := s.ctx c
  let p := e.1 % 2 ^ 32
  if e.1 / 2 ^ 32 == 2 then x.inRegion (s.pget p O_BASE) (s.pget p O_LENGTH) && x.inRegion (s.pget p O_META_BASE) 1
  else ! [O_LS_PAGES, O_HBM_EXTENTS, O_REGIONS].contains e.1

/-- The context record written in one action (R506): configuration, step position, window sequence; pools anew; no slot is
ACTIVE; CONSUMER and COMPLETED at the PRODUCER of the record's ring header. -/
def State.restoreContext (s : State) (c : Nat) (l : List (Nat × Nat × Bytes)) : State :=
  let nums := unpackNums l
  let s := s.applyVals c (unpackVals l)
  let s := ((unpackImages l).filter fun e => s.restoreImageOk c e).foldl (fun s e => s.applyImage c e) s
  let s := (s.cput c O_STEP (nums.getD 2 0)).modCtx c fun x =>
    { x with
      settled := nums.getD 0 0
      seqNext := nums.getD 1 0
      slotStates := x.slotStates.map fun v => if v ≥ 3 then 2 else v
      ring := Ring.init }
  let prod := ((l.find? fun e => e.1 == 4).map fun e => fld e.2.2 0 4).getD 0
  let base := s.cget c O_RING_BASE
  let s := if base == 0 || !(s.ctx c).inRegion base (64 + 64 * s.cget c O_RING_ENTRIES) then s.cput c O_RING_BASE 0
    else s.wrNat base 4 prod
  (s.setIndices c prod prod).mirrorFull c

/-- RESTORE_FINISH (R506): the shards have been read; the record comes last, in one action. -/
def execRestoreFinish (s : State) : Host.Outcome State Fault Refusal :=
  finish s <|
    match s.restoring with
    | some j =>
      if !s.coreUp || j.verify then s
      else match readManifest (s.restoreRead j) with
        | none => s.restoreEnds 0xCB
        | some m =>
          if s.cstate j.ctx != 1 then s.restoreEnds 0xCE
          else
            let (t, bad) := s.restoreShards j m.2
            match bad with
            | some code => if code == 0xE9 then (t.restoreEnds code).memHalt j.ctx none else t.restoreEnds code
            | none =>
              let recOk := m.2.all fun e => e.kind != 0 || shardDigest (t.shardBytes j e) == e.digest
              if !recOk then t.restoreEnds 0xCA
              else (t.restoreContext j.ctx (t.restoreRecord j m.2)).restoreEnds 0
    | none => s

end Sys2Proof.Machine
end

