-- ==== Sys2Proof/Machine/Power.lean ====
section
/-! DEFINITION. Resets (R478 to R480, R486), the start sequence and its journal (R481 to R485), the board control pins (R529),
and the control of power and heat (R530 to R532). -/

namespace Sys2Proof.Machine

open Sys2Proof

/-! ### The start journal (R484) -/

/-- An attempt read from its 288 bytes. -/
def parseAttempt (b : Bytes) : Attempt :=
  { number := fld b 0 4, kind := fld b 4 1, outcome := fld b 5 1, lastStep := fld b 6 1, lc := fld b 7 1,
    startUs := fld b 8 8, totalUs := fld b 16 4, firmware := fld b 20 4,
    recs := (List.range 32).map fun i =>
      let r := b.drop (32 + 8 * i)
      ⟨i, fld r 1 1, fld r 2 1, fld r 4 2, fld r 6 2⟩ }

/-- The running or last attempt changed. -/
def State.modAttempt (s : State) (f : Attempt → Attempt) : State :=
  match s.attempts with
  | [] => s
  | a :: r => { s with attempts := f a :: r }.genUp O_JOURNAL

/-- A step record written (R480). -/
def Attempt.note (a : Attempt) (r : StepRec) : Attempt :=
  { a with recs := a.recs.filter (fun v => v.step != r.step) ++ [r], lastStep := r.step }

/-- The journal sent to the partner after a record or header has been written (R485). -/
def State.sendJournal (s : State) : State :=
  match s.attempts with
  | a :: _ => if s.twinJoined then s.emit (.journal a.image) else s
  | [] => s

/-- A new attempt (R480, R484): a running one is marked INTERRUPTED; four are kept. After a warm reset steps 0 to 5 read KEPT
and the firmware stays in force (R479). -/
def State.newAttempt (s : State) (kind : Nat) : State :=
  let warm := kind == 2
  let n := (s.get O_ATTEMPTS + 1) % 2 ^ 32
  let old := s.attempts.zipIdx.map fun p => if p.2 == 0 && p.1.outcome == 0 then { p.1 with outcome := 4 } else p.1
  let first := if warm then 6 else 0
  let a : Attempt :=
    { number := n, kind := kind, outcome := 0, lastStep := first, lc := s.get O_LC_STATE,
      startUs := if kind == 0 then 0 else Config.duration s.freeCtr % 2 ^ 64, totalUs := 0,
      firmware := if warm then (old.head?.map (·.firmware)).getD 0 else 0
      recs := (if warm then (List.range 6).map fun i => ⟨i, 7, 0, 0, 0⟩ else []) ++ [⟨first, 6, 0, 0, 0⟩] }
  let s := (s.put O_ATTEMPTS n).drawn
  ({ s with attempts := (a :: old).take 4, startStep := some first }.put O_START_STATE 0).genUp O_JOURNAL

/-! ### Resets (R478, R479) -/

/-- Link objects that the island keeps for its trained spine links (R325). -/
def spineObj (k : Nat) : Bool := 0x251800 ≤ k && k < 0x251C00

/-- Objects that a power-on reset leaves: those of 1100h (R415), fuses and what counts since VAON power-on, and the island's.
A life-cycle change returns 1100h to its defaults (R489). -/
def keptObj (kind k : Nat) : Bool :=
  (k / 256 == 0x1100 && kind == 1) || spineObj k
    || [O_LC_STATE, O_OWNER_SLOTS_LEFT, O_DEBUG_FAILS, O_ATTEMPTS, O_BYPASS_STATE].contains k

/-- A power-on reset (code 1) or the reset of a life-cycle change (code 3): what the core holds returns to its reset value.
Memory keeps its bytes until the start wipes it; fuses, management settings and retained storage hold as R478 lays down. -/
def State.powerReset (s : State) (kind : Nat) : State :=
  let lc := kind == 3
  let z := State.reset
  { z with
    pending := s.pending
    objs := (s.objs.filter fun p => keptObj kind p.1).filter fun p => !(lc && p.1 == O_ATTEMPTS)
    raises := s.raises.filter fun p => p.1 / 32 == O_DICT_FLAGS && !lc
    gens := s.gens
    mem := s.mem
    links := s.links.filter fun p => 8 ≤ p.1
    hostGrants := if lc then z.hostGrants else s.hostGrants
    fabricGrants := if lc then [] else s.fabricGrants
    mctpGrant := if lc then z.mctpGrant else s.mctpGrant
    mctpLowered := s.mctpLowered
    lastDenied := if lc then z.lastDenied else s.lastDenied
    serial := s.serial
    announced := s.announced
    startStep := none
    attempts := if lc then [] else s.attempts
    partnerJournal := if lc then [] else s.partnerJournal
    policy := if lc then defaultPolicy else s.policy
    ownerKey := s.ownerKey
    ownerRetired := s.ownerRetired
    debugLocked := s.debugLocked
    stackCaps := s.stackCaps
    resetN := s.resetN
    corePg := s.corePg
    pwrAlert := s.pwrAlert
    thermTrip := s.thermTrip
    i3cAddr := s.i3cAddr
    out := s.out
    freeCtr := s.freeCtr }

/-- The reset carried out: the island enters bypass while the engine is in reset (R325), and the attempt begins. -/
def State.beginReset (s : State) (kind : Nat) : State :=
  (((s.powerReset kind).put O_LAST_RESET_KIND kind).enterBypass).newAttempt kind

/-- A warm reset (R479): the engine yields to a paired twin, its contexts end, it is in reset in the sense of R325, and steps
6 to 31 run. Engine objects, counters, and the state of tiles, regions and cores stay; a unit that was returning is
quarantined again. -/
def State.warmReset (s : State) : State :=
  let s := if s.paired then s.emit .yield else s
  let s := s.loseContexts
  let s := { s with
    sessions := [], challenges := [], measured := [], spdmState := 0, mailboxes := [], latchDue := false, hotLines := s.hotLines
    hbmStacks := [], haModules := List.replicate 8 0, jumpBy := 0, redirects := []
    tiles := s.tiles.map fun (p : Nat × Tile) => if p.2.state == 2 then (p.1, { p.2 with state := 1 }) else p
    regs := s.regs.map fun (p : Nat × EngRegion) => if p.2.state == 2 then (p.1, { p.2 with state := 1 }) else p
    coreStates := s.coreStates.map fun v => if v == 1 then 0 else v }
  let s := ((((s.put O_ENGINE_STATE 0).put O_TWIN_STATE 0).put O_BEAT_STATE 0).put O_HBM_PORTS_UP 0).put O_HOT_QUEUE_DEPTH 0
  ((s.put O_LAST_RESET_KIND 2).enterBypass).newAttempt 2

/-- RESET_CTRL WARM (R479): accepted in any engine state. -/
def ctlWarm (s : State) : Eff := .ok s.warmReset

/-- A write of RESET_CTRL (R508, R536). -/
def ctlReset (s : State) (v : Nat) : Eff :=
  match v with
  | 1 => ctlWarm s
  | _ => .error 0x12

/-- VAON_POWER_ON (R478): everything but fuses, memory and the state of the pins is at its reset value, and every step runs
with a blank journal. -/
def execVaonPowerOn (s : State) : Host.Outcome State Fault Refusal :=
  finish s <|
    let z := State.reset
    { z with
      objs := z.objs ++ s.objs.filter fun p => p.1 == O_LC_STATE || p.1 == O_OWNER_SLOTS_LEFT
      attempts := [{ firstAttempt with lc := s.get O_LC_STATE }]
      mem := s.mem, stackCaps := s.stackCaps, ownerKey := s.ownerKey, ownerRetired := s.ownerRetired
      resetN := s.resetN, corePg := s.corePg, pwrAlert := s.pwrAlert, serial := s.serial
      out := s.out, freeCtr := s.freeCtr }

/-! ### Board control (R529) -/

/-- RESET_N_LOW (R529): a power-on reset. THERMTRIP_N is released. -/
def execResetNLow (s : State) : Host.Outcome State Fault Refusal :=
  finish s (if s.resetN then State.beginReset { s with resetN := false, thermTrip := false } 1 else s)

/-- RESET_N_HIGH (R529): the start begins, once the core supply is up. -/
def execResetNHigh (s : State) : Host.Outcome State Fault Refusal :=
  finish s (if s.resetN then s else { s with resetN := true })

/-- CORE_PG_FALL (R529): the island enters bypass; what was running ends as under R454. -/
def execCorePgFall (s : State) : Host.Outcome State Fault Refusal :=
  finish s <|
    if s.corePg then
      let s := { s with corePg := false, startStep := none, sessions := [], challenges := [], spdmState := 0, measured := [] }
      s.loseContexts.enterBypass
    else s

/-- CORE_PG_RISE (R478, R529): a power-on reset, or the beginning of the start that waited for the supply. -/
def execCorePgRise (s : State) : Host.Outcome State Fault Refusal :=
  finish s <|
    if s.corePg then s
    else
      let s := { s with corePg := true }
      if s.startStep == some 0 then s else s.beginReset 1

/-- PWR_ALERT_N_LOW (R529): the arithmetic clock steps to 1.8 GHz. -/
def execPwrAlertNLow (s : State) : Host.Outcome State Fault Refusal := finish s { s with pwrAlert := true }

/-- PWR_ALERT_N_RELEASE (R529): the pin has been high for one beat. -/
def execPwrAlertNRelease (s : State) : Host.Outcome State Fault Refusal := finish s { s with pwrAlert := false }

/-! ### Power and heat (R530 to R532) -/

/-- A limit of R527, R530 or R531 has been exceeded in this beat (R447, R532). -/
def State.exceed (s : State) : State := { s with exceeded := max 1 s.beat }

/-- POWER_CONTROL (R530): the mean power of the last beat and that of the last 10 ms, in mW, against the cap. -/
def execPowerControl (beatMw meanMw : Nat) (s : State) : Host.Outcome State Fault Refusal :=
  finish s <|
    if !s.corePg || !s.resetN then s
    else
      let cap := 1000 * s.get O_POWER_CAP_W
      let s := (s.put O_POWER_MW (beatMw % 2 ^ 32)).put O_POWER_PEAK_MW (max (s.get O_POWER_PEAK_MW) (meanMw % 2 ^ 32))
      let s := if meanMw > 1350000 then s.exceed else s
      if beatMw > cap || meanMw > 1350000 then { s with powerSteps := min 3 (s.powerSteps + 1), powerQuiet := 0 }
      else if 100 * beatMw < 95 * cap then
        if s.powerQuiet + 1 ≥ 16 then { s with powerSteps := s.powerSteps - 1, powerQuiet := 0 }
        else { s with powerQuiet := s.powerQuiet + 1 }
      else { s with powerQuiet := 0 }

/-- The clock steps that the temperature asks for (R531), in hundredths of °C. `thermBeats` is the beat after the last step
down while the temperature stays at the limit, `thermCool` the beat after the one from which it has been 3 °C below. -/
def State.heatSteps (s : State) (t : Int) : State :=
  let lim : Int := 100 * (s.get O_THERM_THROTTLE_C : Int)
  if t ≥ lim then
    let s := { s with thermCool := 0 }
    if s.thermBeats == 0 || s.beat + 1 ≥ s.thermBeats + 16 then
      { s with thermSteps := min 3 (s.thermSteps + 1), thermBeats := s.beat + 1 }
    else s
  else if t + 300 ≤ lim then
    if s.thermCool == 0 then { s with thermBeats := 0, thermCool := s.beat + 1 }
    else if s.beat + 1 ≥ s.thermCool + 16 then { s with thermBeats := 0, thermCool := s.beat + 1, thermSteps := s.thermSteps - 1 }
    else { s with thermBeats := 0 }
  else { s with thermBeats := 0, thermCool := 0 }

/-- THERMAL_CONTROL (R531): the junction temperatures of the regions, in hundredths of °C. At 115 °C the engine quarantines
itself and drives THERMTRIP_N low. -/
def execThermalControl (temps : List Int) (s : State) : Host.Outcome State Fault Refusal :=
  finish s <|
    if !s.corePg || !s.resetN then s
    else
      let t := temps.foldl max (temps.headD 0)
      let s := { s with tempRegion := temps }.genUp O_TEMP_REGION
      let s := s.put O_TEMP_MAX (t % (2 ^ 32 : Int)).toNat
      let s := if t > 10500 then s.exceed else s
      if t ≥ 11500 then { s.quarantineEngine with thermTrip := true } else s.heatSteps t

/-! ### The start sequence (R481, R482) -/

/-- The limits of R481, in µs. -/
def stepLimits : List Nat :=
  [1000, 1000, 2000, 20000, 5000, 5000, 2000, 5000, 1000, 10000, 10000, 10000, 10000, 10000, 30000, 30000]
    ++ [30000, 30000, 1000, 30000, 20000, 20000, 2000, 50000, 50000, 4000, 1000, 1000, 1000, 1000, 1000, 1000]

/-- Does a stack serve a port (R276, R518, R519): its mode, capacity in GiB and pin rate? -/
def stackOk (mode cap rate : Nat) : Bool :=
  rate ≥ 6400 && ((mode == 1 && [16, 32, 64].contains cap) || (mode == 2 && [16, 32].contains cap))

/-- Does a step count as failed at its first try: by its own report, by its limit, or by the units it names? -/
def stepFails (k : Nat) (r : StepResult) : Bool :=
  !r.ok || r.durationUs > stepLimits.getD k 1000
    || (9 ≤ k && k ≤ 13 && !r.detail.isEmpty)
    || (14 ≤ k && k ≤ 17 && !stackOk (r.detail.getD 0 0) (r.detail.getD 1 0) (r.detail.getD 2 0))

/-- Did the alternate of a step pass? -/
def altPasses (k : Nat) (r : StepResult) : Bool :=
  r.altOk && (!(14 ≤ k && k ≤ 17) || stackOk (r.detail.getD 0 0) (r.detail.getD 1 0) (r.detail.getD 2 0))

/-- Sequencer cores that failed their test are retired (step 6). -/
def State.retireCores (s : State) (bits : Nat) : State :=
  { s with coreStates := s.coreStates.zipIdx.map fun (p : Nat × Nat) => if bits / 2 ^ p.2 % 2 == 1 then 2 else p.1 }.genUp O_SQ_CORE_STATE

/-- The stack of a port, as its training found it (steps 14 to 17). -/
def State.setStack (s : State) (p : Nat) (r : StepResult) (good : Bool) : State :=
  let l := (List.range 4).map fun i => s.hbmStacks.getD i (0, 0)
  { s with
    hbmStacks := l.set p (if good then (r.detail.getD 0 0, r.detail.getD 2 0) else (0, 0))
    stackCaps := s.stackCaps.set p (if good then r.detail.getD 1 0 else 0) }.genUp O_STACK_CAPACITY

/-- The identity of the stack at a port: mode and capacity. -/
def State.stackId (s : State) (p : Nat) : Nat × Nat := ((s.hbmStacks.getD p (0, 0)).1, s.stackCaps.getD p 0)

/-- The HBM mode decision (step 18, R276, R518): the identity that most stacks report, the lowest port's among equals; a port
whose stack differs stays out of service. -/
def State.decideMode (s : State) : State :=
  let ids := (List.range 4).map s.stackId
  let count (i : Nat × Nat) : Nat := (ids.filter (· == i)).length
  let best := (ids.filter fun i => i.1 != 0).foldl (fun (b : Nat × Nat) i => if count i > count b || b.1 == 0 then i else b) (0, 0)
  let up := (List.range 4).filter fun p => best.1 != 0 && s.stackId p == best
  let rates := up.map fun p => (s.hbmStacks.getD p (0, 0)).2
  let s := (s.put O_HBM_MODE best.1).put O_HBM_PORTS_UP (bitsOf ((List.range 4).map up.contains))
  (s.put O_HBM_PIN_RATE (rates.foldl min (rates.headD 0))).ownersUp

/-- Local Store, or HBM outside the spare region, wiped at start (steps 8 and 19, R304). -/
def State.startWipe (s : State) (hbm : Bool) (us : Nat) (bad : List Nat) : State :=
  let mine (q : Nat) : Bool := if hbm then 2 ^ 46 ≤ q && !s.inSpare q else q < 2 ^ 46
  let s := { s with mem := s.mem.filter fun p => !mine p.1, poisoned := s.poisoned.filter fun p => !mine p.1 }
  (bad.foldl (fun s u => s.retireUnit hbm u) s).put O_WIPE_LAST_US (us % 2 ^ 32)

/-- The links of a training step: those still untrained or named as failed are DOWN (steps 23 and 24). -/
def State.linksTrained (s : State) (l0 n bits : Nat) : State :=
  (List.range n).foldl
    (fun s i =>
      let l := l0 + i
      if s.get (unitKey l O_LINK_STATE) == 1 || (bits / 2 ^ i % 2 == 1 && s.linkUp l) then s.setLink l 4 else s) s

/-- Links that a training step sets out to train. -/
def State.linksTraining (s : State) (l0 n : Nat) : State :=
  (List.range n).foldl
    (fun s i =>
      let l := l0 + i
      let st := s.get (unitKey l O_LINK_STATE)
      if s.get O_LINK_ENABLE / 2 ^ l % 2 == 1 && !(st == 2 || st == 3 || st == 5) then s.setLink l 1 else s) s

/-- The measurements fixed at step 28 (R495): blocks 1 to 5 and 7. -/
def State.sealMeasurements (s : State) : State :=
  let fw := (s.attempts.head?.map (·.firmware)).getD 0
  { s with measured :=
      [(List.range 48).map (Config.imageDigest 0), (List.range 48).map (Config.imageDigest (1 + fw)),
       leBytes 4 (Config.securityVersion fw).toNat, leBytes 1 (s.get O_LC_STATE), leBytes 1 (s.get O_DEBUG_EVER),
       ((s.attempts.head?.map Attempt.image).getD []).take 32] }

/-- What a step that has ended with a result (R484) leaves in the engine. -/
def State.stepEffect (s : State) (k : Nat) (r : StepResult) (result : Nat) : State :=
  match k with
  | 1 => if result == 1 then s else { s with attempts := s.attempts.take 1 }.genUp O_JOURNAL
  | 3 => s.modAttempt fun a => { a with firmware := (Config.firmwareRelease (if result == 3 then 1 else 0)).toNat }
  | 6 => if result == 1 then s else s.retireCores r.unitsFailed
  | 8 => s.startWipe false r.durationUs (r.detail.filter (· < 7680))
  | 18 => s.decideMode
  | 19 => s.startWipe true r.durationUs (r.detail.filter (· < 16384))
  | 20 =>
    if result == 1 then s.scanSlots
    else ([0, 1].foldl (fun s i => s.setCkptSlot i 3 (List.replicate 32 0)) s).setNewest
  | 21 =>
    { s with haModules := (List.range 8).map fun m =>
        if r.unitsFailed / 2 ^ m % 2 == 1 then 0 else r.detail.getD m (if result == 1 then 2 else 0) % 4 }.genUp O_HA_MODULE_STATE
  | 22 =>
    match s.attempts with
    | a :: _ =>
      if a.kind == 0 && result == 1 then
        { s with attempts := a :: ((chunks 288 (r.detail.map (BitVec.ofNat 8))).map parseAttempt).take 3 }.genUp O_JOURNAL
      else s
    | [] => s
  | 23 => s.linksTrained 0 8 r.unitsFailed
  | 24 => s.linksTrained 8 4 r.unitsFailed
  | 28 => s.sealMeasurements
  | 30 => if result == 1 then s else s.put O_SCRUB_ENABLE 0
  | _ =>
    if 9 ≤ k && k ≤ 13 then
      if result == 1 then s
      else
        let t := (r.detail.filter (· < 64)).foldl (fun s t => s.quarantineTile (64 * (k - 9) + t)) s
        if r.altOk then t else t.quarantineRegion (k - 9)
    else if 14 ≤ k && k ≤ 17 then s.setStack (k - 14) r (result == 1 || result == 3)
    else s

/-- Outcomes of R481 that count as a failure under REQUIRED: fewer than 2 cores, fewer than 3 regions, no HBM port. -/
def State.tooFew (s : State) (k : Nat) : Bool :=
  if k == 6 then (s.coreStates.filter (· != 2)).length < 2
  else if 9 ≤ k && k ≤ 13 then s.activeRegions.length < 3
  else k == 18 && s.get O_HBM_PORTS_UP == 0

/-- The result of a step under its policy (R482), before the outcomes of `tooFew`: 1 passed, 2 failed and skipped, 3 and 4
alternate passed and failed, 5 failed under REQUIRED. -/
def stepResult (policy k : Nat) (r : StepResult) : Nat :=
  if !stepFails k r then 1
  else match policy with
    | 0 => 5
    | 1 => 2
    | _ => if altPasses k r then 3 else 4

/-- LC_CHANGED at the end of the start of a life-cycle change (R489). -/
def State.startEnds (s : State) (outcome : Nat) : State :=
  let s := { s with startStep := none }.modAttempt fun a => { a with outcome := outcome }
  if (s.attempts.head?.map (·.kind)) == some 3 then s.raise O_LC_FLAGS 2 else s

/-- A REQUIRED step has failed (R482): the engine quarantines itself. -/
def State.startFails (s : State) : State :=
  ((({ s with startStep := none }.quarantineEngine).raise O_LC_FLAGS 1).put O_START_STATE 2).startEnds 3

/-- Step 31 has passed: the engine is in service, and the island leaves bypass (R329, R482). -/
def State.enterService (s : State) : State :=
  let bad := (s.attempts.head?.map fun a => a.recs.any fun r => r.result == 2 || r.result == 3 || r.result == 4).getD false
  let s := (s.put O_ENGINE_STATE 1).put O_START_STATE 1
  let s := if bad then s.raise O_LC_FLAGS 0 else s
  (s.startEnds (if s.engineState == 2 then 2 else 1)).leaveBypass

/-- A start step ends: its effect, its record, and the next step or the end of the start. -/
def startStep (s : State) (k : Nat) (r : StepResult) : State :=
  let res := stepResult (s.policy.getD k 0) k r
  let s := if res == 5 then s else s.stepEffect k r res
  let res := if s.tooFew k then 5 else res
  let units := if k < 6 || res == 1 then 0 else r.unitsFailed % 2 ^ 16
  let s := s.modAttempt fun a =>
    { a.note ⟨k, res, if res == 1 then 0 else r.code % 256, units, min 0xFFFF (r.durationUs / 16)⟩ with
      totalUs := (a.totalUs + r.durationUs) % 2 ^ 32 }
  let s := if res == 5 then s.startFails
    else if k == 31 then s.enterService
    else
      let s := if k == 22 then s.linksTraining 0 8 else if k == 23 then s.linksTraining 8 4 else s
      { s with startStep := some (k + 1) }.modAttempt fun a => a.note ⟨k + 1, 6, 0, 0, 0⟩
  s.sendJournal

/-- START_STEP (R481): the running step ends. A SCRAPPED die never starts (R487). -/
def execStartStep (r : StepResult) (s : State) : Host.Outcome State Fault Refusal :=
  finish s <|
    match s.startStep with
    | some k => if s.corePg && s.resetN && s.get O_LC_STATE != 4 then startStep s k r else s
    | none => s

end Sys2Proof.Machine
end

