-- ==== Sys2Proof/Machine/Debug.lean ====
section
/-! DEFINITION. Debug access by challenge and response (R490 to R492) and the life-cycle transitions that it carries out
(R487 to R489). -/

namespace Sys2Proof.Machine

open Sys2Proof

/-! ### What a challenge may ask for (R487, R488, R490) -/

/-- Is there a transition from one life-cycle state to another under a key: 0 owner, 1 vendor (R488)? -/
def lcMove (lc target key : Nat) : Bool :=
  match lc, target with
  | 0, 1 => key == 1
  | 1, 2 => key == 0
  | 2, 3 => key == 0
  | 3, 1 => key == 1
  | 0, 4 => key == 1
  | 1, 4 => key == 1
  | 3, 4 => key == 1
  | 2, 4 => key < 2
  | _, _ => false

/-- Are the scopes of a request allowed for its key and the life-cycle state (R487, R490)? -/
def scopeOk (lc key scope target : Nat) : Bool :=
  (scope % 8 == 0 || lc < 3 || (lc == 3 && key == 1))
    && (scope / 4 % 2 == 0 || key == 1)
    && (scope / 8 % 2 == 0 || lcMove lc target key)

/-- The key hash that KEY_SEL names, while it opens anything (R488, R491). -/
def State.keyHash (s : State) (key : Nat) : Option Bytes :=
  if key == 1 then some ((List.range 48).map Config.vendorKeyHash)
  else if s.ownerRetired then none else s.ownerKey

/-- The 48 bytes of a challenge (R490). -/
def challengeBytes (nonce : Bytes) (scope key path lc target : Nat) : Bytes :=
  nonce ++ leBytes 8 Config.dieNumber.toNat ++ leBytes 1 scope ++ leBytes 1 key ++ leBytes 1 path ++ leBytes 1 lc
    ++ leBytes 1 target ++ [0, 0, 0]

/-- 32 fresh random bytes (R490, R494). -/
def State.nonce (s : State) : Bytes := (List.range 32).map fun i => Config.random (32 * s.freeCtr + i)

/-- A write of DEBUG_REQUEST (R490): the scopes are checked, and a fresh challenge replaces the path's last one. -/
def ctlDebugRequest (s : State) (p : Path) (d : Bytes) : Eff :=
  let key := fld d 0 1
  let scope := fld d 1 1 % 16
  let target := if scope / 8 % 2 == 1 then fld d 2 1 else 0
  let lc := s.get O_LC_STATE
  let trans := scope / 8 % 2 == 1
  match firstCode
    [need (!s.debugLocked) 0x11,
     need (key < 2) 0x12,
     need (scopeOk lc key scope target) 0x11,
     need (!(trans && lc == 1 && target == 2 && s.ownerKey.isNone)) 0x12,
     need (!(trans && lc == 3 && target == 1 && s.get O_OWNER_SLOTS_LEFT == 0)) 0x23] with
  | some code => .error code
  | none =>
    let bs := challengeBytes s.nonce scope key (pathNums p).1 lc target
    let rest := s.challenges.filter fun c => c.path != p
    .ok ({ s with challenges := ⟨p, key, scope, target, bs, s.beat⟩ :: rest, debugImage := d }.drawn.genUp O_DEBUG_CHALLENGE)

/-! ### Transitions (R488, R489) -/

/-- Memory, sequencer memories and retained storage wiped, the spare region with them (R486, R489). -/
def State.lcWipe (s : State) : State :=
  let s := s.quarantineEngine.wipeMemory true
  { s with attempts := [], partnerJournal := [], policy := defaultPolicy }

/-- A transition carried out (R489): quarantine, wipe, the fuse, and a start of RESET_KIND 3. -/
def State.lcTransition (s : State) (target : Nat) : State :=
  let lc := s.get O_LC_STATE
  let s := s.lcWipe
  let s := if lc == 3 && target == 1 then
      { s.put O_OWNER_SLOTS_LEFT (s.get O_OWNER_SLOTS_LEFT - 1) with ownerKey := none, ownerRetired := false }
    else if lc == 2 && target == 3 then { s with ownerRetired := true } else s
  (s.put O_LC_STATE target).beginReset 3

/-! ### The response (R491, R492) -/

/-- 60 s in beats of 1.024 µs. -/
def challengeBeats : Nat := 58593750

/-- A challenge dropped. -/
def State.dropChallenge (s : State) (p : Path) : State :=
  { s with challenges := s.challenges.filter fun c => c.path != p }.genUp O_DEBUG_CHALLENGE

/-- A failed response (R491). -/
def State.debugFails (s : State) (p : Path) : State :=
  let s := (s.dropChallenge p).raise O_LC_FLAGS 4
  let s := s.bumpW 8 O_DEBUG_FAILS 1
  if s.get O_DEBUG_FAILS ≥ 4 && !s.debugLocked then { s with debugLocked := true }.raise O_LC_FLAGS 5 else s

/-- Does a response pass (R491)? -/
def State.responsePasses (s : State) (c : DebugChal) (d : Bytes) : Bool :=
  let key := d.take 97
  s.beat ≤ c.beat + challengeBeats && key.head? == some 4 && s.keyHash c.keySel == some (sha384 key)
    && ecdsaVerify key (sha384 c.bytes) (d.drop 97)

/-- A session opened, or widened, on a path; measurement 5 shows its scopes from here on (R492). -/
def State.openSession (s : State) (p : Path) (scopes : Nat) : State :=
  let rest := s.sessions.filter fun d => d.path != p
  let ever := s.get O_DEBUG_EVER ||| scopes
  let s := { s with sessions := ⟨p, s.scopes p ||| scopes, s.beat⟩ :: rest, measured := s.measured.set 4 (leBytes 1 ever) }
  ((s.put O_DEBUG_EVER ever).raise O_LC_FLAGS 3).genUp O_DEBUG_STATE

/-- A write of DEBUG_RESPONSE (R491, R492). One that does not pass is an accepted write with the outcome of R491. -/
def ctlDebugResponse (s : State) (p : Path) (d : Bytes) : Eff :=
  match s.challenges.find? fun c => c.path == p with
  | none => .ok ({ s with debugImage := d }.debugFails p)
  | some c =>
    let vendorIn := c.keySel == 1 && s.get O_LC_STATE == 2
    if !s.responsePasses c d then .ok ({ s with debugImage := d }.debugFails p)
    else if vendorIn && !s.claimed.isEmpty then .error 0x21
    else
      let s := { s with debugImage := d }.dropChallenge p
      let s := if vendorIn then s.wipeMemory true else s
      let s := s.openSession p c.scope
      .ok (if c.scope / 8 % 2 == 1 then s.lcTransition c.target else s)

/-- A session closed (R492). -/
def State.closeSession (s : State) (p : Path) : State :=
  if s.sessions.any fun d => d.path == p then
    { s with sessions := s.sessions.filter fun d => d.path != p }.genUp O_DEBUG_STATE
  else s

/-- DEBUG_CTRL CLOSE (R492). -/
def ctlDebugClose (s : State) (p : Path) : Eff := .ok (s.closeSession p)

/-- A write of DEBUG_CTRL (R508, R536). -/
def ctlDebug (s : State) (p : Path) (v : Nat) : Eff :=
  match v with
  | 1 => ctlDebugClose s p
  | _ => .error 0x12

/-- DEBUG_CHALLENGE_EXPIRY (R491): 60 s have passed since the challenge. -/
def execDebugChallengeExpiry (p : Path) (s : State) : Host.Outcome State Fault Refusal :=
  finish s <|
    match s.challenges.find? fun c => c.path == p with
    | some c => if s.beat > c.beat + challengeBeats then s.dropChallenge p else s
    | none => s

/-- DEBUG_TIMEOUT (R492): DEBUG_TIMEOUT_S has passed since the session was opened, 976,562.5 beats to the second. -/
def execDebugTimeout (p : Path) (s : State) : Host.Outcome State Fault Refusal :=
  finish s <|
    match s.sessions.find? fun d => d.path == p with
    | some d => if 2 * (s.beat - d.beat) ≥ 1953125 * s.get O_DEBUG_TIMEOUT_S then s.closeSession p else s
    | none => s

/-- OWNER_KEY_HASH (R508): the hash is fused. -/
def State.fuseOwnerKey (s : State) (d : Bytes) : State := { s with ownerKey := some d, ownerRetired := false }

end Sys2Proof.Machine
end

