-- ==== Sys2Proof/Machine/Grants.lean ====
section
/-! DEFINITION. Who may reach what in the dictionary (R414 to R417, R431, R432, R436): requests, grants, power states and the
first five checks of R426. -/

namespace Sys2Proof.Machine

open Sys2Proof

/-- A dictionary request (R423). `box` is the mailbox that it came through; `whole` marks a write of the whole value, however many
messages carried it, to which no limit of a message applies. -/
structure DictReq where
  op : Nat
  ver : Nat
  tag : Nat
  index : Nat
  sub : Nat
  final : Bool
  off : Nat
  len : Nat
  data : Bytes
  box : Option Nat
  whole : Bool
deriving DecidableEq, Repr

/-- The key of the object that a request names. -/
def DictReq.key (r : DictReq) : Nat := r.index * 256 + r.sub

/-- What a response carries (R424), the request's fields apart. -/
structure DictRsp where
  status : Nat
  ty : Nat
  access : Nat
  gen : Nat
  len : Nat
  data : Bytes
deriving DecidableEq, Repr

/-! ### Presence and operations (R426, orders 1 and 2) -/

/-- The object at an index and sub, if it is present (R412, R432). -/
def objAt (index sub : Nat) : Option ObjInfo :=
  if index < 65536 && sub < 256 then objInfo (index * 256 + sub) else none

/-- Is an object a flag object (R441)? -/
def ObjInfo.isFlags (i : ObjInfo) : Bool :=
  match i.chk with
  | .flags _ => true
  | _ => false

/-- Is an object an action object (R536)? -/
def ObjInfo.isAction (i : ObjInfo) : Bool :=
  match i.chk with
  | .action _ => true
  | _ => false

/-- Data bytes that one message of a path carries (R419). -/
def pathLimit (p : Path) (ver : Nat) : Nat :=
  match p with
  | .vc0 _ => if ver == 1 then 224 else 1024
  | _ => 1024

/-- Is an operation known in a version, and legal for the object that it names (R425)? -/
def opOk (op ver : Nat) (i : Option ObjInfo) : Bool :=
  (ver == 1 || ver == 2) && 1 ≤ op && (op ≤ 6 || (op ≤ 8 && ver == 2))
    && ((op != 6 && op != 7) || (i.map ObjInfo.isFlags).getD false)

/-! ### Power (R426, order 3; R432) -/

/-- Indices that VAON serves while the core is dark (R432). -/
def darkIndices : List Nat := [0x1000, 0x1100, 0x1200, 0x2520, 0x2A00]

/-- The sequencer serves the dictionary on every path: in service, or once start step 29 has ended (R481). -/
def State.dictUp (s : State) : Bool :=
  s.coreUp || (s.corePg && s.resetN && (match s.startStep with | some k => 30 ≤ k | none => false))

/-- Is an index served on a path in the present power state? -/
def State.servedNow (s : State) (p : Path) (index : Nat) : Bool :=
  s.dictUp || (p == .mctp && darkIndices.contains index)

/-! ### Grants (R416, R417) -/

/-- The grant of a path. -/
def State.grantOf (s : State) (p : Path) : Grant :=
  match p with
  | .mctp => s.mctpGrant
  | .host m => s.hostGrants.getD m ⟨0, 0xFFFF, 0xFFFF⟩
  | .vc0 n => ((s.fabricGrants.find? fun e => e.1 == n).map (·.2)).getD ⟨0, 0xFFFF, 0xFFFF⟩

/-- The level of a path: Vendor while a session with scope DICT is open on it (R417, R490). -/
def State.levelOf (s : State) (p : Path) : Nat := if s.scopes p % 2 == 1 then 3 else (s.grantOf p).level

/-- Does a grant's range hold a context? -/
def Grant.covers (g : Grant) (c : Nat) : Bool := g.first != 0xFFFF && g.first ≤ c && c ≤ g.last

/-- Does a grant's range hold contexts 0 to 1023? -/
def Grant.coversAll (g : Grant) : Bool := g.first == 0 && 1023 ≤ g.last

/-- May a path read an object (R416)? -/
def State.mayRead (s : State) (p : Path) (k : Nat) : Bool :=
  !isCtxObj k || keyBase k == O_CTX_STATE || (s.grantOf p).covers (keyCtx k)

/-- Is a key an object of a pool? -/
def isPoolObj (k : Nat) : Bool := 0x240000 ≤ k && k < 0x250000
/-- The pool of a key. -/
def keyPool (k : Nat) : Nat := k / 256 - 0x2400

/-- Is a key an object of the selected group: 2701h, the selector apart? -/
def isGroupObj (k : Nat) : Bool := k / 256 == 0x2701 && k != O_GROUP_SELECT

/-- Contexts that an APERTURES image changes entries of (R513): each changed entry's own, and that of the entry it
replaces. -/
def State.apertureCtxs (s : State) (bs : Bytes) : List Nat :=
  let old := chunks 16 (padTo 8192 (s.apertures.map Aperture.image).flatten)
  let changed := (old.zip (chunks 16 bs)).filter fun e => e.1 != e.2
  let owner (e : Bytes) : List Nat := if e.all (· == 0) then [] else [fld e 12 2]
  ((changed.map fun e => owner e.1 ++ owner e.2).flatten).eraseDups

/-- The context of a checkpoint slot that holds something. -/
def State.slotCtx (s : State) (slot : Nat) : List Nat :=
  if s.ckptStates.getD slot 0 == 0 then [] else [fld (s.ckptInfo.getD slot []) 4 2]

/-- Contexts that a write of an engine object is about, where it belongs to one or names one (R416, R509, R513). -/
def State.writeCtxs (s : State) (p : Path) (k : Nat) (d : Bytes) : Option (List Nat) :=
  let v := leNat d
  let known (c : Nat) : List Nat := if c == 0xFFFF then [] else [c]
  if isPoolObj k then
    some (known (s.pget (keyPool k) O_OWNER_CONTEXT) ++ (if normKey k == O_OWNER_CONTEXT then known v else []))
  else if isGroupObj k then
    some (known (s.group (s.sel p O_GROUP_SELECT)).owner ++ (if k == O_GROUP_OWNER then known v else []))
  else if k == O_RESTORE_CONTEXT then some (known v)
  else if k == O_RESTORE_CTRL && s.get O_RESTORE_CONTEXT != 0xFFFF then some [s.get O_RESTORE_CONTEXT]
  else if k == O_SLOT_CTRL && 1 ≤ v && v ≤ 4 && !(s.slotCtx ((v + 1) % 2)).isEmpty then some (s.slotCtx ((v + 1) % 2))
  else if k == O_APERTURES then some (s.apertureCtxs d)
  else none

/-- May a path write an object (R414, R416, R431)? -/
def State.mayWrite (s : State) (p : Path) (k : Nat) (access : Nat) (d : Bytes) : Bool :=
  let g := s.grantOf p
  access ≤ s.levelOf p &&
    (if isCtxObj k then g.covers (keyCtx k)
      else match s.writeCtxs p k d with
        | some cs => cs.all g.covers
        | none => access != 2 || k == O_GROUP_SELECT || g.coversAll)

/-! ### The first checks of a request (R426) -/

/-- Does an operation write: WRITE, WRITE_SEG, FLAG_CLEAR? -/
def opWritesObj (op : Nat) : Bool := op == 2 || op == 4 || op == 7

/-- The bytes by which a write's grant is judged: its own; for a segment, which is judged again when it is committed (R430),
those that the object holds. -/
def State.grantData (s : State) (p : Path) (r : DictReq) (i : ObjInfo) : Bytes :=
  if r.op == 4 then s.objBytes p r.key i else r.data

/-- Orders 1 to 5 of R426, for a request that names an object. -/
def State.reachCheck (s : State) (p : Path) (r : DictReq) : Option Nat :=
  match objAt r.index r.sub with
  | none => some 0x10
  | some i =>
    firstCode
      [need (opOk r.op r.ver (some i) && (r.whole || r.data.length ≤ pathLimit p r.ver)) 0x13,
       need (s.servedNow p r.index) 0x16,
       need (if opWritesObj r.op then s.mayWrite p r.key i.access (s.grantData p r i) else s.mayRead p r.key) 0x11,
       need (!opWritesObj r.op || i.wr != .never) 0x15]

/-- Is any sub of an index present (R432)? -/
def indexPresent (index : Nat) : Bool := (objAt index 0).isSome

/-- Orders 1 to 4 of R426 for ENUMERATE, which names an index. -/
def State.enumCheck (s : State) (p : Path) (r : DictReq) : Option Nat :=
  firstCode
    [need (indexPresent r.index) 0x10, need (opOk r.op r.ver none) 0x13, need (s.servedNow p r.index) 0x16,
     need (!isCtxObj (r.index * 256) || (s.grantOf p).covers (keyCtx (r.index * 256))) 0x11]

end Sys2Proof.Machine
end

