-- ==== Sys2Proof/Machine/Writes.lean ====
section
/-! DEFINITION. Writes of the dictionary: lengths (R413, R426 order 6), when an object may be written (R415, order 7), the values
that it admits (order 8) and what an accepted write does, object by object. -/

namespace Sys2Proof.Machine

open Sys2Proof

/-- What a command brings beside the bytes of its write: what the partner reports (R465), and what lies at RESTORE_ADDR
(R505). -/
structure Around where
  info : Option PartnerInfo
  image : Option Bytes
deriving DecidableEq, Repr

/-- A write that brings nothing. -/
def Around.none : Around := ⟨Option.none, Option.none⟩

/-! ### Lengths (R413, R426 order 6) -/

/-- Is `n` a length that a write of a DOMAIN object has? -/
def State.domainLenOk (s : State) (k n : Nat) : Bool :=
  let b := keyBase k
  if isCtxObj k then
    let e := s.experts (keyCtx k)
    if b == O_EXPERT_ENABLE then n == 1024
    else if b == O_EXPERT_MAP then n == 8 * e
    else if b == O_BIAS then n == 4 * e
    else if b == O_LS_PAGES || b == O_HBM_EXTENTS then n % 2 == 0
    else if b == O_REGIONS || b == O_SRC_WINDOWS then n % 32 == 0 && n ≤ 2048
    else n == 64
  else if k == O_HOST_GRANTS then n == 64
  else if k == O_FABRIC_GRANTS then n % 8 == 0 && n ≤ 128
  else if k == O_MCTP_GRANT || k == O_VC_WEIGHT || k == O_DEBUG_REQUEST then n == 8
  else if k == O_START_POLICY then n == 32
  else if k == O_APERTURES then n == 8192
  else if k == O_LINK_GEN_MAX then n == 12
  else if k == O_DEAD_NODES then n == 4096
  else if k == O_GROUP_MEMBERS then n % 2 == 0
  else if k == O_OWNER_KEY_HASH then n == 48
  else if k == O_DEBUG_RESPONSE then n == 193
  else false

/-- Does the length of a write agree with the object's type? -/
def State.lengthOk (s : State) (k : Nat) (i : ObjInfo) (n : Nat) : Bool :=
  if i.ty.len == 0 then s.domainLenOk k n else n == i.ty.len

/-! ### Writable in (R415, R426 order 7) -/

/-- Is a context CONFIGURED or HALTED? -/
def State.openCtx (s : State) (c : Nat) : Bool := s.cstate c == 1 || s.cstate c == 5

/-- The threshold objects of a pool. -/
def thresholdObjs : List Nat := [O_AMBER_PCT, O_RED_PCT, O_BLACK_PCT]

/-- May a configuration object of pool `p` be written (R307)? `k` is its key in pool 0. -/
def State.poolWritable (s : State) (p k v : Nat) : Bool :=
  let o := s.pget p O_OWNER_CONTEXT
  let none := s.pget p O_POOL_STATE == 0
  let named := k != O_OWNER_CONTEXT || 1024 ≤ v || s.openCtx v
  k == O_POOL_CTRL
    || (thresholdObjs.contains k && s.pget p O_POOL_STATE == 2)
    || (none && (if o == 0xFFFF then k == O_OWNER_CONTEXT && named else s.ownerOpen p && named))

/-- A Writable in condition of an object's own (R415). Control objects of contexts, pools and groups test theirs with the
action that is written. -/
def State.condOk (s : State) (p : Path) (k v : Nat) : Bool :=
  if isPoolObj k then s.poolWritable (keyPool k) (normKey k) v
  else if k == O_NODE_ID || k == O_TORUS_X || k == O_TORUS_Y then s.get O_FABRIC_ENABLE == 0
  else if k == O_GROUP_OWNER || k == O_GROUP_MEMBERS then !(s.group (s.sel p O_GROUP_SELECT)).active
  else if k == O_TWIN_ROLE then s.get O_TWIN_STATE == 0 && s.claimed.isEmpty
  else if k == O_TWIN_MODULES || k == O_PARTNER_NODE then s.get O_TWIN_STATE == 0
  else if k == O_OWNER_KEY_HASH then s.get O_LC_STATE == 1 && s.ownerKey.isNone
  else if k == O_SLOT_CTRL || k == O_RESTORE_CTRL then s.get O_CKPT_PHASE == 0
  else true

/-- May an object be written now (R415)? -/
def State.writableNow (s : State) (p : Path) (k : Nat) (i : ObjInfo) (v : Nat) : Bool :=
  match i.wr with
  | .never => false
  | .any => true
  | .states m => m / 2 ^ s.cstate (keyCtx k) % 2 == 1
  | .cond => s.condOk p k v

/-! ### Values (R413, R426 order 8, R536) -/

/-- Is a number a power of two up to 2^16? -/
def isPow2 (v : Nat) : Bool := (List.range 17).any fun i => 2 ^ i == v

/-- The value check that an object's type and table make. -/
def checkValue (i : ObjInfo) (v : Nat) : Option Nat :=
  let ty := match i.ty with
    | .bool => need (v < 2) 0x12
    | .f32 => need (v % 2 ^ 31 ≤ 0x7F800000) 0x12
    | _ => none
  let chk := match i.chk with
    | .range lo hi => need (lo ≤ v && v ≤ hi) 0x12
    | .mult k lo hi => need (lo ≤ v && v ≤ hi && v % k == 0) 0x12
    | .pow2 lo hi => need (lo ≤ v && v ≤ hi && isPow2 v) 0x12
    | .set l code => need (l.contains v) code
    | .fmt l => firstCode [need (!fmtReserved v) 0x12, need (l.contains v) 0x13]
    | .f32 lo hi => need ((lo ≤ v && v ≤ hi) || (lo == 0 && v == 2 ^ 31)) 0x12
    | .f32pos hi => need (1 ≤ v && v ≤ hi) 0x12
    | .action n => need (1 ≤ v && v ≤ n) 0x12
    | _ => none
  firstCode [ty, chk]

/-- The value that is kept: reserved bits read 0 (R7). -/
def keptValue (i : ObjInfo) (v : Nat) : Nat :=
  match i.chk with
  | .mask m => v &&& m
  | _ => v

/-! ### Context objects with a behaviour of their own -/

/-- EXPERT_COUNT (R77, R94, R95): map and biases become entries of 0, and MAP_VERSION advances. -/
def State.setExperts (s : State) (c n : Nat) : State :=
  let s := (s.cput c O_EXPERT_COUNT n).modCtx c fun x => { x with map := List.replicate n 0, bias := List.replicate n 0 }
  let s := s.cput c O_MAP_VERSION ((s.cget c O_MAP_VERSION + 1) % 2 ^ 32)
  (s.genUp (ctxKey c O_EXPERT_MAP)).genUp (ctxKey c O_BIAS)

/-- Every part of every entry unwritten, both slots EMPTY. -/
def State.emptyWeights (s : State) (c : Nat) : State :=
  let router (m : SlotMark) : Bool := (parseSlotEntry (s.slotEntry c m.pos)).expert == 0xFFFF
  let s := s.modCtx c fun x =>
    { x with slotMarks := x.slotMarks.map fun m => { m with guDone := false, downDone := router m } }
  (s.setSlot c 0 0).setSlot c 1 0

/-- HIDDEN_WIDTH or INNER_WIDTH (R96). -/
def State.setWidth (s : State) (c k v : Nat) : State := (s.cput c k v).emptyWeights c

/-- What R90 and R92 refuse of a configuration of the caramel loop. -/
def State.caramelCheck (s : State) (c : Nat) : Option Nat :=
  let run := s.cget c O_CARAMEL_MODE == 1
  let fabric := s.cget c O_SCOPE == 1
  let g := s.group (s.cget c O_CARAMEL_GROUP)
  firstCode
    [need (!(run && fabric) || (g.active && g.owner == c && g.nodes.contains (s.nodeOf c))) 0x12,
     need (!(run && fabric) || s.cget c O_BIND_COLLECTIVE != 0xFFFF) 0xC7,
     need (!(run && !fabric && s.det c == 2)) 0x12]

/-- CARAMEL_MODE, SCOPE or CARAMEL_GROUP (R90, R92). A mode takes effect at the next STEP_MARK. -/
def State.writeCaramel (s : State) (c k v : Nat) : Eff :=
  let t := s.cput c k v
  match t.caramelCheck c with
  | some code => .error code
  | none => .ok (if k == O_CARAMEL_MODE then t.modCtx c fun x => { x with caramelReq := some v } else t)

/-- Contexts at D2 (R25). -/
def State.d2Count (s : State) : Nat := (s.claimed.filter fun c => s.det c == 2).length

/-- DET_LEVEL (R24, R25, R92, R144). -/
def State.writeDet (s : State) (c v : Nat) : Eff :=
  let t := s.cput c O_DET_LEVEL v
  if v != 2 || s.det c == 2 then .ok t
  else match firstCode
      [need (s.cget c O_RESERVE_CHECK == 1) 0x12, need (!(t.cget c O_CARAMEL_MODE == 1 && t.cget c O_SCOPE == 0)) 0x12, need (s.d2Count < 64) 0x23] with
    | some code => .error code
    | none => .ok t

/-- RESERVE_CHECK (R144). -/
def State.writeReserveCheck (s : State) (c v : Nat) : Eff :=
  if v == 0 && s.det c == 2 then .error 0x12 else .ok (s.cput c O_RESERVE_CHECK v)

/-- DESC_AREA, STAGE_REGION, SLOT_TABLE_AREA, GROUP_AREA (R293, R308, R374, R382, R383). A new descriptor area leaves every
handle empty, a new slot table every slot. -/
def State.writeArea (s : State) (c k v : Nat) : Eff :=
  match s.areaCheck c k v with
  | some code => .error code
  | none =>
    let s := s.cput c k v
    .ok (if k == O_DESC_AREA then s.modCtx c fun x => { x with handles := [] }
      else if k == O_SLOT_TABLE_AREA then ((s.modCtx c fun x => { x with slotMarks := [] }).setSlot c 0 0).setSlot c 1 0
      else s)

/-- RING_BASE or RING_ENTRIES (R385). -/
def State.writeRing (s : State) (c k v : Nat) : Eff :=
  let base := if k == O_RING_BASE then v else s.cget c O_RING_BASE
  let n := if k == O_RING_ENTRIES then v else s.cget c O_RING_ENTRIES
  match s.ringCheck c base n with
  | some code => .error code
  | none => .ok ((s.cput c k v).syncRing c)

/-- A role binding (R289). -/
def State.writeBind (s : State) (c k v : Nat) : Eff :=
  if v == 0xFFFF || s.bindOk c v then .ok (s.cput c k v) else .error 0xC4

/-- EXPERT_ENABLE (R95). -/
def State.writeEnable (s : State) (c : Nat) (d : Bytes) : State := s.modCtx c fun x => { x with enable := leNat d }

/-- A map entry without its reserved bits (R7, R77). -/
def mapEntry (v : Nat) : Nat :=
  mapRack v * 2 ^ 55 + v / 2 ^ 48 % 4 * 2 ^ 48
    + ((List.range 4).map fun i => (mapField v i / 128 * 128 + mapField v i % 64) * 2 ^ (8 * i)).foldl (· + ·) 0

/-- The fields of a map entry (R77): no LIVE bit above REPLICAS_M1, HOME_RACK within the torus. -/
def State.mapEntryOk (s : State) (v : Nat) : Bool :=
  mapRack v < s.get O_TORUS_X * s.get O_TORUS_Y
    && (List.range 4).all fun i => i < mapReps v || mapField v i / 128 == 0

/-- Is RESERVE committed for a context: ARMED, RUNNING, DRAINING, HALTED (R143)? -/
def State.committed (s : State) (c : Nat) : Bool :=
  s.cget c O_RESERVE_CHECK == 1 && 2 ≤ s.cstate c && s.cstate c ≤ 5

/-- The checks of an expert-map write after its length, in the order of R77. While the context is CONFIGURED no slot is ACTIVE
(R408), and ARM makes the check of R366. -/
def State.mapCheck (s : State) (c : Nat) (map : List Nat) : Option Nat :=
  let p := s.poolFor c 2
  let others := s.pget p O_COMMITTED - s.cget c O_RESERVE
  firstCode
    [need (map.all s.mapEntryOk) 0x12,
     need (s.cstate c == 1 || s.slotComplete c (s.activeSlot c) map) 0x47,
     need (!s.committed c || others + s.reserveFor c map ≤ s.poolBytes p) 0x23]

/-- EXPERT_MAP (R77, R143, R366). -/
def State.writeMap (s : State) (c : Nat) (d : Bytes) : Eff :=
  let map := ((chunks 8 d).map leNat).map mapEntry
  match s.mapCheck c map with
  | some code => .error code
  | none =>
    let r := s.reserveFor c map
    let p := s.poolFor c 2
    let s := if s.committed c then s.pput p O_COMMITTED (s.pget p O_COMMITTED - s.cget c O_RESERVE + r) else s
    let s := if s.cstate c == 1 then s else s.cput c O_RESERVE r
    .ok ((s.modCtx c fun x => { x with map := map }).cput c O_MAP_VERSION ((s.cget c O_MAP_VERSION + 1) % 2 ^ 32))

/-- BIAS (R94). -/
def State.writeBias (s : State) (c : Nat) (d : Bytes) : Eff :=
  let l := biasOf d
  if l.all fun v => v.natAbs ≤ s.cget c O_BIAS_CLAMP then .ok (s.modCtx c fun x => { x with bias := l }) else .error 0x12

/-- LS_PAGES or HBM_EXTENTS (R280). -/
def State.writeUnits (s : State) (c : Nat) (hbm : Bool) (d : Bytes) : Eff :=
  match s.unitsCheck c hbm (u16List d) with
  | some code => .error code
  | none => .ok (s.setUnits c hbm (u16List d))

/-- REGIONS (R281). -/
def State.writeRegions (s : State) (c : Nat) (d : Bytes) : Eff :=
  match s.regionsCheck c (parseRegions d) with
  | some code => .error code
  | none => .ok (s.modCtx c fun x => { x with regions := parseRegions d })

/-- SRC_WINDOWS (R340). -/
def State.writeWindows (s : State) (c : Nat) (d : Bytes) : Eff :=
  match s.windowsCheck d with
  | some code => .error code
  | none => .ok (s.modCtx c fun x => { x with srcWindows := parseWindows d })

/-- DESC_WRITE (R292). -/
def State.writeDesc (s : State) (c : Nat) (d : Bytes) : Eff :=
  match s.descCheck c d with
  | some code => .error code
  | none => .ok (s.storeDesc c d)

/-- SLOT_ENTRY_WRITE (R366). -/
def State.writeSlotEntry (s : State) (c : Nat) (d : Bytes) : Eff :=
  match s.slotEntryCheck c d with
  | some code => .error code
  | none => .ok (s.storeSlotEntry c d)

/-- A write of an object of context `c` that has passed the checks of its type and table: `k` is its key in context 0, `v` the
value to be kept. -/
def State.writeCtxObj (s : State) (c k v : Nat) (d : Bytes) (i : ObjInfo) : Eff :=
  if i.isFlags then .ok (s.clearBits (ctxKey c k) v)
  else if k == O_CTX_CTRL then ctlCtx s c v
  else if k == O_RING_CTRL then ctlRing s c v
  else if k == O_EXPERT_COUNT then .ok (s.setExperts c v)
  else if k == O_HIDDEN_WIDTH || k == O_INNER_WIDTH then .ok (s.setWidth c k v)
  else if k == O_RESERVE_CHECK then s.writeReserveCheck c v
  else if k == O_CARAMEL_MODE || k == O_SCOPE || k == O_CARAMEL_GROUP then s.writeCaramel c k v
  else if k == O_DET_LEVEL then s.writeDet c v
  else if areaObjs.contains k then s.writeArea c k v
  else if k == O_RING_BASE || k == O_RING_ENTRIES then s.writeRing c k v
  else if O_BIND_INPUT ≤ k && k ≤ O_BIND_COLLECTIVE then s.writeBind c k v
  else if k == O_EXPERT_ENABLE then .ok (s.writeEnable c d)
  else if k == O_EXPERT_MAP then s.writeMap c d
  else if k == O_BIAS then s.writeBias c d
  else if k == O_LS_PAGES then s.writeUnits c false d
  else if k == O_HBM_EXTENTS then s.writeUnits c true d
  else if k == O_REGIONS then s.writeRegions c d
  else if k == O_SRC_WINDOWS then s.writeWindows c d
  else if k == O_DESC_WRITE then s.writeDesc c d
  else if k == O_SLOT_ENTRY_WRITE then s.writeSlotEntry c d
  else .ok (s.cput c k v)

/-! ### Pools and groups -/

/-- The thresholds of a pool (R288); a new one applies at once. -/
def State.writeThreshold (s : State) (p k v : Nat) : Eff :=
  let s := s.pput p k v
  let b := s.pget p O_BLACK_PCT
  let r := s.pget p O_RED_PCT
  let a := s.pget p O_AMBER_PCT
  if 1 ≤ b && b < r && r < a && a ≤ 90 then .ok (if s.pget p O_POOL_STATE == 2 then s.relevel p else s) else .error 0x12

/-- A write of POOL_CTRL (R290, R536). -/
def ctlPool (s : State) (p v : Nat) : Eff :=
  match v with
  | 1 => ctlPoolCreate s p
  | 2 => ctlPoolDelete s p
  | _ => .error 0x12

/-- A write of an object of pool `p`: `k` is its key in pool 0. -/
def State.writePoolObj (s : State) (p k v : Nat) : Eff :=
  if k == O_POOL_CTRL then ctlPool s p v
  else if thresholdObjs.contains k then s.writeThreshold p k v
  else if k == O_OWNER_CONTEXT && !(v < 1024 || v == 0xFFFF) then .error 0x12
  else .ok (s.pput p k v)

/-- The bytes of the member lists of a context's ACTIVE groups. -/
def State.listBytes (s : State) (c : Nat) : Nat :=
  ((s.groups.filter fun e => e.2.active && e.2.owner == c).map fun e => e.2.members.length).foldl (· + ·) 0

/-- The bytes that GROUP_AREA of a context offers for member lists (R351). -/
def State.listRoom (s : State) (c : Nat) : Nat :=
  ((((s.ctx c).regions)[s.cget c O_GROUP_AREA]?).map (·.len)).getD 0

/-- GROUP_CTRL CREATE (R351, R352). -/
def ctlGroupCreate (s : State) (g : Nat) : Eff :=
  let k := s.group g
  let ns := k.nodes
  if !(k.owner < 1024 && s.openCtx k.owner) || k.active then .error 0x21
  else if !(1 ≤ ns.length && ns.length ≤ 32768 && ns.all (· < 2 ^ 15) && ns.eraseDups.length == ns.length
      && ns.contains (s.nodeOf k.owner)) then .error 0x12
  else if s.listBytes k.owner + k.members.length > s.listRoom k.owner then .error 0x23
  else .ok (s.modGroup g fun k => { k with active := true, seq := 0 })

/-- Is a group in use: a collective of it in progress, or named by a context that is not FREE (R352)? -/
def State.groupUsed (s : State) (g : Nat) : Bool :=
  s.claimed.any fun c =>
    s.cget c O_EXCHANGE_GROUP == g || s.cget c O_CARAMEL_GROUP == g || (s.ctx c).coll.any fun k => k.group == g

/-- GROUP_CTRL DELETE (R352). -/
def ctlGroupDelete (s : State) (g : Nat) : Eff :=
  let k := s.group g
  if !(k.owner < 1024 && s.openCtx k.owner) || !k.active || s.groupUsed g then .error 0x21
  else .ok (s.modGroup g fun k => { k with active := false, seq := 0 })

/-- A write of GROUP_CTRL (R380, R536). -/
def ctlGroup (s : State) (g v : Nat) : Eff :=
  match v with
  | 1 => ctlGroupCreate s g
  | 2 => ctlGroupDelete s g
  | _ => .error 0x12

/-- A write of an object of the selected group (R380). -/
def State.writeGroupObj (s : State) (g k v : Nat) (d : Bytes) : Eff :=
  if k == O_GROUP_CTRL then ctlGroup s g v
  else if k == O_GROUP_OWNER then .ok (s.modGroup g fun e => { e with owner := v })
  else .ok (s.modGroup g fun e => { e with members := d })

/-! ### Grants and apertures (R436, R513) -/

/-- Does a grant have a level of 0 to 2 and a range that runs upward? -/
def Grant.ok (g : Grant) : Bool := g.level < 3 && g.first ≤ g.last

/-- A grant from the bytes of a HOST_GRANTS entry. -/
def parseGrant (e : Bytes) : Grant := ⟨fld e 0 1, fld e 2 2, fld e 4 2⟩

/-- HOST_GRANTS. -/
def State.writeHostGrants (s : State) (d : Bytes) : Eff :=
  let l := (chunks 8 d).map parseGrant
  if l.all Grant.ok then .ok { s with hostGrants := l } else .error 0x12

/-- FABRIC_GRANTS. -/
def State.writeFabricGrants (s : State) (d : Bytes) : Eff :=
  let l := (chunks 8 d).map fun e => (fld e 0 2, (⟨fld e 2 1, fld e 4 2, fld e 6 2⟩ : Grant))
  if l.all fun e => e.2.ok then .ok { s with fabricGrants := l } else .error 0x12

/-- Does a grant hold every context that another holds? -/
def Grant.within (g h : Grant) : Bool :=
  g.first > 1023 || (h.first != 0xFFFF && h.first ≤ g.first && min g.last 1023 ≤ h.last)

/-- MCTP_GRANT (R436): over MCTP, not raised again once it has been lowered. -/
def State.writeMctpGrant (s : State) (p : Path) (d : Bytes) : Eff :=
  let g := parseGrant d
  let old := s.mctpGrant
  if !g.ok then .error 0x12
  else if p == .mctp && s.mctpLowered && (g.level > old.level || !g.within old) then .error 0x11
  else .ok { s with mctpGrant := g, mctpLowered := s.mctpLowered || g.level < old.level || !old.within g }

/-- An aperture entry (R513). -/
def parseAperture (e : Bytes) : Aperture := ⟨fld e 0 8, fld e 8 4, fld e 12 2, fld e 14 1⟩

/-- May an aperture entry be written (R513)? One of zeros is unused. -/
def apertureOk (e : Bytes) : Bool :=
  let a := parseAperture e
  e.all (· == 0)
    || (a.flags < 8 && fld e 15 1 == 0 && a.base % 4096 == 0 && addrSpace a.base < 2 && 1 ≤ a.pages && a.pages ≤ 1048576
      && a.ctx < 1024)

/-- APERTURES (R513). -/
def State.writeApertures (s : State) (d : Bytes) : Eff :=
  if (chunks 16 d).all apertureOk then .ok { s with apertures := (chunks 16 d).map parseAperture } else .error 0x12

/-! ### Other engine objects with a behaviour of their own -/

/-- START_POLICY (R483): each step REQUIRED, or its default. -/
def State.writePolicy (s : State) (d : Bytes) : Eff :=
  let l := d.map (·.toNat)
  if (l.zip defaultPolicy).all fun e => e.1 == 0 || e.1 == e.2 then .ok { s with policy := l } else .error 0x12

/-- UNIT_SELECT (R475). -/
def State.writeUnitSelect (s : State) (p : Path) (v : Nat) : Eff :=
  if v < 320 || (0x400 ≤ v && v ≤ 0x404) then .ok (s.setSel p O_UNIT_SELECT v) else .error 0x12

/-- BEAT_ROLE (R241, R249): a new originating engine goes on from its own count. -/
def State.writeBeatRole (s : State) (v : Nat) : State :=
  let s := s.put O_BEAT_ROLE v
  if v == 1 then { s.put O_BEAT_STATE 1 with jumpBy := 0 } else s

/-- NODE_ID, TORUS_X or TORUS_Y (R318). -/
def State.writeNode (s : State) (k v : Nat) : Eff :=
  let t := s.put k v
  if k == O_NODE_ID then (if v < 2 ^ 15 || v == 0xFFFF then .ok t else .error 0x12)
  else if t.get O_TORUS_X * t.get O_TORUS_Y ≤ 512 then .ok t else .error 0x12

/-- FABRIC_ENABLE (R318). -/
def State.writeFabricEnable (s : State) (v : Nat) : Eff :=
  if v == 1 && (s.node == 0xFFFF || rackOf s.node ≥ s.get O_TORUS_X * s.get O_TORUS_Y) then .error 0x12
  else .ok (s.put O_FABRIC_ENABLE v)

/-- One link enabled or disabled (R345, R346): a disabled spine link is announced as down, an enabled link trains. -/
def State.switchLink (s : State) (l : Nat) (on : Bool) : State :=
  let st := s.get (unitKey l O_LINK_STATE)
  if on then (if st == 0 && s.coreUp then s.setLink l 1 else s)
  else if st == 0 then s
  else
    let up := s.linkUp l
    let s := (s.setLink l 0).modLink l fun k => { k with replay := [], discarding := false }
    if l ≥ 8 && up then (s.announce fun n => .spineDown s.node (l - 8) n).noteAnnouncement (.spineDown s.node (l - 8) 0) else s

/-- LINK_ENABLE (R345). -/
def State.writeLinkEnable (s : State) (v : Nat) : State :=
  (List.range 12).foldl (fun s l => s.switchLink l (v / 2 ^ l % 2 == 1)) (s.put O_LINK_ENABLE v)

/-- LINK_GEN_MAX (R345). -/
def State.writeGenMax (s : State) (d : Bytes) : Eff :=
  let l := d.map (·.toNat)
  if l.all fun v => 1 ≤ v && v ≤ 3 then .ok { s with linkGenMax := l } else .error 0x12

/-- VC_WEIGHT (R345). -/
def State.writeVcWeight (s : State) (d : Bytes) : Eff :=
  let l := d.map (·.toNat)
  if (l.drop 2).all fun v => 1 ≤ v && v ≤ 15 then .ok { s with vcWeight := l } else .error 0x12

/-- BYPASS_HOLD (R325, R347). -/
def State.writeBypassHold (s : State) (v : Nat) : State :=
  let s := s.put O_BYPASS_HOLD v
  if v == 1 then s.enterBypass else s.leaveBypass

/-- DEAD_NODES (R342, R348): nodes newly held dead, and nodes that no longer are. -/
def State.writeDeadNodes (s : State) (d : Bytes) : State :=
  let v := leNat d
  let new := (List.range 32768).filter fun n => v / 2 ^ n % 2 == 1
  let dying := new.filter fun n => !s.nodeDead n
  let s := { s with deadNodes := s.deadNodes.filter new.contains }
  let s := dying.foldl State.nodeDies s
  s.claimed.foldl State.pump s

/-- TWIN_MODULES (R476): exactly two modules. -/
def State.writeTwinModules (s : State) (v : Nat) : Eff :=
  if ((List.range 8).filter fun m => v / 2 ^ m % 2 == 1).length == 2 then .ok (s.put O_TWIN_MODULES v) else .error 0x12

/-- A write of TWIN_CTRL (R465, R473, R536). -/
def ctlTwin (s : State) (v : Nat) (r : Around) : Eff :=
  match v with
  | 1 => ctlPair s (r.info.getD s.noInfo)
  | 2 => ctlUnpair s (r.info.getD s.noInfo)
  | 3 => ctlHandback s
  | _ => .error 0x12

/-- ENGINE_QUARANTINE (R454). -/
def ctlEngineQuarantine (s : State) : Eff := .ok s.quarantineEngine

/-- LATCH_CTRL (R439). -/
def ctlLatch (s : State) : Eff := .ok { s with latchDue := true }

/-- What a restore finds at RESTORE_ADDR when the command brings no image: what lies there in this engine's own memory, and
elsewhere nothing. -/
def State.restoreSource (s : State) : Bytes :=
  let a := s.get O_RESTORE_ADDR
  if s.get O_RESTORE_FROM != 2 || s.get O_RESTORE_HOSTMAP == 1 || addrNode a != s.node || addrSpace a ≥ 2 then []
  else match readManifest fun off n => s.rd (a + off) n with
    | some m => s.rd a ((m.2.map fun e => e.place + e.length).foldl max 65536)
    | none => []

/-- A write of RESTORE_CTRL (R509, R536). -/
def ctlRestoreWrite (s : State) (v : Nat) (r : Around) : Eff :=
  match v with
  | 1 => ctlRestore s (r.image.getD s.restoreSource)
  | _ => .error 0x12

/-- A write of an engine object that has passed the checks of its type and table; `v` is the value to be kept. -/
def State.writeEngObj (s : State) (p : Path) (k v : Nat) (d : Bytes) (i : ObjInfo) (r : Around) : Eff :=
  if i.isFlags then .ok (s.clearBits k v)
  else if k == O_HOST_GRANTS then s.writeHostGrants d
  else if k == O_FABRIC_GRANTS then s.writeFabricGrants d
  else if k == O_MCTP_GRANT then s.writeMctpGrant p d
  else if k == O_START_POLICY then s.writePolicy d
  else if k == O_APERTURES then s.writeApertures d
  else if k == O_BEAT_ROLE then .ok (s.writeBeatRole v)
  else if k == O_UNIT_SELECT then s.writeUnitSelect p v
  else if k == O_UNIT_CTRL then ctlUnit s (s.sel p O_UNIT_SELECT) v
  else if k == O_GROUP_SELECT then .ok (s.setSel p k v)
  else if isGroupObj k then s.writeGroupObj (s.sel p O_GROUP_SELECT) k v d
  else if k == O_NODE_ID || k == O_TORUS_X || k == O_TORUS_Y then s.writeNode k v
  else if k == O_FABRIC_ENABLE then s.writeFabricEnable v
  else if k == O_LINK_ENABLE then .ok (s.writeLinkEnable v)
  else if k == O_LINK_GEN_MAX then s.writeGenMax d
  else if k == O_VC_WEIGHT then s.writeVcWeight d
  else if k == O_BYPASS_HOLD then .ok (s.writeBypassHold v)
  else if k == O_DEAD_NODES then .ok (s.writeDeadNodes d)
  else if k == O_TWIN_MODULES then s.writeTwinModules v
  else if k == O_TWIN_CTRL then ctlTwin s v r
  else if k == O_ENGINE_QUARANTINE then ctlEngineQuarantine s
  else if k == O_OWNER_KEY_HASH then .ok (s.fuseOwnerKey d)
  else if k == O_DEBUG_REQUEST then ctlDebugRequest s p d
  else if k == O_DEBUG_RESPONSE then ctlDebugResponse s p d
  else if k == O_DEBUG_CTRL then ctlDebug s p v
  else if k == O_RESET_CTRL then ctlReset s v
  else if k == O_SLOT_CTRL then ctlSlot s v
  else if k == O_RESTORE_CTRL then ctlRestoreWrite s v r
  else if k == O_LATCH_CTRL then ctlLatch s
  else .ok (s.put k v)

/-! ### A whole write -/

/-- The checks of R426 that stand between READ_ONLY and the object's own: length, the values of an action object (R536),
Writable in, and the value as its type and table have it. -/
def State.writeCheck (s : State) (p : Path) (k : Nat) (i : ObjInfo) (d : Bytes) : Option Nat :=
  let v := leNat d
  let scalar := i.ty.len != 0
  firstCode
    [need (s.lengthOk k i d.length) 0x14,
     if i.isAction then checkValue i v else none,
     need (s.writableNow p k i v) 0x21,
     if scalar then checkValue i v else none]

/-- A write that has come as far as order 6 of R426: its outcome. -/
def State.writeObj (s : State) (p : Path) (k : Nat) (i : ObjInfo) (d : Bytes) (r : Around) : Eff :=
  match s.writeCheck p k i d with
  | some code => .error code
  | none =>
    let v := keptValue i (leNat d)
    let e := if isCtxObj k then s.writeCtxObj (keyCtx k) (keyBase k) v d i
      else if isPoolObj k then s.writePoolObj (keyPool k) (normKey k) v
      else s.writeEngObj p k v d i r
    match e with
    | .error code => .error code
    | .ok t => .ok (if i.ty.len == 0 then t.genUp k else t)

end Sys2Proof.Machine
end

