-- ==== Sys2Proof/Machine/Dict.lean ====
section
/-! DEFINITION. The service of dictionary requests (R422 to R431): what each operation answers, what it counts, segmented
writes, and the wait of a configuration write for the twin (R467). -/

namespace Sys2Proof.Machine

open Sys2Proof

/-! ### Responses (R424) -/

/-- The response to a request for an object: TYPE, ACCESS and GENERATION as the object has them, 0 where it is absent. -/
def State.rspOf (s : State) (r : DictReq) (i : Option ObjInfo) (status len : Nat) (data : Bytes) : DictRsp :=
  match i with
  | none => ⟨status, 0, 0, 0, len, data⟩
  | some i => ⟨status, i.ty.code, i.access, if i.ty.len == 0 then tblGet 0 s.gens r.key else 0, len, data⟩

/-- A response as bytes (R424). -/
def DictRsp.bytes (v : DictRsp) (r : DictReq) : Bytes :=
  leBytes 1 (r.op % 128 + 128) ++ leBytes 1 r.ver ++ leBytes 2 r.tag ++ leBytes 1 v.status ++ leBytes 1 v.ty
    ++ leBytes 1 v.access ++ leBytes 1 0 ++ leBytes 4 v.gen ++ leBytes 4 v.len ++ v.data

/-- A response on its way: into the mailbox that the request came through, or on its path. -/
def DictRsp.emitOf (v : DictRsp) (p : Path) (r : DictReq) : Emit :=
  match r.box with
  | some b => .mailbox b (v.bytes r)
  | none => .dict p (r.op % 128 + 128) r.ver v.status v.ty v.access v.gen v.len v.data

/-- A response sent, or held with the last mirror record until the partner acknowledges that (R467). -/
def State.sendRsp (s : State) (held : Bool) (e : Emit) : State :=
  match held, s.unacked.getLast? with
  | true, some u =>
    { s with unacked := s.unacked.dropLast ++ [{ u with hold := u.hold ++ [e] }] }
  | _, _ => s.handOut e

/-! ### What a request counts (R436, R440, R442) -/

/-- The core that serves an object (R428). -/
def State.dictCore (s : State) (index : Nat) : Nat :=
  s.coreOf (if isCtxObj (index * 256) then keyCtx (index * 256) else 0)

/-- ACCESS_DENIED: its flag, and the request in LAST_DENIED (R436). -/
def State.noteDenied (s : State) (p : Path) (op index sub : Nat) : State :=
  let n := pathNums p
  let s : State :=
    { s with
      lastDenied := leBytes 1 n.1 ++ leBytes 1 n.2.1 ++ leBytes 2 n.2.2 ++ leBytes 2 index ++ leBytes 1 sub ++ leBytes 1 op
        ++ leBytes 8 s.beat }
  (s.raise O_DICT_FLAGS 0).genUp O_LAST_DENIED

/-- Flags that a refused write raises: SLOT_UNAVAILABLE and SLOT_SEQ_PASSED of a context's object (R384); TWIN_NOT_OWNER
and TWIN_REFUSED (R465, R466, R476); and the count of refused descriptors (R309). -/
def State.writeFlags (s : State) (k code : Nat) : State :=
  let s := if isCtxObj k && code == 0x47 then s.craise (keyCtx k) O_WEIGHT_FLAGS 2 else s
  let s := if isCtxObj k && code == 0x48 then s.craise (keyCtx k) O_WEIGHT_FLAGS 3 else s
  let s := if code == 0xFC then s.raiseLog O_TWIN_FLAGS 4 0xFC 0 8 0 0xFFFF (s.get O_PARTNER_NODE) else s
  let s := if code == 0xFD then s.raiseLog O_TWIN_FLAGS 5 0xFD 0 8 0 0xFFFF (s.get O_PARTNER_NODE) else s
  if isCtxObj k && keyBase k == O_DESC_WRITE && [0x12, 0x13, 0xC5].contains code then s.cbump (keyCtx k) O_DESC_REFUSED 1 else s

/-- The counters of an answered request: all, refused, of the core that served it, of the module that it came through. -/
def State.countRsp (s : State) (p : Path) (r : DictReq) (status : Nat) (served : Bool) : State :=
  let s := s.bump O_DICT_REQUESTS 1
  let s := if status == 0 then s else s.bump O_DICT_REFUSED 1
  let s := if served then s.bump (unitKey (s.dictCore r.index) O_CORE_DICT_SERVED) 1 else s
  match p with
  | .host m => s.bump (unitKey m O_HA_MAILBOX_REQUESTS) 1
  | _ => s

/-- A request answered: counted, with ACCESS_DENIED noted, and its response sent or held. `served`: did a core serve it? -/
def State.answer (s : State) (p : Path) (r : DictReq) (v : DictRsp) (served held : Bool) : State :=
  let s := s.countRsp p r v.status served
  let s := if v.status == 0x11 then s.noteDenied p r.op r.index r.sub else s
  (s.sendRsp held (v.emitOf p r)).drawn

/-- A request refused: no side effect but the counters and flags of the refusal (R426). -/
def State.refuseReq (s : State) (p : Path) (r : DictReq) (code : Nat) : State :=
  s.answer p r (s.rspOf r (objAt r.index r.sub) code 0 []) s.dictUp false

/-! ### The mirror of a configuration write (R467) -/

/-- The contexts whose record a write of an object changes. -/
def State.mirrorCtxs (s t : State) (p : Path) (k : Nat) (i : ObjInfo) : List Nat :=
  let own (a b : Nat) : List Nat := ([a, b].filter fun c => c < 1024).eraseDups
  if isCtxObj k then (if i.isFlags || i.isAction then [] else [keyCtx k])
  else if isPoolObj k then own (s.pget (keyPool k) O_OWNER_CONTEXT) (t.pget (keyPool k) O_OWNER_CONTEXT)
  else if isGroupObj k then
    own (s.group (s.sel p O_GROUP_SELECT)).owner (t.group (s.sel p O_GROUP_SELECT)).owner
  else []

/-- Values of a record that have changed; those no longer in it go to their defaults. -/
def valsDiff (old new : List (Nat × Nat)) : List (Nat × Nat) :=
  (new.filter fun e => !old.contains e)
    ++ ((old.filter fun e => !new.any fun (f : Nat × Nat) => f.1 == e.1).map fun e => (e.1, objDefault e.1))

/-- Images of a record that have changed; those no longer in it become empty. -/
def imagesDiff (old new : List (Nat × Bytes)) : List (Nat × Bytes) :=
  (new.filter fun e => !old.contains e)
    ++ ((old.filter fun e => !new.any fun (f : Nat × Bytes) => f.1 == e.1).map fun e => (e.1, []))

/-- Does this engine mirror now: PAIRED, or PAIRING with the first mirror under way? -/
def State.mirrors (s : State) : Bool := s.paired || s.get O_TWIN_STATE == 1

/-- An accepted write mirrored for each context that it changes. -/
def State.mirrorWrite (s t : State) (p : Path) (k : Nat) (i : ObjInfo) : State :=
  (s.mirrorCtxs t p k i).foldl
    (fun u c => u.mirrorAll .config c (valsDiff (s.recordVals c) (t.recordVals c)) []
      (imagesDiff (s.recordImages c) (t.recordImages c)) none) t

/-- Does the response of a write wait for the partner? -/
def State.writeHeld (s t : State) (p : Path) (k : Nat) (i : ObjInfo) : Bool :=
  t.mirrors && !(s.mirrorCtxs t p k i).isEmpty

/-- A write accepted, from `s` to `t`: mirrored, and answered with the bytes accepted. -/
def State.wrote (s t : State) (p : Path) (r : DictReq) (i : ObjInfo) : State :=
  let held := s.writeHeld t p r.key i
  let t := if held then s.mirrorWrite t p r.key i else t
  t.answer p r (t.rspOf r (some i) 0 r.data.length []) s.dictUp held

/-! ### The operations (R425) -/

/-- READ. -/
def State.serveRead (s : State) (p : Path) (r : DictReq) (i : ObjInfo) : State :=
  let bs := s.objBytes p r.key i
  s.answer p r (s.rspOf r (some i) 0 bs.length (bs.take (pathLimit p r.ver))) s.dictUp false

/-- READ_SEG: LENGTH bytes from OFFSET, as many as the object and one message hold. -/
def State.serveReadSeg (s : State) (p : Path) (r : DictReq) (i : ObjInfo) : State :=
  let bs := s.objBytes p r.key i
  s.answer p r (s.rspOf r (some i) 0 bs.length ((bs.drop r.off).take (min r.len (pathLimit p r.ver)))) s.dictUp false

/-- WRITE. -/
def State.serveWrite (s : State) (p : Path) (r : DictReq) (i : ObjInfo) (a : Around) : State :=
  match s.writeObj p r.key i r.data a with
  | .error code => (s.writeFlags r.key code).refuseReq p r code
  | .ok t => s.wrote t p r i

/-- The longest value that a segmented write stages. -/
def stagedMax : Nat := 16777216

/-- The staged write of an object. -/
def State.stagedOf (s : State) (k : Nat) : Option Staged := s.staged.find? fun e => e.key == k

/-- The staged write of an object dropped. -/
def State.unstage (s : State) (k : Nat) : State := { s with staged := s.staged.filter fun e => e.key != k }

/-- The bytes that a segment leads to, or the code that refuses it (R430). -/
def stageBytes (e : Option Staged) (p : Path) (off : Nat) (d : Bytes) : Except Nat Bytes :=
  match e with
  | none => if off == 0 then .ok d else .error 0x17
  | some e =>
    if e.path != p then .error (if off == 0 then 0x23 else 0x17)
    else if off == 0 then .ok d
    else if off == e.data.length then .ok (e.data ++ d)
    else .error 0x17

/-- WRITE_SEG (R430). -/
def State.serveWriteSeg (s : State) (p : Path) (r : DictReq) (i : ObjInfo) : State :=
  let e := s.stagedOf r.key
  match stageBytes e p r.off r.data with
  | .error code =>
    let own := match e with
      | some e => e.path == p
      | none => false
    (if code == 0x17 && own then s.unstage r.key else s).refuseReq p r code
  | .ok bs =>
    if bs.length > stagedMax then s.refuseReq p r 0x14
    else if !r.final then
      let t : State := { s.unstage r.key with staged := (s.unstage r.key).staged ++ [⟨r.key, p, bs, s.beat⟩] }
      t.answer p r (t.rspOf r (some i) 0 r.data.length []) s.dictUp false
    else if !s.mayWrite p r.key i.access bs then s.refuseReq p r 0x11
    else match s.writeObj p r.key i bs Around.none with
      | .error code => (s.writeFlags r.key code).refuseReq p r code
      | .ok t => s.wrote (t.unstage r.key) p r i

/-- The 32 raise counts of a flag object (R442). -/
def State.countBytes (s : State) (k : Nat) : Bytes :=
  ((List.range 32).map fun b => leBytes 4 (s.raiseCount k b)).flatten

/-- FLAG_COUNTS: the flags, then the counts. -/
def State.serveCounts (s : State) (p : Path) (r : DictReq) (i : ObjInfo) : State :=
  let bs := leBytes 4 (s.get r.key) ++ s.countBytes r.key
  s.answer p r (s.rspOf r (some i) 0 bs.length bs) s.dictUp false

/-- FLAG_CLEAR (R444). -/
def State.serveClear (s : State) (p : Path) (r : DictReq) (i : ObjInfo) : State :=
  match firstCode [need (r.data.length == 4) 0x14, need (s.writableNow p r.key i (leNat r.data)) 0x21] with
  | some code => s.refuseReq p r code
  | none =>
    let t := s.clearBits r.key (leNat r.data)
    let bs := leBytes 4 (s.get r.key) ++ leBytes 4 (t.get r.key) ++ t.countBytes r.key
    t.answer p r (t.rspOf r (some i) 0 bs.length bs) s.dictUp false

/-- The writable mask of an object (R425). -/
def Writable.bits : Writable → Nat
  | .never => 0
  | .any => 0x100
  | .states m => m
  | .cond => 0x200

/-- The entry of ENUMERATE for a sub. -/
def enumEntry (index sub : Nat) : Bytes :=
  match objAt index sub with
  | some i => leBytes 1 sub ++ leBytes 1 i.ty.code ++ leBytes 1 i.access ++ [0] ++ leBytes 2 i.wr.bits ++ [0, 0]
  | none => []

/-- ENUMERATE (R425): entries of the subs present, in ascending order, from entry OFFSET. -/
def State.serveEnum (s : State) (p : Path) (r : DictReq) : State :=
  match s.enumCheck p r with
  | some code => s.answer p r ⟨code, 0, 0, 0, 0, []⟩ s.dictUp false
  | none =>
    let all := ((List.range 256).map (enumEntry r.index)).flatten
    s.answer p r ⟨0, 0, 0, 0, all.length, ((all.drop (8 * r.off)).take (pathLimit p r.ver))⟩ s.dictUp false

/-- One entry of READ_BATCH: the status of a read of an object of at most 8 bytes, its type, its value. -/
def State.batchEntry (s : State) (p : Path) (index sub : Nat) : Nat × Nat × Nat :=
  match objAt index sub with
  | none => (0x10, 0, 0)
  | some i =>
    match firstCode
      [need (i.ty.len != 0) 0x13, need (s.servedNow p index) 0x16, need (s.mayRead p (index * 256 + sub)) 0x11] with
    | some code => (code, i.ty.code, 0)
    | none => (0, i.ty.code, s.value p (index * 256 + sub))

/-- READ_BATCH (R425): all values of one spine cycle. -/
def State.serveBatch (s : State) (p : Path) (r : DictReq) : State :=
  let es := (chunks 4 r.data).map fun e => (fld e 0 2, fld e 2 1)
  if !opOk r.op r.ver none || r.data.length > pathLimit p r.ver then s.answer p r ⟨0x13, 0, 0, 0, 0, []⟩ s.dictUp false
  else if !s.dictUp && p != .mctp then s.answer p r ⟨0x16, 0, 0, 0, 0, []⟩ s.dictUp false
  else if r.data.length % 4 != 0 || es.isEmpty || es.length > 16 then s.answer p r ⟨0x14, 0, 0, 0, 0, []⟩ s.dictUp false
  else
    let vs := es.map fun e => s.batchEntry p e.1 e.2
    let bs := (vs.map fun v => leBytes 1 v.1 ++ leBytes 1 v.2.1 ++ [0, 0] ++ leBytes 8 v.2.2).flatten
    let denied := (es.zip vs).filter fun e => e.2.1 == 0x11
    let t := denied.foldl (fun s e => s.noteDenied p r.op e.1.1 e.1.2) s
    t.answer p r ⟨0, 0, 0, 0, bs.length, bs⟩ s.dictUp false

/-- A request that has reached its object: the operation carried out. -/
def State.serveObj (s : State) (p : Path) (r : DictReq) (i : ObjInfo) (a : Around) : State :=
  match r.op with
  | 1 => s.serveRead p r i
  | 2 => s.serveWrite p r i a
  | 3 => s.serveReadSeg p r i
  | 4 => s.serveWriteSeg p r i
  | 6 => s.serveCounts p r i
  | _ => s.serveClear p r i

/-- A request served (R425, R426). -/
def State.serve (s : State) (p : Path) (r : DictReq) (a : Around) : State :=
  if r.op == 5 then s.serveEnum p r
  else if r.op == 8 then s.serveBatch p r
  else match s.reachCheck p r, objAt r.index r.sub with
    | none, some i => s.serveObj p r i a
    | some code, _ => s.refuseReq p r code
    | none, none => s.refuseReq p r 0x10

/-! ### Taking a request (R428) -/

/-- Responses of a path that wait for the partner (R467). -/
def State.heldOn (s : State) (p : Path) : Nat :=
  (((s.unacked.map fun (u : Unacked) => u.hold).flatten).filter fun e =>
    match e with
    | .dict q .. => q == p
    | .mailbox b _ => p == .host (b / 16)
    | _ => false).length

/-- VC0 requests that wait, all sources together. -/
def State.heldVc0 (s : State) : Nat :=
  (((s.unacked.map fun (u : Unacked) => u.hold).flatten).filter fun e =>
    match e with
    | .dict (.vc0 _) .. => true
    | _ => false).length

/-- Does a request wait: its path holds as many as it may, or the core that serves it restarts (R428, R460)? -/
def State.reqWaits (s : State) (p : Path) (index : Nat) : Bool :=
  (match p with
    | .mctp => 4 ≤ s.heldOn p
    | .host _ => 16 ≤ s.heldOn p
    | .vc0 _ => false)
  || (s.dictUp && s.coreStates.getD (s.dictCore index) 0 == 1)

/-- A request as it arrives on its path (R419, R428). -/
def State.dictRequest (s : State) (p : Path) (r : DictReq) (a : Around) : State :=
  if s.reqWaits p r.index then s
  else match p with
    | .vc0 _ => if 64 ≤ s.heldVc0 then s.refuseReq p r 0x23 else s.serve p r a
    | _ => s.serve p r a

/-- A write of the whole value of an object, as one request of version 2. -/
def writeReq (index sub : Nat) (d : Bytes) : DictReq := ⟨2, 2, 0, index, sub, false, 0, d.length, d, none, true⟩

/-- A write of an object by its key. -/
def State.writeKey (s : State) (p : Path) (k : Nat) (d : Bytes) (a : Around) : State :=
  s.dictRequest p (writeReq (k / 256) (k % 256) d) a

/-! ### Mailboxes (R422) -/

/-- Does an operation carry data with its request? -/
def opCarries (op : Nat) : Bool := op == 2 || op == 4 || op == 7 || op == 8

/-- The request that lies in a mailbox (R423). -/
def Mailbox.parse (b : Mailbox) (box : Nat) : DictReq :=
  let q := padTo 1040 b.request
  let op := fld q 0 1
  let len := fld q 12 4
  ⟨op, fld q 1 1, fld q 2 2, fld q 4 2, fld q 6 1, fld q 7 1 % 2 == 1, fld q 8 4, len,
    if opCarries op then (q.drop 16).take len else [], some box, false⟩

/-- Is the header of a request malformed: an unknown version, or data beyond the request area? -/
def DictReq.malformed (r : DictReq) : Bool := !(r.ver == 1 || r.ver == 2) || (opCarries r.op && r.len > 1024)

/-- Does a response wait for a mailbox? -/
def State.boxHeld (s : State) (box : Nat) : Bool :=
  ((s.unacked.map fun (u : Unacked) => u.hold).flatten).any fun e =>
    match e with
    | .mailbox b _ => b == box
    | _ => false

/-- A mailbox polled: a request that waits in it is served. -/
def State.pollBox (s : State) (m i : Nat) : State :=
  let box := m * 16 + i
  let b := s.mailbox box
  let r := b.parse box
  if b.reqSeq == b.rspSeq || s.boxHeld box then s
  else if r.malformed then
    (s.raise O_DICT_FLAGS 2).answer (.host m) r ⟨0x13, 0, 0, 0, 0, []⟩ s.dictUp false
  else s.dictRequest (.host m) r Around.none

end Sys2Proof.Machine
end

