-- ==== Sys2Proof/Machine/DictRows.lean ====
section
/-! DEFINITION. The commands of the dictionary: one meaning for each row that writes an object (R408 to R441), and those of the
operations themselves (R422 to R430, R442, R444). -/

namespace Sys2Proof.Machine

open Sys2Proof

/-! ### Control writes -/

/-- CLAIM (R408): a write of 1 to CTX_CTRL. -/
def execClaim (p : Path) (c : Nat) (s : State) : Host.Outcome State Fault Refusal :=
  finish s (s.writeKey p (ctxKey c O_CTX_CTRL) (leBytes 1 1) Around.none)

/-- ARM (R537): a write of 2 to CTX_CTRL. -/
def execArm (p : Path) (c : Nat) (s : State) : Host.Outcome State Fault Refusal :=
  finish s (s.writeKey p (ctxKey c O_CTX_CTRL) (leBytes 1 2) Around.none)

/-- DISARM (R408): a write of 3 to CTX_CTRL. -/
def execDisarm (p : Path) (c : Nat) (s : State) : Host.Outcome State Fault Refusal :=
  finish s (s.writeKey p (ctxKey c O_CTX_CTRL) (leBytes 1 3) Around.none)

/-- DRAIN (R408): a write of 4 to CTX_CTRL. -/
def execDrain (p : Path) (c : Nat) (s : State) : Host.Outcome State Fault Refusal :=
  finish s (s.writeKey p (ctxKey c O_CTX_CTRL) (leBytes 1 4) Around.none)

/-- HALT (R409): a write of 5 to CTX_CTRL. -/
def execHalt (p : Path) (c : Nat) (s : State) : Host.Outcome State Fault Refusal :=
  finish s (s.writeKey p (ctxKey c O_CTX_CTRL) (leBytes 1 5) Around.none)

/-- RESUME (R408): a write of 6 to CTX_CTRL. -/
def execResume (p : Path) (c : Nat) (s : State) : Host.Outcome State Fault Refusal :=
  finish s (s.writeKey p (ctxKey c O_CTX_CTRL) (leBytes 1 6) Around.none)

/-- RELEASE (R408): a write of 7 to CTX_CTRL. -/
def execRelease (p : Path) (c : Nat) (s : State) : Host.Outcome State Fault Refusal :=
  finish s (s.writeKey p (ctxKey c O_CTX_CTRL) (leBytes 1 7) Around.none)

/-- CONTINUE (R402): a write of 1 to RING_CTRL. -/
def execRingContinue (p : Path) (c : Nat) (s : State) : Host.Outcome State Fault Refusal :=
  finish s (s.writeKey p (ctxKey c O_RING_CTRL) (leBytes 1 1) Around.none)

/-- SKIP (R402): a write of 2 to RING_CTRL. -/
def execRingSkip (p : Path) (c : Nat) (s : State) : Host.Outcome State Fault Refusal :=
  finish s (s.writeKey p (ctxKey c O_RING_CTRL) (leBytes 1 2) Around.none)

/-- FLUSH (R402): a write of 3 to RING_CTRL. -/
def execRingFlush (p : Path) (c : Nat) (s : State) : Host.Outcome State Fault Refusal :=
  finish s (s.writeKey p (ctxKey c O_RING_CTRL) (leBytes 1 3) Around.none)

/-- POOL_CREATE (R284): a write of 1 to POOL_CTRL. -/
def execPoolCreate (p : Path) (u : Nat) (s : State) : Host.Outcome State Fault Refusal :=
  finish s (s.writeKey p (unitKey u O_POOL_CTRL) (leBytes 1 1) Around.none)

/-- POOL_DELETE (R290): a write of 2 to POOL_CTRL. -/
def execPoolDelete (p : Path) (u : Nat) (s : State) : Host.Outcome State Fault Refusal :=
  finish s (s.writeKey p (unitKey u O_POOL_CTRL) (leBytes 1 2) Around.none)

/-- GROUP_CREATE (R352): a write of 1 to GROUP_CTRL. -/
def execGroupCreate (p : Path) (s : State) : Host.Outcome State Fault Refusal :=
  finish s (s.writeKey p O_GROUP_CTRL (leBytes 1 1) Around.none)

/-- GROUP_DELETE (R352): a write of 2 to GROUP_CTRL. -/
def execGroupDelete (p : Path) (s : State) : Host.Outcome State Fault Refusal :=
  finish s (s.writeKey p O_GROUP_CTRL (leBytes 1 2) Around.none)

/-- PAIR (R465): a write of 1 to TWIN_CTRL. -/
def execPair (p : Path) (info : PartnerInfo) (s : State) : Host.Outcome State Fault Refusal :=
  finish s (s.writeKey p O_TWIN_CTRL (leBytes 1 1) ⟨some info, none⟩)

/-- UNPAIR (R473): a write of 2 to TWIN_CTRL. -/
def execUnpair (p : Path) (info : PartnerInfo) (s : State) : Host.Outcome State Fault Refusal :=
  finish s (s.writeKey p O_TWIN_CTRL (leBytes 1 2) ⟨some info, none⟩)

/-- HANDBACK (R473): a write of 3 to TWIN_CTRL. -/
def execHandback (p : Path) (s : State) : Host.Outcome State Fault Refusal :=
  finish s (s.writeKey p O_TWIN_CTRL (leBytes 1 3) Around.none)

/-- UNIT_QUARANTINE (R453): a write of 1 to UNIT_CTRL. -/
def execUnitQuarantine (p : Path) (s : State) : Host.Outcome State Fault Refusal :=
  finish s (s.writeKey p O_UNIT_CTRL (leBytes 1 1) Around.none)

/-- UNIT_RETURN (R462): a write of 2 to UNIT_CTRL. -/
def execUnitReturn (p : Path) (s : State) : Host.Outcome State Fault Refusal :=
  finish s (s.writeKey p O_UNIT_CTRL (leBytes 1 2) Around.none)

/-- UNIT_SLEEP (R464): a write of 3 to UNIT_CTRL. -/
def execUnitSleep (p : Path) (s : State) : Host.Outcome State Fault Refusal :=
  finish s (s.writeKey p O_UNIT_CTRL (leBytes 1 3) Around.none)

/-- SLOT_DISCARD (R486): a write of its value to SLOT_CTRL. -/
def execSlotDiscard (p : Path) (slot : Nat) (s : State) : Host.Outcome State Fault Refusal :=
  finish s (s.writeKey p O_SLOT_CTRL (leBytes 1 (slot + 1)) Around.none)

/-- SLOT_VERIFY (R502): a write of its value to SLOT_CTRL. -/
def execSlotVerify (p : Path) (slot : Nat) (s : State) : Host.Outcome State Fault Refusal :=
  finish s (s.writeKey p O_SLOT_CTRL (leBytes 1 (slot + 3)) Around.none)

/-- RESTORE (R505): a write of 1 to RESTORE_CTRL. -/
def execRestore (p : Path) (image : Bytes) (s : State) : Host.Outcome State Fault Refusal :=
  finish s (s.writeKey p O_RESTORE_CTRL (leBytes 1 1) ⟨none, some image⟩)

/-- DEBUG_CLOSE (R492): a write of 1 to DEBUG_CTRL. -/
def execDebugClose (p : Path) (s : State) : Host.Outcome State Fault Refusal :=
  finish s (s.writeKey p O_DEBUG_CTRL (leBytes 1 1) Around.none)

/-- WARM_RESET (R479): a write of 1 to RESET_CTRL. -/
def execWarmReset (p : Path) (s : State) : Host.Outcome State Fault Refusal :=
  finish s (s.writeKey p O_RESET_CTRL (leBytes 1 1) Around.none)

/-- ENGINE_QUARANTINE (R454): a write of 1 to ENGINE_QUARANTINE. -/
def execEngineQuarantine (p : Path) (s : State) : Host.Outcome State Fault Refusal :=
  finish s (s.writeKey p O_ENGINE_QUARANTINE (leBytes 1 1) Around.none)

/-- LATCH_CTRL (R439): a write of 1 to LATCH_CTRL. -/
def execLatchCtrl (p : Path) (s : State) : Host.Outcome State Fault Refusal :=
  finish s (s.writeKey p O_LATCH_CTRL (leBytes 1 1) Around.none)

/-! ### Writes of one object -/

/-- DESC_WRITE (R292). -/
def execDescWrite (p : Path) (c : Nat) (data : Bytes) (s : State) : Host.Outcome State Fault Refusal :=
  finish s (s.writeKey p (ctxKey c O_DESC_WRITE) data Around.none)

/-- SLOT_ENTRY_WRITE (R366). -/
def execSlotEntryWrite (p : Path) (c : Nat) (data : Bytes) (s : State) : Host.Outcome State Fault Refusal :=
  finish s (s.writeKey p (ctxKey c O_SLOT_ENTRY_WRITE) data Around.none)

/-- EXPERT_MAP (R77). -/
def execExpertMap (p : Path) (c : Nat) (data : Bytes) (s : State) : Host.Outcome State Fault Refusal :=
  finish s (s.writeKey p (ctxKey c O_EXPERT_MAP) data Around.none)

/-- EXPERT_COUNT (R95). -/
def execExpertCount (p : Path) (c : Nat) (data : Bytes) (s : State) : Host.Outcome State Fault Refusal :=
  finish s (s.writeKey p (ctxKey c O_EXPERT_COUNT) data Around.none)

/-- BIAS (R94). -/
def execBias (p : Path) (c : Nat) (data : Bytes) (s : State) : Host.Outcome State Fault Refusal :=
  finish s (s.writeKey p (ctxKey c O_BIAS) data Around.none)

/-- MODEL_WIDTH_WRITE: HIDDEN_WIDTH, or INNER_WIDTH (R96). -/
def execModelWidthWrite (p : Path) (c : Nat) (inner : Bool) (data : Bytes) (s : State) : Host.Outcome State Fault Refusal :=
  finish s (s.writeKey p (ctxKey c (if inner then O_INNER_WIDTH else O_HIDDEN_WIDTH)) data Around.none)

/-- LS_PAGES, or HBM_EXTENTS (R280). -/
def execLsPages (p : Path) (c : Nat) (extents : Bool) (data : Bytes) (s : State) : Host.Outcome State Fault Refusal :=
  finish s (s.writeKey p (ctxKey c (if extents then O_HBM_EXTENTS else O_LS_PAGES)) data Around.none)

/-- REGIONS (R281). -/
def execRegions (p : Path) (c : Nat) (data : Bytes) (s : State) : Host.Outcome State Fault Refusal :=
  finish s (s.writeKey p (ctxKey c O_REGIONS) data Around.none)

/-- DESC_AREA (R308). -/
def execDescArea (p : Path) (c : Nat) (data : Bytes) (s : State) : Host.Outcome State Fault Refusal :=
  finish s (s.writeKey p (ctxKey c O_DESC_AREA) data Around.none)

/-- SRC_WINDOWS (R340). -/
def execSrcWindows (p : Path) (c : Nat) (data : Bytes) (s : State) : Host.Outcome State Fault Refusal :=
  finish s (s.writeKey p (ctxKey c O_SRC_WINDOWS) data Around.none)

/-- DET_LEVEL (R25). -/
def execDetLevel (p : Path) (c : Nat) (data : Bytes) (s : State) : Host.Outcome State Fault Refusal :=
  finish s (s.writeKey p (ctxKey c O_DET_LEVEL) data Around.none)

/-- DEADLINE_BEATS (R12). -/
def execDeadlineBeats (p : Path) (c : Nat) (data : Bytes) (s : State) : Host.Outcome State Fault Refusal :=
  finish s (s.writeKey p (ctxKey c O_DEADLINE_BEATS) data Around.none)

/-- DEBUG_REQUEST (R490). -/
def execDebugRequest (p : Path) (data : Bytes) (s : State) : Host.Outcome State Fault Refusal :=
  finish s (s.writeKey p O_DEBUG_REQUEST data Around.none)

/-- DEBUG_RESPONSE (R491). -/
def execDebugResponse (p : Path) (data : Bytes) (s : State) : Host.Outcome State Fault Refusal :=
  finish s (s.writeKey p O_DEBUG_RESPONSE data Around.none)

/-- BEAT_ROLE (R249). -/
def execBeatRole (p : Path) (data : Bytes) (s : State) : Host.Outcome State Fault Refusal :=
  finish s (s.writeKey p O_BEAT_ROLE data Around.none)

/-- FABRIC_ENABLE (R318). -/
def execFabricEnable (p : Path) (data : Bytes) (s : State) : Host.Outcome State Fault Refusal :=
  finish s (s.writeKey p O_FABRIC_ENABLE data Around.none)

/-- MCTP_GRANT (R436). -/
def execMctpGrant (p : Path) (data : Bytes) (s : State) : Host.Outcome State Fault Refusal :=
  finish s (s.writeKey p O_MCTP_GRANT data Around.none)

/-- APERTURES (R513). -/
def execApertures (p : Path) (data : Bytes) (s : State) : Host.Outcome State Fault Refusal :=
  finish s (s.writeKey p O_APERTURES data Around.none)

/-- START_POLICY (R483). -/
def execStartPolicy (p : Path) (data : Bytes) (s : State) : Host.Outcome State Fault Refusal :=
  finish s (s.writeKey p O_START_POLICY data Around.none)

/-- OWNER_KEY_HASH (R508). -/
def execOwnerKeyHash (p : Path) (data : Bytes) (s : State) : Host.Outcome State Fault Refusal :=
  finish s (s.writeKey p O_OWNER_KEY_HASH data Around.none)

/-- FLAG_WRITE_CLEAR (R441): a write of a flag object; a write of any other object is none. -/
def execFlagWriteClear (p : Path) (index sub : Nat) (data : Bytes) (s : State) : Host.Outcome State Fault Refusal :=
  finish s <|
    if ((objAt index sub).map ObjInfo.isFlags).getD true then
      s.dictRequest p (writeReq index sub data) Around.none
    else s

/-! ### The operations -/

/-- A request of a path that is not a mailbox: TAG 0. -/
def pathReq (op ver index sub off len : Nat) (final : Bool) (data : Bytes) : DictReq :=
  ⟨op, ver, 0, index, sub, final, off, len, data, none, false⟩

/-- READ (R425). -/
def execRead (p : Path) (ver index sub : Nat) (s : State) : Host.Outcome State Fault Refusal :=
  finish s (s.dictRequest p (pathReq 1 ver index sub 0 0 false []) Around.none)

/-- WRITE (R426). -/
def execWrite (p : Path) (ver index sub : Nat) (data : Bytes) (s : State) : Host.Outcome State Fault Refusal :=
  finish s (s.dictRequest p (pathReq 2 ver index sub 0 data.length false data) Around.none)

/-- READ_SEG (R425). -/
def execReadSeg (p : Path) (ver index sub off len : Nat) (s : State) : Host.Outcome State Fault Refusal :=
  finish s (s.dictRequest p (pathReq 3 ver index sub off len false []) Around.none)

/-- WRITE_SEG (R430). -/
def execWriteSeg (p : Path) (ver index sub off : Nat) (final : Bool) (data : Bytes) (s : State) :
    Host.Outcome State Fault Refusal :=
  finish s (s.dictRequest p (pathReq 4 ver index sub off data.length final data) Around.none)

/-- DICT_SEGMENT_ABANDONED (R430): a staged write with no segment for 1,024 beats. -/
def execDictSegmentAbandoned (index sub : Nat) (s : State) : Host.Outcome State Fault Refusal :=
  finish s <|
    match s.stagedOf (index * 256 + sub) with
    | some e =>
      if s.coreUp && s.beat ≥ e.beat + 1024 then (s.unstage (index * 256 + sub)).raise O_DICT_FLAGS 1 else s
    | none => s

/-- ENUMERATE (R425). -/
def execEnumerate (p : Path) (ver index off : Nat) (s : State) : Host.Outcome State Fault Refusal :=
  finish s (s.dictRequest p (pathReq 5 ver index 0 off 0 false []) Around.none)

/-- FLAG_COUNTS (R442). -/
def execFlagCounts (p : Path) (ver index sub : Nat) (s : State) : Host.Outcome State Fault Refusal :=
  finish s (s.dictRequest p (pathReq 6 ver index sub 0 0 false []) Around.none)

/-- FLAG_CLEAR (R444). -/
def execFlagClear (p : Path) (ver index sub mask : Nat) (s : State) : Host.Outcome State Fault Refusal :=
  finish s (s.dictRequest p (pathReq 7 ver index sub 0 4 false (leBytes 4 mask)) Around.none)

/-- READ_BATCH (R425). -/
def execReadBatch (p : Path) (ver : Nat) (entries : List (Nat × Nat)) (s : State) : Host.Outcome State Fault Refusal :=
  let d : Bytes := (entries.map fun e => leBytes 2 e.1 ++ leBytes 1 e.2 ++ [0]).flatten
  finish s (s.dictRequest p (pathReq 8 ver 0 0 0 d.length false d) Around.none)

/-- MAILBOX_POLL (R422): the 16 mailboxes of module `m`, in order. -/
def execMailboxPoll (m : Nat) (s : State) : Host.Outcome State Fault Refusal :=
  finish s (if s.dictUp && m < 8 then (List.range 16).foldl (fun s i => s.pollBox m i) s else s)

end Sys2Proof.Machine
end

