-- ==== Sys2Proof/Machine/Mctp.lean ====
section
/-! DEFINITION. The management ports beside the dictionary: the I3C address (R419), the MCTP control messages (R420) and SPDM
attestation (R493 to R495). What is sent holds the content that the manual states; the framing of the standards is left out. -/

namespace Sys2Proof.Machine

open Sys2Proof

/-- ENTDAA (R419): the bus owner assigns a dynamic address of 7 bits. -/
def execEntdaa (addr : Nat) (s : State) : Host.Outcome State Fault Refusal :=
  finish s (if addr < 128 then { s with i3cAddr := some addr } else s)

/-! ### MCTP control messages (R420) -/

/-- Does a binding's target respond (R436)? -/
def State.bindingUp (s : State) (b : Binding) : Bool :=
  match b with
  | .i3c => true
  | .smbus => s.get O_SMBUS_ENABLE == 1

/-- The object that holds a binding's endpoint ID. -/
def eidObj (b : Binding) : Nat :=
  match b with
  | .i3c => O_MCTP_EID_I3C
  | .smbus => O_MCTP_EID_SMBUS

/-- A control message answered on the bus on which it arrived. -/
def State.mctpAnswer (s : State) (b : Binding) (name : String) (d : Bytes) : State :=
  if s.bindingUp b then s.emit (.mctp b name d) else s

/-- SET_ENDPOINT_ID (R420). 00h and FFh are no endpoint IDs, and are answered with completion code 02h. -/
def execSetEndpointId (b : Binding) (eid : Nat) (s : State) : Host.Outcome State Fault Refusal :=
  finish s <|
    if !s.bindingUp b then s
    else if eid == 0 || eid ≥ 255 then s.mctpAnswer b "SET_ENDPOINT_ID" [2]
    else (s.put (eidObj b) eid).mctpAnswer b "SET_ENDPOINT_ID" ([0] ++ leBytes 1 eid)

/-- GET_ENDPOINT_ID (R420). -/
def execGetEndpointId (b : Binding) (s : State) : Host.Outcome State Fault Refusal :=
  finish s (s.mctpAnswer b "GET_ENDPOINT_ID" ([0] ++ leBytes 1 (s.get (eidObj b))))

/-- GET_MCTP_VERSION_SUPPORT (R419, R420): version 1.3. -/
def execGetMctpVersionSupport (b : Binding) (s : State) : Host.Outcome State Fault Refusal :=
  finish s (s.mctpAnswer b "GET_MCTP_VERSION_SUPPORT" [0, 1, 3])

/-- GET_MESSAGE_TYPE_SUPPORT (R420): types 00h, 05h and 7Fh. -/
def execGetMessageTypeSupport (b : Binding) (s : State) : Host.Outcome State Fault Refusal :=
  finish s (s.mctpAnswer b "GET_MESSAGE_TYPE_SUPPORT" [0, 0x00, 0x05, 0x7F])

/-- GET_VENDOR_DEFINED_MESSAGE_SUPPORT (R420): vendor ID format 00h, and the enterprise number of 1100h:06. -/
def execGetVendorDefinedMessageSupport (b : Binding) (s : State) : Host.Outcome State Fault Refusal :=
  finish s (s.mctpAnswer b "GET_VENDOR_DEFINED_MESSAGE_SUPPORT" ([0, 0x00] ++ leBytes 4 Config.vendorPen.toNat))

/-! ### SPDM (R494, R495) -/

/-- Before step 28 the engine answers Busy (R494). -/
def State.spdmBusy (s : State) : Bool :=
  s.measured.isEmpty || (match s.startStep with | some k => k ≤ 28 | none => false)

/-- An SPDM request answered: Busy, out of its order in the standard, or by `go`. `from_` is the state the request needs. -/
def State.spdm (s : State) (from_ : Nat) (go : State → State) : State :=
  if s.spdmBusy then s.emit (.spdm "ERROR Busy" [])
  else if s.spdmState < from_ then s.emit (.spdm "ERROR UnexpectedRequest" [])
  else go s

/-- GET_VERSION (R494): 1.2 and 1.3. -/
def execGetVersion (s : State) : Host.Outcome State Fault Refusal :=
  finish s (s.spdm 0 fun s => { s with spdmState := 1 }.emit (.spdm "VERSION" [0x12, 0x13]))

/-- GET_CAPABILITIES (R494): CERT_CAP, CHAL_CAP, MEAS_CAP signed, MEAS_FRESH_CAP; messages up to 4,096 bytes. -/
def execGetCapabilities (s : State) : Host.Outcome State Fault Refusal :=
  finish s (s.spdm 1 fun s =>
    { s with spdmState := 2 }.emit (.spdm "CAPABILITIES" (leBytes 4 0x36 ++ leBytes 4 4096)))

/-- NEGOTIATE_ALGORITHMS (R494): ECDSA over P-384; SHA-384 for hashes and for measurements. -/
def execNegotiateAlgorithms (s : State) : Host.Outcome State Fault Refusal :=
  finish s (s.spdm 2 fun s =>
    { s with spdmState := 3 }.emit (.spdm "ALGORITHMS" (leBytes 4 0x80 ++ leBytes 4 0x02 ++ leBytes 4 0x04)))

/-- The certificate chain of slot 0 (R493, R494). -/
def certChain : Bytes := (List.range (Config.certificateLen 0)).map (Config.certificate 0)

/-- A signature by the Alias key over a message (R493). -/
def aliasSign (msg : Bytes) : Bytes := (List.range 96).map (Config.signature msg)

/-- GET_DIGESTS (R494): the digest of the chain of slot 0. -/
def execGetDigests (s : State) : Host.Outcome State Fault Refusal :=
  finish s (s.spdm 3 fun s => s.emit (.spdm "DIGESTS" ([1] ++ sha384 certChain)))

/-- GET_CERTIFICATE (R494): bytes of the chain of slot 0 by offset and length, within a message of 4,096 bytes. -/
def execGetCertificate (slot off len : Nat) (s : State) : Host.Outcome State Fault Refusal :=
  finish s (s.spdm 3 fun s =>
    if slot != 0 || off ≥ Config.certificateLen 0 then s.emit (.spdm "ERROR InvalidRequest" [])
    else
      let part := (certChain.drop off).take (min len 4088)
      s.emit (.spdm "CERTIFICATE" (leBytes 2 part.length ++ leBytes 2 (Config.certificateLen 0 - off - part.length) ++ part)))

/-- CHALLENGE (R494): the chain's digest, a fresh nonce, and a signature over both with the requester's nonce. -/
def execChallenge (slot : Nat) (nonce : Bytes) (s : State) : Host.Outcome State Fault Refusal :=
  finish s (s.spdm 3 fun s =>
    if slot != 0 || nonce.length != 32 then s.emit (.spdm "ERROR InvalidRequest" [])
    else
      let body := sha384 certChain ++ s.nonce
      (s.emit (.spdm "CHALLENGE_AUTH" (body ++ aliasSign (nonce ++ body)))).drawn)

/-- A measurement block (R495): blocks 1 to 5 and 7 as fixed, block 6 as of now. -/
def State.measurement (s : State) (i : Nat) : Bytes :=
  if i == 6 then leBytes 8 s.configDigest else s.measured.getD (if i == 7 then 5 else i - 1) []

/-- A block with its index. -/
def State.measurementBlock (s : State) (i : Nat) : Bytes :=
  let b := s.measurement i
  leBytes 1 i ++ leBytes 2 b.length ++ b

/-- GET_MEASUREMENTS (R495): the count for index 0, one block for 1 to 7, every block for FFh; signed or not. -/
def execGetMeasurements (index : Nat) (signed : Bool) (nonce : Bytes) (s : State) : Host.Outcome State Fault Refusal :=
  finish s (s.spdm 3 fun s =>
    if (7 < index && index != 0xFF) || (signed && nonce.length != 32) then s.emit (.spdm "ERROR InvalidRequest" [])
    else
      let blocks := if index == 0 then [7]
        else if index == 0xFF then ((List.range 7).map fun i => s.measurementBlock (i + 1)).flatten
        else s.measurementBlock index
      let body := blocks ++ s.nonce
      (s.emit (.spdm "MEASUREMENTS" (if signed then body ++ aliasSign (nonce ++ body) else body))).drawn)

end Sys2Proof.Machine
end

