-- ==== Sys2Proof/Machine/Dispatch.lean ====
section
/-! DEFINITION. The meaning of each command: one arm per constructor of `Instr`. -/

namespace Sys2Proof.Machine

open Sys2Proof

/-- What a command does to everything but the queue. -/
def exec (i : Instr) (s : State) : Host.Outcome State Fault Refusal :=
  match i with
  | .nop c => Sys2Proof.Machine.execNop c s
  | .layerFwd c => Sys2Proof.Machine.execLayerFwd c s
  | .layerBwd c => Sys2Proof.Machine.execLayerBwd c s
  | .groupedOp c => Sys2Proof.Machine.execGroupedOp c s
  | .copy c => Sys2Proof.Machine.execCopy c s
  | .copyGather c => Sys2Proof.Machine.execCopyGather c s
  | .copyScatter c => Sys2Proof.Machine.execCopyScatter c s
  | .copyExpand1d c => Sys2Proof.Machine.execCopyExpand1d c s
  | .copyExpand2d c => Sys2Proof.Machine.execCopyExpand2d c s
  | .layout c => Sys2Proof.Machine.execLayout c s
  | .fabricCopy c => Sys2Proof.Machine.execFabricCopy c s
  | .allReduce c => Sys2Proof.Machine.execAllReduce c s
  | .reduceScatter c => Sys2Proof.Machine.execReduceScatter c s
  | .allGather c => Sys2Proof.Machine.execAllGather c s
  | .broadcast c => Sys2Proof.Machine.execBroadcast c s
  | .barrier c => Sys2Proof.Machine.execBarrier c s
  | .collectiveEntry c => Sys2Proof.Machine.execCollectiveEntry c s
  | .weightIntakeGateUp c src src2 => Sys2Proof.Machine.execWeightIntakeGateUp c src src2 s
  | .weightIntakeDown c src => Sys2Proof.Machine.execWeightIntakeDown c src s
  | .weightIntakeRouter c src => Sys2Proof.Machine.execWeightIntakeRouter c src s
  | .weightIntakePack c src => Sys2Proof.Machine.execWeightIntakePack c src s
  | .intakeComplete c idx => Sys2Proof.Machine.execIntakeComplete c idx s
  | .slotSwitch c => Sys2Proof.Machine.execSlotSwitch c s
  | .slotSwitchEffect c => Sys2Proof.Machine.execSlotSwitchEffect c s
  | .gradExport c => Sys2Proof.Machine.execGradExport c s
  | .stepMark c => Sys2Proof.Machine.execStepMark c s
  | .stepMarkEffect c => Sys2Proof.Machine.execStepMarkEffect c s
  | .waitBeatAbsolute c => Sys2Proof.Machine.execWaitBeatAbsolute c s
  | .waitBeatRelative c => Sys2Proof.Machine.execWaitBeatRelative c s
  | .waitBeatRelease c => Sys2Proof.Machine.execWaitBeatRelease c s
  | .launchAt c => Sys2Proof.Machine.execLaunchAt c s
  | .launchAtRelease c => Sys2Proof.Machine.execLaunchAtRelease c s
  | .loopMem c => Sys2Proof.Machine.execLoopMem c s
  | .endLoop c => Sys2Proof.Machine.execEndLoop c s
  | .fence c => Sys2Proof.Machine.execFence c s
  | .fenceRelease c => Sys2Proof.Machine.execFenceRelease c s
  | .cancelBatch c => Sys2Proof.Machine.execCancelBatch c s
  | .checkpoint c => Sys2Proof.Machine.execCheckpoint c s
  | .checkpointCut c => Sys2Proof.Machine.execCheckpointCut c s
  | .checkpointStage1End c => Sys2Proof.Machine.execCheckpointStage1End c s
  | .backgroundChunkCopy c => Sys2Proof.Machine.execBackgroundChunkCopy c s
  | .checkpointSeal c => Sys2Proof.Machine.execCheckpointSeal c s
  | .checkpointDrain c delivered => Sys2Proof.Machine.execCheckpointDrain c delivered s
  | .checkpointAbort slot => Sys2Proof.Machine.execCheckpointAbort slot s
  | .digestSnap c => Sys2Proof.Machine.execDigestSnap c s
  | .digestSnapCapture c => Sys2Proof.Machine.execDigestSnapCapture c s
  | .heldCommandIssue c => Sys2Proof.Machine.execHeldCommandIssue c s
  | .ringPoll c tick => Sys2Proof.Machine.execRingPoll c tick s
  | .claim p c => Sys2Proof.Machine.execClaim p c s
  | .arm p c => Sys2Proof.Machine.execArm p c s
  | .disarm p c => Sys2Proof.Machine.execDisarm p c s
  | .drain p c => Sys2Proof.Machine.execDrain p c s
  | .halt p c => Sys2Proof.Machine.execHalt p c s
  | .resume p c => Sys2Proof.Machine.execResume p c s
  | .release p c => Sys2Proof.Machine.execRelease p c s
  | .ringContinue p c => Sys2Proof.Machine.execRingContinue p c s
  | .ringSkip p c => Sys2Proof.Machine.execRingSkip p c s
  | .ringFlush p c => Sys2Proof.Machine.execRingFlush p c s
  | .poolCreate p pool => Sys2Proof.Machine.execPoolCreate p pool s
  | .poolActive pool => Sys2Proof.Machine.execPoolActive pool s
  | .poolDelete p pool => Sys2Proof.Machine.execPoolDelete p pool s
  | .groupCreate p => Sys2Proof.Machine.execGroupCreate p s
  | .groupDelete p => Sys2Proof.Machine.execGroupDelete p s
  | .pair p info => Sys2Proof.Machine.execPair p info s
  | .pairingComplete => Sys2Proof.Machine.execPairingComplete s
  | .unpair p info => Sys2Proof.Machine.execUnpair p info s
  | .handback p => Sys2Proof.Machine.execHandback p s
  | .handbackTransfer => Sys2Proof.Machine.execHandbackTransfer s
  | .unitQuarantine p => Sys2Proof.Machine.execUnitQuarantine p s
  | .unitReturn p => Sys2Proof.Machine.execUnitReturn p s
  | .unitReturned unit passed => Sys2Proof.Machine.execUnitReturned unit passed s
  | .unitSleep p => Sys2Proof.Machine.execUnitSleep p s
  | .slotDiscard p slot => Sys2Proof.Machine.execSlotDiscard p slot s
  | .slotVerify p slot => Sys2Proof.Machine.execSlotVerify p slot s
  | .restore p image => Sys2Proof.Machine.execRestore p image s
  | .restoreFinish => Sys2Proof.Machine.execRestoreFinish s
  | .debugClose p => Sys2Proof.Machine.execDebugClose p s
  | .warmReset p => Sys2Proof.Machine.execWarmReset p s
  | .engineQuarantine p => Sys2Proof.Machine.execEngineQuarantine p s
  | .latchCtrl p => Sys2Proof.Machine.execLatchCtrl p s
  | .latchCapture => Sys2Proof.Machine.execLatchCapture s
  | .descWrite p c data => Sys2Proof.Machine.execDescWrite p c data s
  | .slotEntryWrite p c data => Sys2Proof.Machine.execSlotEntryWrite p c data s
  | .debugRequest p data => Sys2Proof.Machine.execDebugRequest p data s
  | .debugResponse p data => Sys2Proof.Machine.execDebugResponse p data s
  | .debugChallengeExpiry p => Sys2Proof.Machine.execDebugChallengeExpiry p s
  | .debugTimeout p => Sys2Proof.Machine.execDebugTimeout p s
  | .expertMap p c data => Sys2Proof.Machine.execExpertMap p c data s
  | .expertCount p c data => Sys2Proof.Machine.execExpertCount p c data s
  | .bias p c data => Sys2Proof.Machine.execBias p c data s
  | .modelWidthWrite p c inner data => Sys2Proof.Machine.execModelWidthWrite p c inner data s
  | .lsPages p c extents data => Sys2Proof.Machine.execLsPages p c extents data s
  | .regions p c data => Sys2Proof.Machine.execRegions p c data s
  | .descArea p c data => Sys2Proof.Machine.execDescArea p c data s
  | .srcWindows p c data => Sys2Proof.Machine.execSrcWindows p c data s
  | .detLevel p c data => Sys2Proof.Machine.execDetLevel p c data s
  | .deadlineBeats p c data => Sys2Proof.Machine.execDeadlineBeats p c data s
  | .beatRole p data => Sys2Proof.Machine.execBeatRole p data s
  | .fabricEnable p data => Sys2Proof.Machine.execFabricEnable p data s
  | .mctpGrant p data => Sys2Proof.Machine.execMctpGrant p data s
  | .apertures p data => Sys2Proof.Machine.execApertures p data s
  | .startPolicy p data => Sys2Proof.Machine.execStartPolicy p data s
  | .ownerKeyHash p data => Sys2Proof.Machine.execOwnerKeyHash p data s
  | .flagWriteClear p index sub data => Sys2Proof.Machine.execFlagWriteClear p index sub data s
  | .read p ver index sub => Sys2Proof.Machine.execRead p ver index sub s
  | .write p ver index sub data => Sys2Proof.Machine.execWrite p ver index sub data s
  | .readSeg p ver index sub off len => Sys2Proof.Machine.execReadSeg p ver index sub off len s
  | .writeSeg p ver index sub off final data => Sys2Proof.Machine.execWriteSeg p ver index sub off final data s
  | .dictSegmentAbandoned index sub => Sys2Proof.Machine.execDictSegmentAbandoned index sub s
  | .enumerate p ver index off => Sys2Proof.Machine.execEnumerate p ver index off s
  | .flagCounts p ver index sub => Sys2Proof.Machine.execFlagCounts p ver index sub s
  | .flagClear p ver index sub mask => Sys2Proof.Machine.execFlagClear p ver index sub mask s
  | .readBatch p ver entries => Sys2Proof.Machine.execReadBatch p ver entries s
  | .mailboxPoll m => Sys2Proof.Machine.execMailboxPoll m s
  | .entdaa addr => Sys2Proof.Machine.execEntdaa addr s
  | .setEndpointId b eid => Sys2Proof.Machine.execSetEndpointId b eid s
  | .getEndpointId b => Sys2Proof.Machine.execGetEndpointId b s
  | .getMctpVersionSupport b => Sys2Proof.Machine.execGetMctpVersionSupport b s
  | .getMessageTypeSupport b => Sys2Proof.Machine.execGetMessageTypeSupport b s
  | .getVendorDefinedMessageSupport b => Sys2Proof.Machine.execGetVendorDefinedMessageSupport b s
  | .getVersion => Sys2Proof.Machine.execGetVersion s
  | .getCapabilities => Sys2Proof.Machine.execGetCapabilities s
  | .negotiateAlgorithms => Sys2Proof.Machine.execNegotiateAlgorithms s
  | .getDigests => Sys2Proof.Machine.execGetDigests s
  | .getCertificate slot off len => Sys2Proof.Machine.execGetCertificate slot off len s
  | .challenge slot nonce => Sys2Proof.Machine.execChallenge slot nonce s
  | .getMeasurements index signed nonce => Sys2Proof.Machine.execGetMeasurements index signed nonce s
  | .windowLaunch c tag => Sys2Proof.Machine.execWindowLaunch c tag s
  | .admissionRetry c tag => Sys2Proof.Machine.execAdmissionRetry c tag s
  | .stagingFillDone c set cold => Sys2Proof.Machine.execStagingFillDone c set cold s
  | .score c tag rows => Sys2Proof.Machine.execScore c tag rows s
  | .select c tag mask => Sys2Proof.Machine.execSelect c tag mask s
  | .sortAndPack c tag => Sys2Proof.Machine.execSortAndPack c tag s
  | .bufferGrant pool => Sys2Proof.Machine.execBufferGrant pool s
  | .send c tag => Sys2Proof.Machine.execSend c tag s
  | .landingCreditGrant c node flits => Sys2Proof.Machine.execLandingCreditGrant c node flits s
  | .dispatchRecord rec sender => Sys2Proof.Machine.execDispatchRecord rec sender s
  | .relayRecord rec sender => Sys2Proof.Machine.execRelayRecord rec sender s
  | .forwardedMarker c tag src => Sys2Proof.Machine.execForwardedMarker c tag src s
  | .endOfSendMarkerRx mk => Sys2Proof.Machine.execEndOfSendMarkerRx mk s
  | .remoteRefused c tag node => Sys2Proof.Machine.execRemoteRefused c tag node s
  | .closeNotice c tag src toRelay => Sys2Proof.Machine.execCloseNotice c tag src toRelay s
  | .horizon c tag => Sys2Proof.Machine.execHorizon c tag s
  | .workItemStart tile => Sys2Proof.Machine.execWorkItemStart tile s
  | .workItemCommit tile => Sys2Proof.Machine.execWorkItemCommit tile s
  | .weightGradAdd c item => Sys2Proof.Machine.execWeightGradAdd c item s
  | .returnRecord rec => Sys2Proof.Machine.execReturnRecord rec s
  | .windowOutputDelivered c tag => Sys2Proof.Machine.execWindowOutputDelivered c tag s
  | .deadlineBeat c tag rows => Sys2Proof.Machine.execDeadlineBeat c tag rows s
  | .combineTail c tag => Sys2Proof.Machine.execCombineTail c tag s
  | .caramelUpdate c => Sys2Proof.Machine.execCaramelUpdate c s
  | .counterPublication c => Sys2Proof.Machine.execCounterPublication c s
  | .collEntryMessage c rank entry => Sys2Proof.Machine.execCollEntryMessage c rank entry s
  | .collData c rank data => Sys2Proof.Machine.execCollData c rank data s
  | .collDoneReport c rank => Sys2Proof.Machine.execCollDoneReport c rank s
  | .collectiveComplete c => Sys2Proof.Machine.execCollectiveComplete c s
  | .abortNotice c rank code seq candidate => Sys2Proof.Machine.execAbortNotice c rank code seq candidate s
  | .collTimeout c => Sys2Proof.Machine.execCollTimeout c s
  | .abortSettle c => Sys2Proof.Machine.execAbortSettle c s
  | .load req => Sys2Proof.Machine.execLoad req s
  | .store req => Sys2Proof.Machine.execStore req s
  | .flaggedStore c addr data => Sys2Proof.Machine.execFlaggedStore c addr data s
  | .flaggedStoreRelease c id => Sys2Proof.Machine.execFlaggedStoreRelease c id s
  | .add req recent => Sys2Proof.Machine.execAdd req recent s
  | .min req => Sys2Proof.Machine.execMin req s
  | .max req => Sys2Proof.Machine.execMax req s
  | .cas req => Sys2Proof.Machine.execCas req s
  | .copyChunk req => Sys2Proof.Machine.execCopyChunk req s
  | .lineQueueService line => Sys2Proof.Machine.execLineQueueService line s
  | .remoteResponse id status data => Sys2Proof.Machine.execRemoteResponse id status data s
  | .hostApertureAccess m off write size data => Sys2Proof.Machine.execHostApertureAccess m off write size data s
  | .remoteTimeout id => Sys2Proof.Machine.execRemoteTimeout id s
  | .deadNodeNotice node => Sys2Proof.Machine.execDeadNodeNotice node s
  | .routeBlocked id => Sys2Proof.Machine.execRouteBlocked id s
  | .transitForward link tag flit src => Sys2Proof.Machine.execTransitForward link tag flit src s
  | .bypassFrame link tag flit src => Sys2Proof.Machine.execBypassFrame link tag flit src s
  | .frameRx link fecOk corrected tag flit => Sys2Proof.Machine.execFrameRx link fecOk corrected tag flit s
  | .ctrlFrame link frame => Sys2Proof.Machine.execCtrlFrame link frame s
  | .laneFailed link lane => Sys2Proof.Machine.execLaneFailed link lane s
  | .linkRetrain link => Sys2Proof.Machine.execLinkRetrain link s
  | .linkTrained link gen peer delayPs => Sys2Proof.Machine.execLinkTrained link gen peer delayPs s
  | .linkDelayMeasure link delayPs => Sys2Proof.Machine.execLinkDelayMeasure link delayPs s
  | .bypassAnnouncement a => Sys2Proof.Machine.execBypassAnnouncement a s
  | .returnAnnouncement node => Sys2Proof.Machine.execReturnAnnouncement node s
  | .takeoverAnnouncement lost serving => Sys2Proof.Machine.execTakeoverAnnouncement lost serving s
  | .beatBoundary => Sys2Proof.Machine.execBeatBoundary s
  | .beatFlit link flit => Sys2Proof.Machine.execBeatFlit link flit s
  | .beatLost => Sys2Proof.Machine.execBeatLost s
  | .holdoverLimitPassed => Sys2Proof.Machine.execHoldoverLimitPassed s
  | .beatSkew errorPs => Sys2Proof.Machine.execBeatSkew errorPs s
  | .beatInFrame count crc errorPs => Sys2Proof.Machine.execBeatInFrame count crc errorPs s
  | .heartbeat beat words => Sys2Proof.Machine.execHeartbeat beat words s
  | .heartbeatLoss => Sys2Proof.Machine.execHeartbeatLoss s
  | .probe node => Sys2Proof.Machine.execProbe node s
  | .probeTimeout => Sys2Proof.Machine.execProbeTimeout s
  | .yieldMessage => Sys2Proof.Machine.execYieldMessage s
  | .takeoverComplete => Sys2Proof.Machine.execTakeoverComplete s
  | .mirrorRecord rec => Sys2Proof.Machine.execMirrorRecord rec s
  | .mirrorLag => Sys2Proof.Machine.execMirrorLag s
  | .cellFault tile cell kind => Sys2Proof.Machine.execCellFault tile cell kind s
  | .scrubPass hbm ms findings => Sys2Proof.Machine.execScrubPass hbm ms findings s
  | .wipeComplete extent unit ok => Sys2Proof.Machine.execWipeComplete extent unit ok s
  | .sqCoreFault core => Sys2Proof.Machine.execSqCoreFault core s
  | .progressWordAlarm core => Sys2Proof.Machine.execProgressWordAlarm core s
  | .sqCoreRestart core => Sys2Proof.Machine.execSqCoreRestart core s
  | .profileChange => Sys2Proof.Machine.execProfileChange s
  | .noticeIntervalEnd => Sys2Proof.Machine.execNoticeIntervalEnd s
  | .crumbExpiry c tag => Sys2Proof.Machine.execCrumbExpiry c tag s
  | .vaonPowerOn => Sys2Proof.Machine.execVaonPowerOn s
  | .resetNLow => Sys2Proof.Machine.execResetNLow s
  | .resetNHigh => Sys2Proof.Machine.execResetNHigh s
  | .corePgFall => Sys2Proof.Machine.execCorePgFall s
  | .pwrAlertNLow => Sys2Proof.Machine.execPwrAlertNLow s
  | .pwrAlertNRelease => Sys2Proof.Machine.execPwrAlertNRelease s
  | .powerControl beatMw meanMw => Sys2Proof.Machine.execPowerControl beatMw meanMw s
  | .thermalControl temps => Sys2Proof.Machine.execThermalControl temps s
  | .startStep result => Sys2Proof.Machine.execStartStep result s
  | .corePgRise => Sys2Proof.Machine.execCorePgRise s
  | .probeAnswer => Sys2Proof.Machine.execProbeAnswer s
  | .mirrorAcknowledgement seq => Sys2Proof.Machine.execMirrorAcknowledgement seq s
  | .tensorMoverDone c idx => Sys2Proof.Machine.execTensorMoverDone c idx s
  | .slotVerifyEnd => Sys2Proof.Machine.execSlotVerifyEnd s

end Sys2Proof.Machine
end

