-- ==== Sys2Proof/Safety.lean ====
section
/-! DEFINITION. What counts as a safe run, and the terms in which claims about commands are stated. -/

namespace Sys2Proof

open Sys2Proof.Machine

/-- From `s`, `k` steps go through: none faults, none is refused. -/
def Safe (k : Nat) (s : State) : Prop := ∃ t, core.run k s = .next t

/-! ### What lets a command through -/

/-- The ring of context `c` is at work, and the descriptor in front of it, `d` at index `i`, has opcode `op` and passes
every check (R389, R396, R400). -/
def AtFront (s : State) (c i : Nat) (d : Bytes) (op : Nat) (checks : List (Option Nat)) : Prop :=
  s.front c = some (i, d) ∧ fld d 0 1 = op ∧ firstCode checks = none

/-- A request on path `p` is taken up, names object `i`, and passes orders 1 to 5 of R426. -/
def Reaches (s : State) (p : Path) (r : DictReq) (i : ObjInfo) : Prop :=
  s.reqWaits p r.index = false ∧ (∀ n, p = .vc0 n → s.heldVc0 < 64) ∧ s.reachCheck p r = none ∧
    objAt r.index r.sub = some i

/-- The request that writes a value to the object of a key. -/
def keyReq (k : Nat) (d : Bytes) : DictReq := writeReq (k / 256) (k % 256) d

/-- A write of `d` to the object of key `k` reaches it, passes the remaining checks of R426, and leads to `t`. -/
def Accepted (s : State) (p : Path) (k : Nat) (d : Bytes) (a : Around) (i : ObjInfo) (t : State) : Prop :=
  Reaches s p (keyReq k d) i ∧ s.writeObj p k i d a = .ok t

/-- A write of an action object reaches it and passes every check before the action's own; the action is `act`. -/
def Acts (s : State) (p : Path) (k v : Nat) (i : ObjInfo) (act : Eff) (t : State) : Prop :=
  Reaches s p (keyReq k (leBytes 1 v)) i ∧ s.writeCheck p k i (leBytes 1 v) = none ∧ act = .ok t

/-- The state that an accepted write from `s` to `t` ends in: mirrored, counted and answered (R424, R426, R467). -/
def written (s : State) (p : Path) (k : Nat) (d : Bytes) (i : ObjInfo) (t : State) : State :=
  ended s (s.wrote t p (keyReq k d) i)

/-! ### What a state keeps -/

/-- No context is DRAINING with nothing in progress (R408). -/
def Settled (s : State) : Prop := ∀ c, c < 1024 → s.cstate c = 4 → (s.ctx c).drainBusy = true

/-- A bit of an object is set. -/
def bitSet (s : State) (k b : Nat) : Prop := s.get k / 2 ^ b % 2 = 1

/-- Every scalar object keeps its value but for those of a list, the states of contexts that settle, and the counters of
mirrored bytes and of notices, which the end of any command may move (R408, R446, R467). -/
def KeepsObjects (s t : State) (ks : List Nat) : Prop :=
  ∀ k, k ∉ ks → (∀ c, k ≠ ctxKey c O_CTX_STATE) → k ≠ O_MIRROR_BYTES → k ≠ O_NOTICES_SENT → t.get k = s.get k

/-- Contexts, pools, groups, work, remote operations and memory stay as they are. -/
def KeepsWork (s t : State) : Prop :=
  t.ctxs = s.ctxs ∧ t.pools = s.pools ∧ t.groups = s.groups ∧ t.items = s.items ∧ t.gradHeld = s.gradHeld ∧
    t.remotes = s.remotes ∧ t.queues = s.queues ∧ t.mem = s.mem ∧ t.poisoned = s.poisoned

/-- Every byte of memory outside the `n` bytes from key `q` on reads as before. -/
def KeepsMemoryBut (s t : State) (q n : Nat) : Prop :=
  ∀ a, ¬ (q ≤ a ∧ a < q + n) → memByte t.mem a = memByte s.mem a

/-- A dispatch record that lands: the receiver takes it, its part runs, and its source is neither closed nor complete
(R134, R148). -/
def Lands (s : State) (r : Record) : Prop :=
  s.takes r.hdr.srcCtx r.hdr.srcNode = true ∧
    ∃ p, ((s.ensurePart r.hdr.srcCtx r.hdr.tag (recKind r.hdr == 1)).ctx r.hdr.srcCtx).part r.hdr.tag (recKind r.hdr == 1)
        = some p ∧
      p.past = false ∧ (p.flow r.hdr.srcNode).closed = false ∧ (p.flow r.hdr.srcNode).complete = false

/-- A RELAY record that its relay takes: the source's flow has not ended there (R129, R148). -/
def Relays (s : State) (r : Record) : Prop :=
  s.takes r.hdr.srcCtx r.hdr.srcNode = true ∧
    (((s.ensurePart r.hdr.srcCtx r.hdr.tag (recKind r.hdr == 1)).ctx r.hdr.srcCtx).relayFlow r.hdr.tag
      (recKind r.hdr == 1) r.hdr.srcNode).done = false

/-- An end-of-send marker without RELAY that counts: its part runs, its source is not closed and has sent no marker before
(R134, R135). -/
def MarkerCounts (s : State) (m : Marker) : Prop :=
  s.takes m.srcCtx m.srcNode = true ∧ m.flags / 4 % 2 = 0 ∧
    ∃ p, ((s.ensurePart m.srcCtx m.tag (m.flags / 8 % 4 == 1)).ctx m.srcCtx).part m.tag (m.flags / 8 % 4 == 1) = some p ∧
      p.past = false ∧ (p.flow m.srcNode).closed = false ∧ (p.flow m.srcNode).marker = none

/-- The copies that a return record may answer: those of its token in the ledger of the window that its tag names. -/
def expected (r : Record) (w : Window) (k : CopyRef) : Option LedgerCopy :=
  (((w.ledger.bind fun l => l.toks[r.hdr.token]?).map (·.copies)).getD []).find? fun v =>
    (if recKind r.hdr == 3 then copyBack v else copySent v) && v.expert == k.expert && v.node % 64 == k.slot

/-- A return record that CB tests against an open window (R216): its token and copy entry name answer `e` of window `w`. -/
def Answers (s : State) (r : Record) (w : Window) (e : LedgerCopy) : Prop :=
  2 ≤ recKind r.hdr ∧ r.hdr.srcNode = s.nodeOf (tagCtx r.hdr.tag) ∧ r.hdr.srcCtx = tagCtx r.hdr.tag ∧
    (s.ctx (tagCtx r.hdr.tag)).findWin r.hdr.tag (recKind r.hdr == 3) = some w ∧ w.isOpen = true ∧
    w.deadlineDue s.beat = false ∧ ∃ k, r.hdr.copies.head? = some k ∧ expected r w k = some e

/-- A return record that fails a test of R216: it is no return, or its header does not name the context of its tag at this
node, or no copy of its open window answers to it. -/
def Unmatched (s : State) (r : Record) : Prop :=
  recKind r.hdr < 2 ∨ r.hdr.srcNode ≠ s.nodeOf (tagCtx r.hdr.tag) ∨ r.hdr.srcCtx ≠ tagCtx r.hdr.tag ∨
    ∃ w, (s.ctx (tagCtx r.hdr.tag)).findWin r.hdr.tag (recKind r.hdr == 3) = some w ∧ w.isOpen = true ∧
      w.deadlineDue s.beat = false ∧ ∀ k, r.hdr.copies.head? = some k → expected r w k = none

end Sys2Proof
end

