-- ==== Sys2Proof/Certificates/Slice0/Obligations.lean ====
section
/-! DEFINITION. The statements for the provers. -/

open Sys2Proof Sys2Proof.Machine

/-! ### The queue -/

/-- A step takes the command in front and runs it on the state with the queue's rest. -/
def Obligations.StepRunsFrontCommand : Prop :=
  ∀ (s : State) (c : Instr) (rest : List Instr), s.pending = c :: rest → step s = exec c { s with pending := rest }

/-- On an empty queue the block idles: the model's own choice (assumption log entry 1). -/
def Obligations.StepIdlesOnEmptyQueue : Prop := ∀ s : State, s.pending = [] → step s = .next s

/-- Every command, in every state, answers a next state whose queue is the one it was given: no command faults and none is
refused. -/
def Obligations.EveryCommandAnswersNextState : Prop :=
  ∀ (i : Instr) (s : State), ∃ t, exec i s = .next t ∧ t.pending = s.pending

/-! ### Where each command completes: the commands of a ring -/

/-- The sequencer's own commands, each in front of a ring with every check passed (R396, R403 to R406, R252, R255, R265). -/
def Obligations.SequencerCommandsComplete : Prop :=
  (∀ s c i d, AtFront s c i d 0x00 (bareChecks s c d) →
    exec (.nop c) s = .next (ended s ((s.accept c i d).endDesc c i 0))) ∧
  (∀ s c i d, AtFront s c i d 0x35 (bareChecks s c d) →
    exec (.fence c) s = .next (ended s ((s.accept c i d).hold c (.fence i (s.accept c i d).nextId)))) ∧
  (∀ s c i d, AtFront s c i d 0x31 (waitChecks s c d) → fld d 24 1 = 0 →
    exec (.waitBeatAbsolute c) s
      = .next (ended s ((s.accept c i d).hold c (.waitBeat i ((s.accept c i d).waitTarget d))))) ∧
  (∀ s c i d, AtFront s c i d 0x31 (waitChecks s c d) → fld d 24 1 = 1 →
    exec (.waitBeatRelative c) s
      = .next (ended s ((s.accept c i d).hold c (.waitBeat i ((s.accept c i d).waitTarget d))))) ∧
  (∀ s c i d, AtFront s c i d 0x33 (loopChecks s c i d) → fld d 24 2 ≤ idxDiff (s.ctx c).ring.producer i →
    (s.ctx c).writing = false → s.isPoisoned (fld d 16 8) 4 = false →
    exec (.loopMem c) s
      = .next (ended s (enterLoop (s.accept c i d) c i (fld d 24 2) (s.rdNat (fld d 16 8) 4)))) ∧
  (∀ s c i d l, AtFront s c i d 0x34 (endLoopChecks s c i d) → (s.ctx c).ring.loops.head? = some l →
    exec (.endLoop c) s = .next (ended s (endIteration (s.accept c i d) c i l))) ∧
  (∀ s c i d w, AtFront s c i d 0x40 (cancelChecks s c d) →
    ((s.accept c i d).ctx c).findOpen (fld d 16 4) = some w → w.deadlineDue (s.accept c i d).beat = false →
    exec (.cancelBatch c) s = .next (ended s (((s.accept c i d).abandon c w 0x26).endDesc c i 0))) ∧
  (∀ s c i d, AtFront s c i d 0x30 (markChecks s c d) →
    exec (.stepMark c) s
      = .next (ended s ((((s.accept c i d).modRing c fun r =>
            { r with step := fld d 16 8, stepped := true, afterLaunchAt := none }).modCtx c fun x =>
            { x with mbCounts := x.mbCounts.filter fun p => p.1 != fld d 16 8 }).hold c
          (.stepMark i (fld d 16 8)
            ((s.ctx c).ring.afterLaunchAt.getD
              ((((s.accept c i d).modRing c fun r =>
                { r with step := fld d 16 8, stepped := true, afterLaunchAt := none }).modCtx c fun x =>
                { x with mbCounts := x.mbCounts.filter fun p => p.1 != fld d 16 8 }).beat + 1))
            (fld d 24 1 % 2 == 1))))) ∧
  (∀ s c i d, AtFront s c i d 0x32 (launchChecks s c i d) → (s.accept c i d).beat < fld d 16 8 →
    exec (.launchAt c) s = .next (ended s ((s.accept c i d).hold c (.launchAt i (fld d 16 8) false))))

/-- Layer commands and GROUPED_OP in front of a ring with every check passed (R164, R397, R398), and one that the window
limit held (R142). -/
def Obligations.LayerCommandsComplete : Prop :=
  (∀ s c i d, AtFront s c i d 0x01 (s.fwdChecks c d) → s.atWindowLimit c = false →
    exec (.layerFwd c) s = .next (ended s (runLayerFwd (s.accept c i d) c i d none))) ∧
  (∀ s c i d, AtFront s c i d 0x02 (s.bwdChecks c d) → s.atWindowLimit c = false →
    exec (.layerBwd c) s = .next (ended s (runLayerBwd (s.accept c i d) c i d none))) ∧
  (∀ s c i d, AtFront s c i d 0x03 (groupedChecks s c d) →
    exec (.groupedOp c) s
      = .next (ended s (runGrouped (s.accept c i d) c i (groupTable (s.ctx c) d) (fld d 24 2) (fld d 32 8)))) ∧
  (∀ s c i j d, (s.ctx c).ring.limited = some i → s.atWindowLimit c = false →
    AtFront (s.modRing c fun r => r.unhold i) c j d 0x01 ((s.modRing c fun r => r.unhold i).fwdChecks c d) →
    (s.modRing c fun r => r.unhold i).atWindowLimit c = false →
    exec (.heldCommandIssue c) s
      = .next (ended s (runLayerFwd ((s.modRing c fun r => r.unhold i).accept c j d) c j d none))) ∧
  (∀ s c i j d, (s.ctx c).ring.limited = some i → s.atWindowLimit c = false →
    AtFront (s.modRing c fun r => r.unhold i) c j d 0x02 ((s.modRing c fun r => r.unhold i).bwdChecks c d) →
    (s.modRing c fun r => r.unhold i).atWindowLimit c = false →
    exec (.heldCommandIssue c) s
      = .next (ended s (runLayerBwd ((s.modRing c fun r => r.unhold i).accept c j d) c j d none)))

/-- The copies of the tensor mover and of the fabric in front of a ring with every check passed (R294 to R298, R339), and
the end of one. -/
def Obligations.CopyCommandsComplete : Prop :=
  (∀ s c i d, AtFront s c i d 0x10 (copyModeChecks s c d) → fld d 22 1 = 0 →
    exec (.copy c) s
      = .next (ended s (runCopyPlain (s.accept c i d) c i (s.descOf c (fld d 16 2)) (s.descOf c (fld d 18 2))))) ∧
  (∀ s c i d, AtFront s c i d 0x10 (copyModeChecks s c d) → fld d 22 1 = 1 →
    exec (.copyGather c) s
      = .next (ended s (runCopyBlocks (s.accept c i d) c i d (s.descOf c (fld d 16 2)) (s.descOf c (fld d 18 2))))) ∧
  (∀ s c i d, AtFront s c i d 0x10 (copyModeChecks s c d) → fld d 22 1 = 2 →
    exec (.copyScatter c) s
      = .next (ended s (runCopyBlocks (s.accept c i d) c i d (s.descOf c (fld d 16 2)) (s.descOf c (fld d 18 2))))) ∧
  (∀ s c i d, AtFront s c i d 0x10 (copyModeChecks s c d) → fld d 22 1 = 3 →
    exec (.copyExpand1d c) s
      = .next (ended s (runExpand1 (s.accept c i d) c i d (s.descOf c (fld d 16 2)) (s.descOf c (fld d 18 2))))) ∧
  (∀ s c i d, AtFront s c i d 0x10 (copyModeChecks s c d) → fld d 22 1 = 4 →
    exec (.copyExpand2d c) s
      = .next (ended s (runExpand2 (s.accept c i d) c i d (s.descOf c (fld d 16 2)) (s.descOf c (fld d 18 2))))) ∧
  (∀ s c i d, AtFront s c i d 0x11 (layoutChecks s c d) →
    exec (.layout c) s
      = .next (ended s (runCopyPlain (s.accept c i d) c i (s.descOf c (fld d 16 2)) (s.descOf c (fld d 18 2))))) ∧
  (∀ s c i d, AtFront s c i d 0x12 (fabCopyChecks s c d) →
    exec (.fabricCopy c) s = .next (ended s (runFabricCopy (s.accept c i d) c i d))) ∧
  (∀ s c idx a, s.coreUp = true → a ∈ (s.ctx c).ring.active → a.idx = idx → (a.op = 0x10 ∨ a.op = 0x11) →
    exec (.tensorMoverDone c idx) s = .next (ended s (s.endDesc c idx 0)))

/-- The five collectives in front of a ring with every check passed and none in progress, and the messages between their
members (R353 to R363). -/
def Obligations.CollectivesComplete : Prop :=
  (∀ s c i d, AtFront s c i d 0x20 (s.collChecks c d) → (s.ctx c).coll = none → fld d 18 1 = 1 →
    exec (.allReduce c) s = .next (ended s (runCollective (s.accept c i d) c i d))) ∧
  (∀ s c i d, AtFront s c i d 0x20 (s.collChecks c d) → (s.ctx c).coll = none → fld d 18 1 = 2 →
    exec (.reduceScatter c) s = .next (ended s (runCollective (s.accept c i d) c i d))) ∧
  (∀ s c i d, AtFront s c i d 0x20 (s.collChecks c d) → (s.ctx c).coll = none → fld d 18 1 = 3 →
    exec (.allGather c) s = .next (ended s (runCollective (s.accept c i d) c i d))) ∧
  (∀ s c i d, AtFront s c i d 0x20 (s.collChecks c d) → (s.ctx c).coll = none → fld d 18 1 = 4 →
    exec (.broadcast c) s = .next (ended s (runCollective (s.accept c i d) c i d))) ∧
  (∀ s c i d, AtFront s c i d 0x20 (s.collChecks c d) → (s.ctx c).coll = none → fld d 18 1 = 5 →
    exec (.barrier c) s = .next (ended s (runCollective (s.accept c i d) c i d))) ∧
  (∀ s c k own, s.coreUp = true → (s.ctx c).coll = some k → k.caramel = false → k.phase = 0 →
    (∀ w ∈ (s.ctx c).windows, w.isOpen = false) → s.waits c (2 ^ 33) 7 = false → s.collSource c k = (own, false) →
    exec (.collectiveEntry c) s = .next (ended s (s.collEnter c k own))) ∧
  (∀ s c rank entry k, s.coreUp = true → s.cstate c ≠ 0 → (s.ctx c).coll = some k → k.phase = 1 →
    rank ≠ s.collRank k → rank < (s.collNodes k).length → (∀ e ∈ k.entries, e.1 ≠ rank) →
    exec (.collEntryMessage c rank entry) s
      = .next (ended s ((s.setColl c (some { k with entries := k.entries ++ [(rank, entry)] })).collEntries c))) ∧
  (∀ s c rank data k, s.coreUp = true → (s.ctx c).coll = some k → (k.phase = 1 ∨ k.phase = 2) →
    rank ∈ s.collNeeds k → data.length = k.inLen → (∀ p ∈ k.data, p.1 ≠ rank) →
    exec (.collData c rank data) s
      = .next (ended s (((s.setColl c (some { k with data := k.data ++ [(rank, data)] })).collCheck c).collAllDone c))) ∧
  (∀ s c rank k, s.coreUp = true → (s.ctx c).coll = some k → s.collRank k = 0 → (k.phase = 2 ∨ k.phase = 3) →
    rank < (s.collNodes k).length → rank ≠ 0 → rank ∉ k.dones →
    exec (.collDoneReport c rank) s
      = .next (ended s ((s.setColl c (some { k with dones := rank :: k.dones })).collAllDone c))) ∧
  (∀ s c k, s.coreUp = true → (s.ctx c).coll = some k → k.phase = 3 → s.collRank k ≠ 0 →
    exec (.collectiveComplete c) s = .next (ended s (s.collFinish c k))) ∧
  (∀ s c rank code seq candidate k, s.coreUp = true → (s.ctx c).coll = some k → k.seq = seq → k.phase ≠ 4 →
    exec (.abortNotice c rank code seq candidate) s
      = .next (ended s ((s.setColl c (some { k with notices := k.notices ++ [(rank, code, candidate)] })).collAbort c code
          ((s.setColl c (some { k with notices := k.notices ++ [(rank, code, candidate)] })).collCandidate k)))) ∧
  (∀ s c k, s.coreUp = true → (s.ctx c).coll = some k → 1 ≤ k.phase → k.phase ≤ 3 →
    k.entered + s.cget c O_COLL_TIMEOUT_BEATS ≤ s.beat →
    exec (.collTimeout c) s = .next (ended s (s.collAbort c 0x44 (s.collCandidate k)))) ∧
  (∀ s c k, s.coreUp = true → (s.ctx c).coll = some k → k.phase = 4 → k.abortBeat + 64 ≤ s.beat →
    exec (.abortSettle c) s = .next (ended s (abortSettles s c k)))

/-- Weight commands in front of a ring with every check passed (R366 to R377), the end of an intake and the effect of a
switch. -/
def Obligations.WeightCommandsComplete : Prop :=
  (∀ s c i d src src2, AtFront s c i d 0x21 (intakeChecks s c d) → fld d 49 1 ≠ 3 → fld d 48 1 = 0 →
    exec (.weightIntakeGateUp c src src2) s = .next (ended s (runIntake (s.accept c i d) c i d src src2))) ∧
  (∀ s c i d src, AtFront s c i d 0x21 (intakeChecks s c d) → fld d 49 1 ≠ 3 → fld d 48 1 = 1 →
    exec (.weightIntakeDown c src) s = .next (ended s (runIntake (s.accept c i d) c i d src []))) ∧
  (∀ s c i d src, AtFront s c i d 0x21 (intakeChecks s c d) → fld d 49 1 ≠ 3 → fld d 48 1 = 2 →
    exec (.weightIntakeRouter c src) s = .next (ended s (runIntake (s.accept c i d) c i d src []))) ∧
  (∀ s c i d src, AtFront s c i d 0x21 (intakeChecks s c d) → fld d 49 1 = 3 →
    exec (.weightIntakePack c src) s = .next (ended s (runIntake (s.accept c i d) c i d src []))) ∧
  (∀ s c idx k, s.coreUp = true → (s.ctx c).intakes.find? (·.idx == idx) = some k → k.waiting = false →
    exec (.intakeComplete c idx) s = .next (ended s (finishIntake s c k))) ∧
  (∀ s c i d, AtFront s c i d 0x22 (switchChecks s c d) →
    exec (.slotSwitch c) s
      = .next (ended s ((s.accept c i d).modCtx c fun x =>
          { x with switch := some ⟨i, fld d 16 4, (s.accept c i d).beat + 1, false, 0⟩, switchSeen := false }))) ∧
  (∀ s c w, s.coreUp = true → (s.ctx c).switch = some w → w.effective = false → w.beat ≤ s.beat →
    s.dueBelow 5 w.beat = false → exec (.slotSwitchEffect c) s = .next (ended s (s.switchEffect c w))) ∧
  (∀ s c i d p, AtFront s c i d 0x23 (exportChecks s c d) → (s.accept c i d).gradBuffer c d = some p →
    exec (.gradExport c) s = .next (ended s ((s.accept c i d).hold c (.gradExport i d))))

/-- CHECKPOINT and DIGEST_SNAP in front of a ring, and the events of a checkpoint (R265, R498 to R504). -/
def Obligations.CheckpointCommandsComplete : Prop :=
  (∀ s c i d, AtFront s c i d 0x41 (s.ckChecks c d) →
    exec (.checkpoint c) s
      = .next (ended s (({ s.accept c i d with
          ckpt := some ⟨c, i, fld d 24 1, fld d 16 8, fld d 25 1, fld d 28 4, fld d 32 8, fld d 40 8, 1, 0, 0, [], []⟩
          }.put O_CKPT_PHASE 1).hold c (.checkpoint i (fld d 16 8))))) ∧
  (∀ s c i b j, s.coreUp = true → (s.ctx c).ring.cutting = some (i, b) → s.ckpt = some j → j.ctx = c → j.idx = i →
    b ≤ s.beat → s.dueBelow 3 b = false → (s.ctx c).cutBusy = false → (s.cstate c = 2 ∨ s.cstate c = 3 ∨ s.cstate c = 5) →
    exec (.checkpointCut c) s = .next (ended s (s.takeCut c j))) ∧
  (∀ s c j, s.coreUp = true → s.ckpt = some j → j.ctx = c → j.phase = 2 →
    ∃ t, exec (.checkpointStage1End c) s = .next t ∧ t.get O_CKPT_PHASE = 3 ∧
      ∃ k, t.ckpt = some k ∧ k.phase = 3 ∧ k.ctx = c ∧ k.slot = j.slot) ∧
  (∀ s c j ch rest src dst n, s.coreUp = true → s.ckpt = some j → j.ctx = c → j.phase = 3 → j.chunks = ch :: rest →
    j.chunkSpan ch = some (src, dst, n) → s.isPoisoned src n = false →
    exec (.backgroundChunkCopy c) s = .next (ended s (s.copyChunk j ch))) ∧
  (∀ s c j, s.coreUp = true → s.ckpt = some j → j.ctx = c → j.phase = 3 → j.chunks = [] → j.flags % 2 = 0 →
    exec (.checkpointSeal c) s
      = .next (ended s (({ s.sealSlot j with ckpt := none }.put O_CKPT_PHASE 0).endCkptDesc j 0))) ∧
  (∀ s c j, s.coreUp = true → s.ckpt = some j → j.ctx = c → j.phase = 4 →
    j.flags / 4 % 2 = 1 → s.hostMods ≠ [] → (∀ sh ∈ j.shards, s.isPoisoned sh.place sh.length = false) →
    exec (.checkpointDrain c true) s
      = .next (ended s (({ s.drainImage j (drainPlaces manifestArea (s.ckEntries j)).2
            (drainPlaces manifestArea (s.ckEntries j)).1 with ckpt := none }.put O_CKPT_PHASE 0).endCkptDesc j 0))) ∧
  (∀ s slot j, s.coreUp = true → s.ckpt = some j → j.slot = slot → j.phase < 4 →
    exec (.checkpointAbort slot) s = .next (ended s (s.stopCkpt j false))) ∧
  (∀ s j m, s.coreUp = true → s.restoring = some j → j.verify = true → readManifest (s.restoreRead j) = some m →
    exec .slotVerifyEnd s
      = .next (ended s (s.restoreEnds (if m.2.all fun e => shardDigest (s.shardBytes j e) == e.digest then 0 else 0xCA)))) ∧
  (∀ s j m u, s.coreUp = true → s.restoring = some j → j.verify = false → readManifest (s.restoreRead j) = some m →
    s.cstate j.ctx = 1 → s.restoreShards j m.2 = (u, none) →
    (m.2.all fun e => e.kind != 0 || shardDigest (u.shardBytes j e) == e.digest) = true →
    exec .restoreFinish s = .next (ended s ((u.restoreContext j.ctx (u.restoreRecord j m.2)).restoreEnds 0))) ∧
  (∀ s c i d, AtFront s c i d 0x42 (snapChecks s c d) →
    exec (.digestSnap c) s
      = .next (ended s ((s.accept c i d).modRing c fun r =>
          { r with pendingSnaps := r.pendingSnaps ++
              [(i, if fld d 16 8 ≤ (s.accept c i d).beat then (s.accept c i d).beat + 1 else fld d 16 8)] }))) ∧
  (∀ s c i b, s.coreUp = true → ((s.ctx c).ring.pendingSnaps.find? fun p => p.2 ≤ s.beat) = some (i, b) →
    s.dueBelow 1 b = false →
    exec (.digestSnapCapture c) s
      = .next (ended s (((s.modRing c fun r => { r with pendingSnaps := r.pendingSnaps.erase (i, b) }).snap c).endDesc c i
          0)))

/-! ### Where each command completes: the events of a ring and of windows -/

/-- The releases of what holds a ring, and its poll (R254, R255, R390, R403, R404, R253). -/
def Obligations.SequencerEventsComplete : Prop :=
  (∀ s c i b, s.coreUp = true → (s.ctx c).ring.waiting = some (i, b) → b ≤ s.beat → s.dueBelow 7 b = false →
    exec (.waitBeatRelease c) s = .next (ended s (s.endDesc c i 0))) ∧
  (∀ s c i u, s.coreUp = true → (s.ctx c).ring.fenced = some (i, u) →
    (∀ a ∈ (s.ctx c).ring.active, a.idx = i ∨ ∃ l ∈ (s.ctx c).ring.loops, l.first = a.idx) →
    (∀ q ∈ s.remotes, q.req.srcCtx = c → opWrites q.req.op = true → u ≤ q.req.id) →
    exec (.fenceRelease c) s
      = .next (ended s ((s.modRing c fun r => { r with lostWrite := r.lostWrite.filter fun k => !(k < u) }).endDesc c i
          (if (s.ctx c).ring.lostWrite.any (· < u) then 0x51 else 0)))) ∧
  (∀ s c i n b, s.coreUp = true → (s.ctx c).ring.marking = some (i, n, b) → b ≤ s.beat → s.dueBelow 4 b = false →
    exec (.stepMarkEffect c) s = .next (ended s ((s.stepMarkEffect c n).endDesc c i 0))) ∧
  (∀ s c i b, s.coreUp = true → (s.ctx c).ring.launching = some (i, b) → b ≤ s.beat → s.dueBelow 4 b = false →
    exec (.launchAtRelease c) s
      = .next (ended s (((s.endDesc c i 0).markFirst c s.beat).runFrom c s.beat (s.cget c O_RING_ENTRIES)))) ∧
  (∀ s c tick, s.coreUp = true → s.coreServes c = true → polledState (s.cstate c) = true → tick < 256 →
    (tick + 256 - c % (s.ctx c).pollTicks) % (s.ctx c).pollTicks = 0 → (tick = 0 → s.dueBelow 8 s.beat = false) →
    exec (.ringPoll c tick) s = .next (ended s (pollRing (s.cbump c O_POLL_DEFERRED 0) c)))

/-- A window from its launch to the delivery of its output (R21, R57, R60, R66, R86, R88, R97, R105, R228, R229, R254). -/
def Obligations.WindowStagesComplete : Prop :=
  (∀ s c w, s.coreUp = true → s.cstate c = 3 → ((s.ctx c).windows.find? fun w => w.launchDue s.beat) = some w →
    s.dueBelow 6 w.dueBeat = false →
    exec (.windowLaunch c w.tag) s = .next (ended s (s.launchNow c w))) ∧
  (∀ s c tag w, s.coreUp = true → s.cstate c = 3 →
    ((s.ctx c).windows.find? fun w => w.tag == tag && w.phase == .issued && w.deferred) = some w →
    w.dueBeat < s.beat → s.beat < w.deadline → s.dueBelow 6 s.beat = false → s.anyBlack c = false →
    exec (.admissionRetry c tag) s = .next (ended s (s.launch c w))) ∧
  (∀ s c tag rows w m e, (s.ctx c).inPhase tag .launched = some w → s.live w = true → w.bwd = false →
    s.findEntry c w.slot w.layerSlot 0xFFFF = some (m, e) → s.waits c w.holder 0 = false →
    s.hostNeeds c w e.cold ≤ rows.length → (s.hostNeeds c w e.cold = 0 ∨ s.hostMods ≠ []) →
    (w.hostmap % 2 = 0 → s.isPoisoned w.inAddr (w.tokens * 2 * s.hidden c) = false) →
    (w.hostmap / 8 % 2 = 0 → s.isPoisoned w.scoreAddr (s.scoreLen c w) = false) → (s.ctx c).collHolds = false →
    (e.cold = false → s.isPoisoned e.gu (s.cget c O_EXPERT_COUNT * 2 * s.hidden c) = false) →
    exec (.score c tag rows) s = .next (ended s (scoreForward s c w e rows))) ∧
  (∀ s c tag rows w, (s.ctx c).inPhase tag .launched = some w → s.live w = true → w.bwd = true →
    s.waits c w.holder 0 = false → s.hostNeeds c w false ≤ rows.length → (s.hostNeeds c w false = 0 ∨ s.hostMods ≠ []) →
    (w.hostmap % 2 = 0 → s.isPoisoned w.inAddr (w.tokens * 2 * s.hidden c) = false) →
    (w.hostmap / 8 % 2 = 0 → s.isPoisoned w.scoreAddr (s.scoreLen c w) = false) →
    exec (.score c tag rows) s = .next (ended s (landBackward s c w rows))) ∧
  (∀ s c tag mask w, (s.ctx c).inPhase tag .scored = some w → s.live w = true → s.waits c w.holder 5 = false →
    s.caramelWaits c w = false → w.hostmap / 8 % 2 = 0 → w.maskAddr = 0 →
    exec (.select c tag mask) s = .next (ended s (selectWindow s c w []))) ∧
  (∀ s c tag mask w len, (s.ctx c).inPhase tag .scored = some w → s.live w = true → s.waits c w.holder 5 = false →
    s.caramelWaits c w = false → w.hostmap / 8 % 2 = 0 → w.maskAddr ≠ 0 →
    len = w.tokens * maskRowLen (s.cget c O_EXPERT_COUNT) → s.isPoisoned w.maskAddr len = false →
    exec (.select c tag mask) s = .next (ended s (selectWindow s c w (s.rd w.maskAddr len)))) ∧
  (∀ s c tag mask w len, (s.ctx c).inPhase tag .scored = some w → s.live w = true → s.waits c w.holder 5 = false →
    s.caramelWaits c w = false → w.hostmap / 8 % 2 = 1 → s.hostMods ≠ [] →
    len = w.tokens * maskRowLen (s.cget c O_EXPERT_COUNT) → len ≤ mask.length →
    exec (.select c tag mask) s
      = .next (ended s (selectWindow (s.haCount false w.maskAddr len) c w (mask.take len)))) ∧
  (∀ s c tag w q, (s.ctx c).inPhase tag .selected = some w → w.quant = some q → s.live w = true →
    s.waits c w.holder 1 = false → s.waits c w.holder 8 = false →
    exec (.sortAndPack c tag) s = .next (ended s (sortWindow s c w q))) ∧
  (∀ s c tag w, (s.ctx c).inPhase tag .sorted = some w → s.live w = true → s.waits c w.holder 9 = false →
    exec (.send c tag) s = .next (ended s (sendWindow s c w))) ∧
  (∀ s c tag rows w, s.coreUp = true →
    ((s.ctx c).windows.find? fun w => w.tag == tag && w.deadlineDue s.beat) = some w → s.dueBelow 2 w.deadline = false →
    (s.det c ≠ 2 ∨ w.missing (s.cget c O_TOP_K) = 0) → w.unformed ≠ [] → s.needsRows c w = false →
    (w.rows = [] → s.cget c O_RESIDUAL_ADD = 1 → w.hostmap % 2 = 0 →
      s.isPoisoned w.inAddr (w.tokens * 2 * s.hidden c) = false) →
    exec (.deadlineBeat c tag rows) s = .next (ended s (s.closeDeadline c (s.landRows c w rows)))) ∧
  (∀ s c tag rows w, s.coreUp = true →
    ((s.ctx c).windows.find? fun w => w.tag == tag && w.deadlineDue s.beat) = some w → s.dueBelow 2 w.deadline = false →
    (s.det c ≠ 2 ∨ w.missing (s.cget c O_TOP_K) = 0) → w.unformed ≠ [] → s.needsRows c w = true →
    w.tokens * 2 * s.hidden c ≤ rows.length → w.hostmap % 2 = 1 →
    exec (.deadlineBeat c tag rows) s
      = .next (ended s ((s.haCount false w.inAddr (w.tokens * 2 * s.hidden c)).closeDeadline c
          ((s.haCount false w.inAddr (w.tokens * 2 * s.hidden c)).landRows c w rows)))) ∧
  (∀ s c tag rows w, s.coreUp = true →
    ((s.ctx c).windows.find? fun w => w.tag == tag && w.deadlineDue s.beat) = some w → s.dueBelow 2 w.deadline = false →
    (s.det c ≠ 2 ∨ w.missing (s.cget c O_TOP_K) = 0) → w.unformed = [] →
    exec (.deadlineBeat c tag rows) s = .next (ended s (s.closeDone c w))) ∧
  (∀ s c tag rows w, s.coreUp = true →
    ((s.ctx c).windows.find? fun w => w.tag == tag && w.deadlineDue s.beat) = some w → s.dueBelow 2 w.deadline = false →
    s.det c = 2 → w.missing (s.cget c O_TOP_K) ≠ 0 →
    exec (.deadlineBeat c tag rows) s = .next (ended s (s.endStep c 0x33 (some w)))) ∧
  (∀ s c tag w, s.coreUp = true →
    ((s.ctx c).windows.find? fun w => w.tag == tag && w.phase == .closed && !w.unformed.isEmpty) = some w →
    s.waits c w.holder 4 = false → exec (.combineTail c tag) s = .next (ended s (combineTail s c w))) ∧
  (∀ s c tag w, s.coreUp = true →
    ((s.ctx c).windows.find? fun w => w.tag == tag && w.phase == .closed && w.unformed.isEmpty) = some w →
    s.hostMods ≠ [] → exec (.windowOutputDelivered c tag) s = .next (ended s (outputDelivered s c w))) ∧
  (∀ s c k, s.coreUp = true → ((s.ctx c).counts.find? fun k => !k.published) = some k →
    (s.ctx c).countsComplete k = true →
    exec (.counterPublication c) s = .next (ended s (publishCounts s c k))) ∧
  (∀ s c m rest k, s.coreUp = true → (s.ctx c).caramelDue = m :: rest →
    (s.ctx c).counts.find? (·.mark == m) = some k → (s.ctx c).countsComplete k = true →
    s.cget c O_CARAMEL_STATE = 1 → s.cget c O_SCOPE = 0 →
    exec (.caramelUpdate c) s = .next (ended s (s.caramelMake c k.requested))) ∧
  (∀ s c set cold g, s.coreUp = true → (s.ctx c).stages[set]? = some g → g.full = false → s.coldLen c g ≤ cold.length →
    (s.coldLen c g = 0 ∨ s.hostMods ≠ []) → s.stageBad c g = false →
    exec (.stagingFillDone c set cold) s = .next (ended s (fillStage s c set cold g))) ∧
  (∀ s c tag k, s.coreUp = true → k ∈ (s.ctx c).crumbs → k.tag = tag → k.beat + s.cget c O_CRUMB_HOLD_BEATS ≤ s.beat →
    exec (.crumbExpiry c tag) s = .next (ended s (s.crumbLeave c tag)))

/-! ### Where each command completes: messages between engines -/

/-- Messages between the engines of an exchange group, and the hand-out of buffers: a grant, credits, records and markers
that count, refusals, close notices, a horizon and a matched return (R129 to R152, R216, R286). -/
def Obligations.ExchangeMessagesComplete : Prop :=
  (∀ s p w rest, s.coreUp = true → (s.pool p).waits = w :: rest → s.pget p O_POOL_STATE = 2 → s.pget p O_FREE_NOW ≠ 0 →
    exec (.bufferGrant p) s = .next (ended s ((grantOne s p).afterGrant w.ctx))) ∧
  (∀ s c node flits, s.coreUp = true → s.cstate c ≠ 0 →
    exec (.landingCreditGrant c node flits) s = .next (ended s (takeGrant s c node flits))) ∧
  (∀ s r sender, s.coreUp = true → recKind r.hdr < 2 → recFlag r.hdr 2 = false → Lands s r →
    exec (.dispatchRecord r sender) s = .next (ended s (takeRecord s r sender))) ∧
  (∀ s r sender, s.coreUp = true → recKind r.hdr < 2 → recFlag r.hdr 2 = true → Relays s r →
    exec (.relayRecord r sender) s = .next (ended s (takeRelay s r sender))) ∧
  (∀ s c tag src, s.coreUp = true → s.working c = true →
    (((s.ctx c).relayFlow tag false src).marker.isSome = true ∨ ((s.ctx c).relayFlow tag true src).marker.isSome = true) →
    exec (.forwardedMarker c tag src) s
      = .next (ended s ((s.forwardMarkers c tag false src).forwardMarkers c tag true src))) ∧
  (∀ s m, s.coreUp = true → MarkerCounts s m →
    exec (.endOfSendMarkerRx m) s = .next (ended s (takeMarker s m))) ∧
  (∀ s c tag node, s.coreUp = true → s.cstate c ≠ 0 →
    exec (.remoteRefused c tag node) s = .next (ended s (takeRefusal s c tag node))) ∧
  (∀ s c tag src, s.coreUp = true → s.cstate c ≠ 0 → src ∈ s.members c →
    exec (.closeNotice c tag src true) s = .next (ended s (closeRelay s c tag src))) ∧
  (∀ s c tag src, s.coreUp = true → s.cstate c ≠ 0 → src ∈ s.members c →
    exec (.closeNotice c tag src false) s = .next (ended s (closeSource s c tag src))) ∧
  (∀ s c tag, s.coreUp = true → (∃ p ∈ (s.ctx c).parts, p.tag = tag ∧ p.past = false ∧ p.horizon ≤ s.beat) →
    exec (.horizon c tag) s
      = .next (ended s (((s.ctx c).parts.filter fun p => p.tag == tag && !p.past && p.horizon ≤ s.beat).foldl
          (fun s p => s.horizonEnd c p) s))) ∧
  (∀ s r w e, s.coreUp = true → Answers s r w e → w.answered r.hdr.token e = false →
    exec (.returnRecord r) s = .next (ended s (takeReturn s r)))

/-- Work items: taken by a tile, delivered by it, and the ordered addition of weight gradients (R160, R172, R185, R461). -/
def Obligations.WorkItemsComplete : Prop :=
  (∀ s tile it, s.coreUp = true → tile < 320 → s.tileActive tile = true →
    (s.items.filter fun i => i.tile == some tile).length < 2 → lowestItem (s.items.filter (s.mayTake tile)) = some it →
    s.itemBad it = false → exec (.workItemStart tile) s = .next (ended s (s.startItem tile it))) ∧
  (∀ s tile it, s.coreUp = true → (s.items.find? fun i => i.tile == some tile) = some it → s.staleItem tile it = false →
    it.kind ≠ 2 →
    exec (.workItemCommit tile) s
      = .next (ended s
          ((({ s with items := s.items.filter fun (v : Item) => v.id != it.id } : State).countCommit tile it).commitWindow
            it))) ∧
  (∀ s tile it, s.coreUp = true → (s.items.find? fun i => i.tile == some tile) = some it → s.staleItem tile it = false →
    it.kind = 2 →
    exec (.workItemCommit tile) s
      = .next (ended s
          ((({ s with items := s.items.filter fun (v : Item) => v.id != it.id } : State).countCommit tile it).commitGrouped
            it))) ∧
  (∀ s c item g, s.coreUp = true → (s.gradHeld.find? fun g => g.ctx == c && g.id == item) = some g →
    ({ s with gradHeld := s.gradHeld.filter fun v => !(v.ctx == c && v.id == item) } : State).gradTurn c g = true →
    exec (.weightGradAdd c item) s
      = .next (ended s
          (({ s with gradHeld := s.gradHeld.filter fun v => !(v.ctx == c && v.id == item) } : State).addGrad g)))

/-! ### Where each command completes: remote operations -/

/-- Requests at their home: they join the queue of their line, a mergeable add joins the add before it, a chunk is applied,
and the head of a queue is served (R331, R333, R335, R337, R339). -/
def Obligations.RemoteRequestsComplete : Prop :=
  (∀ s r, s.coreUp = true → r.op = .load → s.homeOk r.addr r.size = true →
    exec (.load r) s = .next (ended s (s.joinQueues r false))) ∧
  (∀ s r, s.coreUp = true → r.op = .copyGet → s.homeOk r.addr r.size = true →
    (s.drainSpan r.addr r.size).isPoisoned r.addr r.size = false →
    exec (.load r) s
      = .next (ended s ((s.drainSpan r.addr r.size).emits ((chunkList r.size (leNat (r.data.drop 8))).map fun ch =>
          .remote r.srcNode { r with op := .copyChunk, addr := leNat (r.data.take 8) + ch.1, size := ch.2,
                                     data := (s.drainSpan r.addr r.size).rd (r.addr + ch.1) ch.2 })))) ∧
  (∀ s r, s.coreUp = true → (r.op = .store ∨ r.op = .flaggedStore) → s.homeOk r.addr r.size = true →
    exec (.store r) s = .next (ended s (s.joinQueues r false))) ∧
  (∀ s r, s.coreUp = true → r.op = .min → s.homeOk r.addr r.size = true →
    exec (.min r) s = .next (ended s (s.joinQueues r false))) ∧
  (∀ s r, s.coreUp = true → r.op = .max → s.homeOk r.addr r.size = true →
    exec (.max r) s = .next (ended s (s.joinQueues r false))) ∧
  (∀ s r, s.coreUp = true → r.op = .cas → s.homeOk r.addr r.size = true →
    exec (.cas r) s = .next (ended s (s.joinQueues r false))) ∧
  (∀ s r, s.coreUp = true → r.op = .add → s.homeOk r.addr r.size = true →
    exec (.add r false) s = .next (ended s (s.joinQueues r false))) ∧
  (∀ s r w, s.coreUp = true → r.op = .add → s.homeOk r.addr r.size = true →
    (s.queue (addrKey r.addr / 64)).getLast? = some w → mergeable w r = true →
    ((s.queues.map (·.2)).flatten.filter fun v => !v.merged.isEmpty).length < 1024 →
    exec (.add r true) s
      = .next (ended s (((s.setQueue (addrKey r.addr / 64)
          ((s.queue (addrKey r.addr / 64)).dropLast ++ [{ w with merged := w.merged ++ [r] }])).bump O_ADDS_MERGED 1).hotCount
          (addrKey r.addr / 64) 0 0 1))) ∧
  (∀ s r, s.coreUp = true → r.op = .copyChunk → r.srcNode ≠ s.node → s.homeOk r.addr r.size = true →
    (r.counter ≠ 0 → s.homeOk r.counter 8 = true) →
    exec (.copyChunk r) s = .next (ended s ((s.applyChunk r).respond r 0 []))) ∧
  (∀ s l, s.coreUp = true → s.servable l = true → exec (.lineQueueService l) s = .next (ended s (serveLine s l)))

/-- Operations at their source: issued, answered, ended (R330, R334, R342, R343, R512, R514). -/
def Obligations.RemoteSourceComplete : Prop :=
  (∀ s c a data, s.coreUp = true → c < 1024 → s.cstate c ≠ 0 → sizeOk .flaggedStore a data.length = true →
    addrNode a ≠ s.nodeOf c → (s.ctx c).windowOk a data.length 1 = true →
    exec (.flaggedStore c a data) s = .next (ended s (s.issueRemote c .flaggedStore a data.length data none))) ∧
  (∀ s c id q, s.coreUp = true → (s.remotes.find? fun q => q.req.id == id && q.req.srcCtx == c && q.held) = some q →
    s.writesOpen c id = false →
    exec (.flaggedStoreRelease c id) s
      = .next (ended s (({ s with remotes := s.remotes.filter fun v => v.req.id != id } : State).sendRemote
          { q with held := false, issued := s.beat }))) ∧
  (∀ s id status data q, s.coreUp = true → (s.remotes.find? fun q => q.req.id == id && !q.held) = some q →
    exec (.remoteResponse id status data) s = .next (ended s (endRemote s q status data))) ∧
  (∀ s id q, s.coreUp = true → (s.remotes.find? fun q => q.req.id == id && !q.held) = some q →
    q.issued + s.get O_REMOTE_TIMEOUT ≤ s.beat →
    exec (.remoteTimeout id) s = .next (ended s (s.nodeDies q.node))) ∧
  (∀ s node, s.coreUp = true → node < 2 ^ 15 →
    exec (.deadNodeNotice node) s = .next (ended s (s.nodeDies node))) ∧
  (∀ s id q, s.coreUp = true → (s.remotes.find? fun q => q.req.id == id && !q.held) = some q → q.retried = false →
    s.pathTo q.node = true →
    exec (.routeBlocked id) s
      = .next (ended s ((({ s with remotes := s.remotes.map fun (v : Pending) =>
          if v.req.id == id then { v with retried := true } else v } : State).emit (.remote q.node q.req)).cbump
          q.req.srcCtx O_REROUTED 1))) ∧
  (∀ s m box o data, s.coreUp = true → m < 8 → s.haModules.getD m 0 % 128 ≠ 0 → box < 16 → o + data.length ≤ 4096 →
    0 < data.length →
    exec (.hostApertureAccess m (4096 * box + o) true data.length data) s
      = .next (ended s ((s.bump (unitKey m O_HA_BYTES_IN) data.length).modMailbox (m * 16 + box) fun b =>
          b.hostWrite o data))) ∧
  (∀ s m box o n, s.coreUp = true → m < 8 → s.haModules.getD m 0 % 128 ≠ 0 → box < 16 → o + n ≤ 4096 → 0 < n →
    exec (.hostApertureAccess m (4096 * box + o) false n []) s
      = .next (ended s ((s.bump (unitKey m O_HA_BYTES_OUT) n).emit
          (.hostRead m true (((s.mailbox (m * 16 + box)).image.drop o).take n))))) ∧
  (∀ s m slot o n, s.coreUp = true → m < 8 → s.haModules.getD m 0 % 128 ≠ 0 → slot < 64 → 0 < n → o + n ≤ 2 ^ 32 →
    (s.aperture m slot).flags % 2 = 1 → o + n ≤ (s.aperture m slot).pages * 4096 →
    s.cstate (s.aperture m slot).ctx ≠ 0 →
    exec (.hostApertureAccess m (2 ^ 38 + slot * 2 ^ 32 + o) false n []) s
      = .next (ended s ((s.bump (unitKey m O_HA_BYTES_OUT) n).contextAccess (s.aperture m slot).ctx .load
          ((s.aperture m slot).base + o) n [] (some m))))

/-! ### Where each command completes: links and the beat -/

/-- Links and announcements (R310 to R315, R321 to R329, R342). -/
def Obligations.LinkCommandsComplete : Prop :=
  (∀ s l corrected tag flit, s.coreUp = true → l < 12 → s.linkUp l = true → tagCrc tag = frameCrc tag flit →
    tagCtrl tag = false →
    tagFrameSeq tag = (s.link l).rxNext →
    ∃ t, exec (.frameRx l true corrected tag flit) s = .next t ∧
      (t.link l).rxNext = ((s.link l).rxNext + 1) % 4096 ∧ (t.link l).discarding = false ∧
      t.get (unitKey l O_FRAMES_RX) = (s.get (unitKey l O_FRAMES_RX) + 1) % 2 ^ 64) ∧
  (∀ s l f, s.coreUp = true → l < 12 → s.linkUp l = true → exec (.ctrlFrame l f) s = .next (ended s (takeCtrl s l f))) ∧
  (∀ s a, s.coreUp = true → a ∉ s.announced →
    exec (.bypassAnnouncement a) s = .next (ended s (takeAnnouncement s a))) ∧
  (∀ s node, s.coreUp = true → node < 2 ^ 15 → (node ∈ s.bypassed ∨ s.nodeDead node = true ∨ ∃ m, (node, m) ∈ s.redirects) →
    exec (.returnAnnouncement node) s = .next (ended s (takeReturned s node))) ∧
  (∀ s l lane up, s.coreUp = true → l < 12 → lane < 8 → s.linkUp l = true →
    s.get (unitKey l O_LANES_UP) / 2 ^ lane % 2 = 1 → up = s.get (unitKey l O_LANES_UP) - 2 ^ lane →
    (up % 16 = 15 ∨ up / 16 = 15) →
    ∃ t, exec (.laneFailed l lane) s = .next t ∧ t.get (unitKey l O_LANES_UP) = up ∧
      t.get (unitKey l O_LINK_STATE) = 3 ∧ bitSet t O_FABRIC_FLAGS 0 ∧ bitSet t O_FABRIC_FLAGS 1) ∧
  (∀ s l lane up, s.coreUp = true → l < 12 → lane < 8 → s.linkUp l = true →
    s.get (unitKey l O_LANES_UP) / 2 ^ lane % 2 = 1 → up = s.get (unitKey l O_LANES_UP) - 2 ^ lane →
    up % 16 ≠ 15 → up / 16 ≠ 15 →
    exec (.laneFailed l lane) s
      = .next (ended s (((s.put (unitKey l O_LANES_UP) up).raise O_FABRIC_FLAGS 0).linkDown l))) ∧
  (∀ s l, s.coreUp = true → l < 12 → (s.get (unitKey l O_LINK_STATE) = 4 ∨ s.get (unitKey l O_LINK_STATE) = 1) →
    s.get O_LINK_ENABLE / 2 ^ l % 2 = 1 → (s.link l).trainBeat + 1024 ≤ s.beat →
    exec (.linkRetrain l) s = .next (ended s ((s.setLink l 1).modLink l fun k => { k with trainBeat := s.beat }))) ∧
  (∀ s l gen peer delay, s.corePg = true → s.resetN = true → l < 12 → s.get (unitKey l O_LINK_STATE) = 1 → 1 ≤ gen →
    gen ≤ s.linkGenMax.getD l 3 →
    exec (.linkTrained l gen peer delay) s = .next (ended s (linkTrained s l gen peer delay))) ∧
  (∀ s l delay, s.coreUp = true → l < 12 → s.linkUp l = true → (s.link l).measureBeat + 4096 ≤ s.beat →
    exec (.linkDelayMeasure l delay) s
      = .next (ended s ((s.put (unitKey l O_LINK_DELAY_PS) (delay % 2 ^ 32)).modLink l fun k =>
          { k with measureBeat := s.beat }))) ∧
  (∀ s l tag flit src k t', s.coreUp = true → l < 12 → s.linkUp l = true → tagDest tag ≠ s.node → tagLocal tag = false →
    s.nextLink l tag = some (k, t') → s.linkUp k = true → s.replayRoom k = true →
    exec (.transitForward l tag flit src) s = .next (ended s (s.sendFrame k t' flit))) ∧
  (∀ s l tag flit src, s.get O_BYPASS_STATE = 1 → 8 ≤ l → l < 12 → s.get (unitKey l O_LINK_STATE) = 5 →
    exec (.bypassFrame l tag flit src) s = .next (ended s (islandFrame s l tag flit src)))

/-- The beat (R240 to R251). -/
def Obligations.BeatCommandsComplete : Prop :=
  (∀ s, s.corePg = true → s.resetN = true → s.get O_BEAT_STATE ≠ 3 →
    exec .beatBoundary s = .next (ended s (newBeat s))) ∧
  (∀ s, s.corePg = true → s.resetN = true → s.get O_BEAT_STATE ≠ 3 → s.coreUp = false → s.jumpBy = 0 →
    ∃ t, exec .beatBoundary s = .next t ∧ t.get O_BEAT_COUNT = (s.beat + 1) % 2 ^ 64) ∧
  (∀ s l f, s.corePg = true → s.resetN = true → (s.get O_BYPASS_STATE = 0 ∨ l < 8) → l < 12 → s.linkUp l = true →
    s.get O_BEAT_ROLE = 0 → s.get O_BEAT_UPLINK = l → exec (.beatFlit l f) s = .next (ended s (acceptFlit s l f))) ∧
  (∀ s, s.corePg = true → s.resetN = true → s.get O_BEAT_ROLE ≠ 1 → s.get O_BEAT_STATE = 1 → s.beatSeen + 3 ≤ s.beat →
    ∃ t, exec .beatLost s = .next t ∧ t.get O_BEAT_STATE = 2 ∧ bitSet t O_BEAT_FLAGS 0 ∧
      t.get O_BEAT_LOST_COUNT = (s.get O_BEAT_LOST_COUNT + 1) % 2 ^ 64 ∧ t.holdStart = s.beat) ∧
  (∀ s, s.get O_BEAT_STATE = 2 → s.holdStart + s.get O_HOLDOVER_LIMIT ≤ s.beat →
    exec .holdoverLimitPassed s = .next (ended s (s.raise O_BEAT_FLAGS 1))) ∧
  (∀ s err, s.corePg = true → s.resetN = true → s.get O_BEAT_STATE = 1 → 1000 * s.get O_BEAT_SKEW_LIMIT < err.natAbs →
    16 ≤ s.skewRun →
    exec (.beatSkew err) s
      = .next (ended s ((s.put O_SKEW_ESTIMATE (err % (2 ^ 32 : Int)).toNat).raise O_BEAT_FLAGS 1))) ∧
  (∀ s count err, s.corePg = true → s.resetN = true → s.get O_BEAT_ROLE = 2 →
    exec (.beatInFrame count (crc8Count 7 0 count) err) s
      = .next (ended s { (s.compareBeat count (s.get O_BEAT_STATE == 2)).noteSkew err with
          beatSeen := ((s.compareBeat count (s.get O_BEAT_STATE == 2)).noteSkew err).beat, lastExtern := count }))

/-! ### Where each command completes: twin, Guardian, power and start -/

/-- The twin (R465 to R473). -/
def Obligations.TwinEventsComplete : Prop :=
  (∀ s, s.coreUp = true → s.get O_TWIN_STATE = 1 → s.unacked = [] →
    ∃ t, exec .pairingComplete s = .next t ∧ t.get O_TWIN_STATE = 2 ∧ bitSet t O_TWIN_FLAGS 0 ∧ t.lastHeart = s.beat) ∧
  (∀ s r, s.coreUp = true → r.kind ≠ .journal → (s.get O_TWIN_STATE = 1 ∨ s.get O_TWIN_STATE = 2) → r.ctx < 1024 →
    exec (.mirrorRecord r) s = .next (ended s (takeMirror s r))) ∧
  (∀ s seq, s.coreUp = true → (∃ u ∈ s.unacked, u.seq ≤ seq) → exec (.mirrorAcknowledgement seq) s = .next (ended s (s.acknowledge seq))) ∧
  (∀ s u rest, s.coreUp = true → s.get O_TWIN_STATE = 2 → s.unacked = u :: rest →
    u.beat + s.get O_MIRROR_LAG_LIMIT < s.beat →
    ∃ t, exec .mirrorLag s = .next t ∧ bitSet t O_TWIN_FLAGS 3) ∧
  (∀ s beat words, s.coreUp = true → s.get O_TWIN_STATE = 2 → beat ≤ s.beat + 1 →
    ∃ t, exec (.heartbeat beat words) s = .next t ∧ t.lastHeart = s.beat ∧ t.heartMissed = 0) ∧
  (∀ s, s.coreUp = true → s.get O_TWIN_STATE = 2 → 8 ≤ s.heartMissed → s.probing = none → s.taking = none →
    s.get O_PARTNER_NODE ∉ s.bypassed →
    ∃ t, exec .heartbeatLoss s = .next t ∧ t.probing = some s.beat ∧ .probe (s.get O_PARTNER_NODE) ∈ t.out) ∧
  (∀ s node, s.coreUp = true → exec (.probe node) s = .next (ended s (s.emit (.probeAnswer node)))) ∧
  (∀ s b, s.coreUp = true → s.get O_TWIN_STATE = 2 → s.probing = some b →
    ∃ t, exec .probeAnswer s = .next t ∧ t.probing = none ∧ t.get O_TWIN_STATE = 0 ∧ bitSet t O_TWIN_FLAGS 1) ∧
  (∀ s b, s.coreUp = true → s.get O_TWIN_STATE = 2 → s.probing = some b → b + 16 ≤ s.beat →
    exec .probeTimeout s = .next (ended s s.partnerLost)) ∧
  (∀ s, s.coreUp = true → s.get O_TWIN_STATE = 2 → s.taking = none → exec .yieldMessage s = .next (ended s s.partnerLost)) ∧
  (∀ s n, s.coreUp = true → s.taking = some n →
    ∃ t, exec .takeoverComplete s = .next t ∧ t.taking = none ∧ t.shadows = [] ∧ t.get O_TWIN_STATE = 3 ∧
      bitSet t O_TWIN_FLAGS 2) ∧
  (∀ s lost serving, s.coreUp = true → lost ≠ s.node → (lost, serving) ∉ s.redirects →
    ∃ t, exec (.takeoverAnnouncement lost serving) s = .next t ∧ (lost, serving) ∈ t.redirects) ∧
  (∀ s serving, s.coreUp = true →
    exec (.takeoverAnnouncement s.node serving) s = .next (ended s s.quarantineEngine)) ∧
  (∀ s c, s.coreUp = true → s.get O_TWIN_STATE = 2 → s.handing = some c → c < 1024 →
    ∃ t, exec .handbackTransfer s = .next t ∧ t.handing = none ∧ t.cstate c = 0 ∧ c ∉ t.heldHalf)

/-- Guardian: faults, scrub, wipes, cores, the profile and notices (R303, R446, R447, R449 to R462). -/
def Obligations.GuardianEventsComplete : Prop :=
  (∀ s tile cell, s.coreUp = true → tile < 320 → cell < 264 → s.tileActive tile = true → cell ∉ (s.tile tile).retired →
    exec (.cellFault tile cell .registerDouble) s = .next (ended s (cellFault s tile cell true))) ∧
  (∀ s tile cell, s.coreUp = true → tile < 320 → cell < 264 → s.tileActive tile = true → cell ∉ (s.tile tile).retired →
    exec (.cellFault tile cell .registerSingle) s = .next (ended s (s.bump O_REGFILE_CORRECTED 1))) ∧
  (∀ s hbm ms, s.coreUp = true → s.get O_SCRUB_ENABLE / 2 ^ (if hbm then 1 else 0) % 2 = 1 →
    ∃ t, exec (.scrubPass hbm ms []) s = .next t ∧
      t.get (if hbm then O_HBM_PASS_LAST_MS else O_LS_PASS_LAST_MS) = ms % 2 ^ 32) ∧
  (∀ s u, s.coreUp = true → wipesFirst s.wipingPages 24 u = true →
    ∃ t, exec (.wipeComplete false u true) s = .next t ∧ t.wipingPages = s.wipingPages.filter (· != u)) ∧
  (∀ s u, s.coreUp = true → wipesFirst s.wipingExtents 4096 u = true →
    ∃ t, exec (.wipeComplete true u true) s = .next t ∧ t.wipingExtents = s.wipingExtents.filter (· != u)) ∧
  (∀ s u, s.coreUp = true → u < 320 → (s.tile u).state = 2 →
    ∃ t, exec (.unitReturned u true) s = .next t ∧ (t.tile u).state = 0 ∧ (t.tile u).unitEpoch = (s.tile u).epoch ∧
      bitSet t O_HEALTH_FLAGS 5) ∧
  (∀ s core, s.coreUp = true → core < 4 → s.coreStates.getD core 0 = 0 →
    exec (.sqCoreFault core) s = .next (ended s (coreFault s core))) ∧
  (∀ s core, s.coreUp = true → core < 4 → s.coreStates.getD core 0 = 0 →
    exec (.progressWordAlarm core) s = .next (ended s (coreFault s core))) ∧
  (∀ s core, s.coreUp = true → s.coreStates.getD core 0 = 1 →
    ∃ t, exec (.sqCoreRestart core) s = .next t ∧ t.coreStates = s.coreStates.set core 0) ∧
  (∀ s, s.coreUp = true → s.profileNow ≠ s.get O_PROFILE →
    ∃ t, exec .profileChange s = .next t ∧ t.get O_PROFILE = s.profileNow) ∧
  (∀ s, s.noticeDue = true → s.noticeFree = true → s.get O_NOTICE_ENABLE ≠ 0 → s.engSummary ≠ 0 →
    exec .noticeIntervalEnd s = .next (ended s s.sendNotice)) ∧
  (∀ s pool, s.coreUp = true → pool < 256 → s.pget pool O_POOL_STATE = 1 →
    ∃ t, exec (.poolActive pool) s = .next t ∧ t.pget pool O_POOL_STATE = 2 ∧
      t.pget pool O_FREE_NOW = s.pget pool O_BUF_COUNT) ∧
  (∀ s, s.coreUp = true → s.latchDue = true →
    ∃ t, exec .latchCapture s = .next t ∧ t.latchDue = false ∧ t.get O_LATCH_BEAT = s.beat ∧ t.get O_POWER_PEAK_MW = 0)

/-- Pins, power, heat and the steps of a start (R478 to R482, R529 to R532). -/
def Obligations.PowerAndStartComplete : Prop :=
  (∀ s, ∃ t, exec .vaonPowerOn s = .next t ∧ t.startStep = some 0 ∧ t.ctxs = [] ∧ t.raises = [] ∧ t.mem = s.mem ∧
    t.get O_LC_STATE = s.get O_LC_STATE ∧ t.ownerKey = s.ownerKey) ∧
  (∀ s, s.resetN = true →
    ∃ t, exec .resetNLow s = .next t ∧ t.resetN = false ∧ t.thermTrip = false ∧ t.startStep = some 0) ∧
  (∀ s, s.resetN = false → exec .resetNHigh s = .next (ended s { s with resetN := true })) ∧
  (∀ s, s.corePg = true →
    ∃ t, exec .corePgFall s = .next t ∧ t.corePg = false ∧ t.ctxs = [] ∧ t.get O_BYPASS_STATE = 1) ∧
  (∀ s, s.corePg = false → ∃ t, exec .corePgRise s = .next t ∧ t.corePg = true ∧ t.startStep = some 0) ∧
  (∀ s, exec .pwrAlertNLow s = .next (ended s { s with pwrAlert := true })) ∧
  (∀ s, exec .pwrAlertNRelease s = .next (ended s { s with pwrAlert := false })) ∧
  (∀ s beatMw meanMw, s.corePg = true → s.resetN = true →
    ∃ t, exec (.powerControl beatMw meanMw) s = .next t ∧ t.get O_POWER_MW = beatMw % 2 ^ 32) ∧
  (∀ s temps, s.corePg = true → s.resetN = true →
    ∃ t, exec (.thermalControl temps) s = .next t ∧ t.tempRegion = temps) ∧
  (∀ s k r, s.corePg = true → s.resetN = true → s.startStep = some k → s.get O_LC_STATE ≠ 4 →
    exec (.startStep r) s = .next (ended s (startStep s k r)))

/-! ### Where each command completes: the dictionary and management -/

/-- Writes of CTX_CTRL and RING_CTRL (R402, R408, R409, R537): a write that reaches its object and whose action the state
allows leads to that action's state. -/
def Obligations.ContextControlCompletes : Prop :=
  (∀ s p c i t, c < 1024 → Acts s p (ctxKey c O_CTX_CTRL) 1 i (ctlClaim s c) t →
    exec (.claim p c) s = .next (written s p (ctxKey c O_CTX_CTRL) (leBytes 1 1) i t)) ∧
  (∀ s p c i t, c < 1024 → Acts s p (ctxKey c O_CTX_CTRL) 2 i (ctlArm s c) t →
    exec (.arm p c) s = .next (written s p (ctxKey c O_CTX_CTRL) (leBytes 1 2) i t)) ∧
  (∀ s p c i t, c < 1024 → Acts s p (ctxKey c O_CTX_CTRL) 3 i (ctlDisarm s c) t →
    exec (.disarm p c) s = .next (written s p (ctxKey c O_CTX_CTRL) (leBytes 1 3) i t)) ∧
  (∀ s p c i t, c < 1024 → Acts s p (ctxKey c O_CTX_CTRL) 4 i (ctlDrain s c) t →
    exec (.drain p c) s = .next (written s p (ctxKey c O_CTX_CTRL) (leBytes 1 4) i t)) ∧
  (∀ s p c i t, c < 1024 → Acts s p (ctxKey c O_CTX_CTRL) 5 i (ctlHalt s c) t →
    exec (.halt p c) s = .next (written s p (ctxKey c O_CTX_CTRL) (leBytes 1 5) i t)) ∧
  (∀ s p c i t, c < 1024 → Acts s p (ctxKey c O_CTX_CTRL) 6 i (ctlResume s c) t →
    exec (.resume p c) s = .next (written s p (ctxKey c O_CTX_CTRL) (leBytes 1 6) i t)) ∧
  (∀ s p c i t, c < 1024 → Acts s p (ctxKey c O_CTX_CTRL) 7 i (ctlRelease s c) t →
    exec (.release p c) s = .next (written s p (ctxKey c O_CTX_CTRL) (leBytes 1 7) i t)) ∧
  (∀ s p c i t, c < 1024 → Acts s p (ctxKey c O_RING_CTRL) 1 i (ctlContinue s c) t →
    exec (.ringContinue p c) s = .next (written s p (ctxKey c O_RING_CTRL) (leBytes 1 1) i t)) ∧
  (∀ s p c i t, c < 1024 → Acts s p (ctxKey c O_RING_CTRL) 2 i (ctlSkip s c) t →
    exec (.ringSkip p c) s = .next (written s p (ctxKey c O_RING_CTRL) (leBytes 1 2) i t)) ∧
  (∀ s p c i t, c < 1024 → Acts s p (ctxKey c O_RING_CTRL) 3 i (ctlFlush s c) t →
    exec (.ringFlush p c) s = .next (written s p (ctxKey c O_RING_CTRL) (leBytes 1 3) i t))

/-- Writes of POOL_CTRL, GROUP_CTRL and UNIT_CTRL (R284, R290, R352, R453, R462, R464). -/
def Obligations.PoolGroupUnitControlCompletes : Prop :=
  (∀ s p u i t, u < 256 → Acts s p (unitKey u O_POOL_CTRL) 1 i (ctlPoolCreate s u) t →
    exec (.poolCreate p u) s = .next (written s p (unitKey u O_POOL_CTRL) (leBytes 1 1) i t)) ∧
  (∀ s p u i t, u < 256 → Acts s p (unitKey u O_POOL_CTRL) 2 i (ctlPoolDelete s u) t →
    exec (.poolDelete p u) s = .next (written s p (unitKey u O_POOL_CTRL) (leBytes 1 2) i t)) ∧
  (∀ s p i t, Acts s p O_GROUP_CTRL 1 i (ctlGroupCreate s (s.sel p O_GROUP_SELECT)) t →
    exec (.groupCreate p) s = .next (written s p O_GROUP_CTRL (leBytes 1 1) i t)) ∧
  (∀ s p i t, Acts s p O_GROUP_CTRL 2 i (ctlGroupDelete s (s.sel p O_GROUP_SELECT)) t →
    exec (.groupDelete p) s = .next (written s p O_GROUP_CTRL (leBytes 1 2) i t)) ∧
  (∀ s p i t, Acts s p O_UNIT_CTRL 1 i (ctlUnitQuarantine s (s.sel p O_UNIT_SELECT)) t →
    exec (.unitQuarantine p) s = .next (written s p O_UNIT_CTRL (leBytes 1 1) i t)) ∧
  (∀ s p i t, Acts s p O_UNIT_CTRL 2 i (ctlUnitReturn s (s.sel p O_UNIT_SELECT)) t →
    exec (.unitReturn p) s = .next (written s p O_UNIT_CTRL (leBytes 1 2) i t)) ∧
  (∀ s p i t, Acts s p O_UNIT_CTRL 3 i (ctlUnitSleep s (s.sel p O_UNIT_SELECT)) t →
    exec (.unitSleep p) s = .next (written s p O_UNIT_CTRL (leBytes 1 3) i t))

/-- Writes of the engine's other action objects (R439, R454, R465, R473, R479, R486, R492, R502, R505). -/
def Obligations.EngineControlCompletes : Prop :=
  (∀ s p info i t, Reaches s p (keyReq O_TWIN_CTRL (leBytes 1 1)) i → s.writeCheck p O_TWIN_CTRL i (leBytes 1 1) = none →
    ctlPair s info = .ok t →
    exec (.pair p info) s = .next (written s p O_TWIN_CTRL (leBytes 1 1) i t)) ∧
  (∀ s p info i t, Reaches s p (keyReq O_TWIN_CTRL (leBytes 1 2)) i → s.writeCheck p O_TWIN_CTRL i (leBytes 1 2) = none →
    ctlUnpair s info = .ok t →
    exec (.unpair p info) s = .next (written s p O_TWIN_CTRL (leBytes 1 2) i t)) ∧
  (∀ s p i t, Acts s p O_TWIN_CTRL 3 i (ctlHandback s) t →
    exec (.handback p) s = .next (written s p O_TWIN_CTRL (leBytes 1 3) i t)) ∧
  (∀ s p slot i t, slot < 2 → Acts s p O_SLOT_CTRL (slot + 1) i (ctlSlotDiscard s slot) t →
    exec (.slotDiscard p slot) s = .next (written s p O_SLOT_CTRL (leBytes 1 (slot + 1)) i t)) ∧
  (∀ s p slot i t, slot < 2 → Acts s p O_SLOT_CTRL (slot + 3) i (ctlSlotVerify s slot) t →
    exec (.slotVerify p slot) s = .next (written s p O_SLOT_CTRL (leBytes 1 (slot + 3)) i t)) ∧
  (∀ s p image i t, Acts s p O_RESTORE_CTRL 1 i (ctlRestore s image) t →
    exec (.restore p image) s = .next (written s p O_RESTORE_CTRL (leBytes 1 1) i t)) ∧
  (∀ s p i t, Acts s p O_DEBUG_CTRL 1 i (ctlDebugClose s p) t →
    exec (.debugClose p) s = .next (written s p O_DEBUG_CTRL (leBytes 1 1) i t)) ∧
  (∀ s p i t, Acts s p O_RESET_CTRL 1 i (ctlWarm s) t →
    exec (.warmReset p) s = .next (written s p O_RESET_CTRL (leBytes 1 1) i t)) ∧
  (∀ s p i t, Acts s p O_ENGINE_QUARANTINE 1 i (ctlEngineQuarantine s) t →
    exec (.engineQuarantine p) s = .next (written s p O_ENGINE_QUARANTINE (leBytes 1 1) i t)) ∧
  (∀ s p i t, Acts s p O_LATCH_CTRL 1 i (ctlLatch s) t →
    exec (.latchCtrl p) s = .next (written s p O_LATCH_CTRL (leBytes 1 1) i t))

/-- Writes of objects of a context that a command of its own names (R12, R24, R77, R89, R96, R279, R281, R292, R295, R340, R366). -/
def Obligations.ContextObjectWritesComplete : Prop :=
  (∀ s p c data i t, Accepted s p (ctxKey c O_DESC_WRITE) data Around.none i t →
    exec (.descWrite p c data) s = .next (written s p (ctxKey c O_DESC_WRITE) data i t)) ∧
  (∀ s p c data i t, Accepted s p (ctxKey c O_SLOT_ENTRY_WRITE) data Around.none i t →
    exec (.slotEntryWrite p c data) s = .next (written s p (ctxKey c O_SLOT_ENTRY_WRITE) data i t)) ∧
  (∀ s p c data i t, Accepted s p (ctxKey c O_EXPERT_MAP) data Around.none i t →
    exec (.expertMap p c data) s = .next (written s p (ctxKey c O_EXPERT_MAP) data i t)) ∧
  (∀ s p c data i t, Accepted s p (ctxKey c O_EXPERT_COUNT) data Around.none i t →
    exec (.expertCount p c data) s = .next (written s p (ctxKey c O_EXPERT_COUNT) data i t)) ∧
  (∀ s p c data i t, Accepted s p (ctxKey c O_BIAS) data Around.none i t →
    exec (.bias p c data) s = .next (written s p (ctxKey c O_BIAS) data i t)) ∧
  (∀ s p c data i t, Accepted s p (ctxKey c O_HIDDEN_WIDTH) data Around.none i t →
    exec (.modelWidthWrite p c false data) s = .next (written s p (ctxKey c O_HIDDEN_WIDTH) data i t)) ∧
  (∀ s p c data i t, Accepted s p (ctxKey c O_INNER_WIDTH) data Around.none i t →
    exec (.modelWidthWrite p c true data) s = .next (written s p (ctxKey c O_INNER_WIDTH) data i t)) ∧
  (∀ s p c data i t, Accepted s p (ctxKey c O_LS_PAGES) data Around.none i t →
    exec (.lsPages p c false data) s = .next (written s p (ctxKey c O_LS_PAGES) data i t)) ∧
  (∀ s p c data i t, Accepted s p (ctxKey c O_HBM_EXTENTS) data Around.none i t →
    exec (.lsPages p c true data) s = .next (written s p (ctxKey c O_HBM_EXTENTS) data i t)) ∧
  (∀ s p c data i t, Accepted s p (ctxKey c O_REGIONS) data Around.none i t →
    exec (.regions p c data) s = .next (written s p (ctxKey c O_REGIONS) data i t)) ∧
  (∀ s p c data i t, Accepted s p (ctxKey c O_DESC_AREA) data Around.none i t →
    exec (.descArea p c data) s = .next (written s p (ctxKey c O_DESC_AREA) data i t)) ∧
  (∀ s p c data i t, Accepted s p (ctxKey c O_SRC_WINDOWS) data Around.none i t →
    exec (.srcWindows p c data) s = .next (written s p (ctxKey c O_SRC_WINDOWS) data i t)) ∧
  (∀ s p c data i t, Accepted s p (ctxKey c O_DET_LEVEL) data Around.none i t →
    exec (.detLevel p c data) s = .next (written s p (ctxKey c O_DET_LEVEL) data i t)) ∧
  (∀ s p c data i t, Accepted s p (ctxKey c O_DEADLINE_BEATS) data Around.none i t →
    exec (.deadlineBeats p c data) s = .next (written s p (ctxKey c O_DEADLINE_BEATS) data i t))

/-- Writes of objects of the engine that a command of its own names, and the two timers of debug access (R241, R318, R436,
R483, R487, R490 to R492, R513, R441). -/
def Obligations.EngineObjectWritesComplete : Prop :=
  (∀ s p data i t, Accepted s p O_DEBUG_REQUEST data Around.none i t →
    exec (.debugRequest p data) s = .next (written s p O_DEBUG_REQUEST data i t)) ∧
  (∀ s p data i t, Accepted s p O_DEBUG_RESPONSE data Around.none i t →
    exec (.debugResponse p data) s = .next (written s p O_DEBUG_RESPONSE data i t)) ∧
  (∀ s p data i t, Accepted s p O_BEAT_ROLE data Around.none i t →
    exec (.beatRole p data) s = .next (written s p O_BEAT_ROLE data i t)) ∧
  (∀ s p data i t, Accepted s p O_FABRIC_ENABLE data Around.none i t →
    exec (.fabricEnable p data) s = .next (written s p O_FABRIC_ENABLE data i t)) ∧
  (∀ s p data i t, Accepted s p O_MCTP_GRANT data Around.none i t →
    exec (.mctpGrant p data) s = .next (written s p O_MCTP_GRANT data i t)) ∧
  (∀ s p data i t, Accepted s p O_APERTURES data Around.none i t →
    exec (.apertures p data) s = .next (written s p O_APERTURES data i t)) ∧
  (∀ s p data i t, Accepted s p O_START_POLICY data Around.none i t →
    exec (.startPolicy p data) s = .next (written s p O_START_POLICY data i t)) ∧
  (∀ s p data i t, Accepted s p O_OWNER_KEY_HASH data Around.none i t →
    exec (.ownerKeyHash p data) s = .next (written s p O_OWNER_KEY_HASH data i t)) ∧
  (∀ s p k data i t, i.isFlags = true → Accepted s p k data Around.none i t →
    exec (.flagWriteClear p (k / 256) (k % 256) data) s = .next (written s p k data i t)) ∧
  (∀ s p x, (s.challenges.find? fun x => x.path == p) = some x → x.beat + challengeBeats < s.beat →
    exec (.debugChallengeExpiry p) s = .next (ended s (s.dropChallenge p))) ∧
  (∀ s p x, (s.sessions.find? fun x => x.path == p) = some x →
    1953125 * s.get O_DEBUG_TIMEOUT_S ≤ 2 * (s.beat - x.beat) →
    exec (.debugTimeout p) s = .next (ended s (s.closeSession p)))

/-- The operations of the dictionary (R422 to R431, R442, R444). -/
def Obligations.DictionaryOperationsComplete : Prop :=
  (∀ s p ver index sub i, Reaches s p (pathReq 1 ver index sub 0 0 false []) i →
    exec (.read p ver index sub) s = .next (ended s (s.serveRead p (pathReq 1 ver index sub 0 0 false []) i))) ∧
  (∀ s p ver index sub data i t, Reaches s p (pathReq 2 ver index sub 0 data.length false data) i →
    s.writeObj p (index * 256 + sub) i data Around.none = .ok t →
    exec (.write p ver index sub data) s
      = .next (ended s (s.wrote t p (pathReq 2 ver index sub 0 data.length false data) i))) ∧
  (∀ s p ver index sub off len i, Reaches s p (pathReq 3 ver index sub off len false []) i →
    exec (.readSeg p ver index sub off len) s
      = .next (ended s (s.serveReadSeg p (pathReq 3 ver index sub off len false []) i))) ∧
  (∀ s p ver index sub off final data i bs, Reaches s p (pathReq 4 ver index sub off data.length final data) i →
    stageBytes (s.stagedOf (index * 256 + sub)) p off data = .ok bs → bs.length ≤ stagedMax →
    (final = true → s.mayWrite p (index * 256 + sub) i.access bs = true ∧
      ∃ t, s.writeObj p (index * 256 + sub) i bs Around.none = .ok t) →
    exec (.writeSeg p ver index sub off final data) s
      = .next (ended s (s.serveWriteSeg p (pathReq 4 ver index sub off data.length final data) i))) ∧
  (∀ s index sub e, s.coreUp = true → s.stagedOf (index * 256 + sub) = some e → e.beat + 1024 ≤ s.beat →
    exec (.dictSegmentAbandoned index sub) s
      = .next (ended s ((s.unstage (index * 256 + sub)).raise O_DICT_FLAGS 1))) ∧
  (∀ s p ver index off, s.reqWaits p index = false → (∀ n, p = .vc0 n → s.heldVc0 < 64) →
    s.enumCheck p (pathReq 5 ver index 0 off 0 false []) = none →
    exec (.enumerate p ver index off) s = .next (ended s (s.serveEnum p (pathReq 5 ver index 0 off 0 false [])))) ∧
  (∀ s p ver index sub i, Reaches s p (pathReq 6 ver index sub 0 0 false []) i →
    exec (.flagCounts p ver index sub) s = .next (ended s (s.serveCounts p (pathReq 6 ver index sub 0 0 false []) i))) ∧
  (∀ s p ver index sub mask i, Reaches s p (pathReq 7 ver index sub 0 4 false (leBytes 4 mask)) i →
    s.writableNow p (index * 256 + sub) i (leNat (leBytes 4 mask)) = true →
    exec (.flagClear p ver index sub mask) s
      = .next (ended s (s.serveClear p (pathReq 7 ver index sub 0 4 false (leBytes 4 mask)) i))) ∧
  (∀ s p entries, s.reqWaits p 0 = false → (∀ n, p = .vc0 n → s.heldVc0 < 64) → s.dictUp = true →
    entries.length ≤ 16 → entries ≠ [] →
    exec (.readBatch p 2 entries) s
      = .next (ended s (s.serveBatch p (pathReq 8 2 0 0 0 (4 * entries.length) false
          (entries.map fun e => leBytes 2 e.1 ++ leBytes 1 e.2 ++ [0]).flatten)))) ∧
  (∀ s m, s.dictUp = true → m < 8 →
    exec (.mailboxPoll m) s = .next (ended s ((List.range 16).foldl (fun s i => s.pollBox m i) s)))

/-- Management over MCTP and SPDM (R419, R420, R436, R494, R495): each request that its binding and its place in the
protocol let through is answered. -/
def Obligations.ManagementCommandsComplete : Prop :=
  (∀ s addr, addr < 128 → exec (.entdaa addr) s = .next (ended s { s with i3cAddr := some addr })) ∧
  (∀ s b eid, s.bindingUp b = true → 0 < eid → eid < 255 →
    ∃ t, exec (.setEndpointId b eid) s = .next t ∧ t.get (eidObj b) = eid ∧
      .mctp b "SET_ENDPOINT_ID" ([0] ++ leBytes 1 eid) ∈ t.out) ∧
  (∀ s b, s.bindingUp b = true →
    exec (.getEndpointId b) s
      = .next (ended s (s.emit (.mctp b "GET_ENDPOINT_ID" ([0] ++ leBytes 1 (s.get (eidObj b))))))) ∧
  (∀ s b, s.bindingUp b = true →
    exec (.getMctpVersionSupport b) s = .next (ended s (s.emit (.mctp b "GET_MCTP_VERSION_SUPPORT" [0, 1, 3])))) ∧
  (∀ s b, s.bindingUp b = true →
    exec (.getMessageTypeSupport b) s
      = .next (ended s (s.emit (.mctp b "GET_MESSAGE_TYPE_SUPPORT" [0, 0x00, 0x05, 0x7F])))) ∧
  (∀ s b, s.bindingUp b = true →
    exec (.getVendorDefinedMessageSupport b) s
      = .next (ended s (s.emit (.mctp b "GET_VENDOR_DEFINED_MESSAGE_SUPPORT"
          ([0, 0x00] ++ leBytes 4 Config.vendorPen.toNat))))) ∧
  (∀ s, s.spdmBusy = false → ∃ t, exec .getVersion s = .next t ∧ t.spdmState = 1 ∧ .spdm "VERSION" [0x12, 0x13] ∈ t.out) ∧
  (∀ s, s.spdmBusy = false → 1 ≤ s.spdmState →
    ∃ t, exec .getCapabilities s = .next t ∧ t.spdmState = 2 ∧
      .spdm "CAPABILITIES" (leBytes 4 0x36 ++ leBytes 4 4096) ∈ t.out) ∧
  (∀ s, s.spdmBusy = false → 2 ≤ s.spdmState →
    ∃ t, exec .negotiateAlgorithms s = .next t ∧ t.spdmState = 3 ∧
      .spdm "ALGORITHMS" (leBytes 4 0x80 ++ leBytes 4 0x02 ++ leBytes 4 0x04) ∈ t.out) ∧
  (∀ s, s.spdmBusy = false → 3 ≤ s.spdmState →
    ∃ t, exec .getDigests s = .next t ∧ .spdm "DIGESTS" ([1] ++ sha384 certChain) ∈ t.out) ∧
  (∀ s off len, s.spdmBusy = false → 3 ≤ s.spdmState →
    ∃ t d, exec (.getCertificate 0 off len) s = .next t ∧
      .spdm (if off < Config.certificateLen 0 then "CERTIFICATE" else "ERROR InvalidRequest") d ∈ t.out) ∧
  (∀ s nonce, s.spdmBusy = false → 3 ≤ s.spdmState → nonce.length = 32 →
    ∃ t d, exec (.challenge 0 nonce) s = .next t ∧ .spdm "CHALLENGE_AUTH" d ∈ t.out) ∧
  (∀ s index signed nonce, s.spdmBusy = false → 3 ≤ s.spdmState → (index ≤ 7 ∨ index = 0xFF) →
    (signed = true → nonce.length = 32) →
    ∃ t d, exec (.getMeasurements index signed nonce) s = .next t ∧ .spdm "MEASUREMENTS" d ∈ t.out)

/-! ### Reset, and what every command leaves -/

/-- What reset leaves, by the tables of the manual: no context claimed, every start step to run from step 0, BLOCK_RELEASE
0204h, the beat count 0 and FREE_RUNNING, no flag raised, and every engine object at the default of its table. -/
def Obligations.ResetState : Prop :=
  State.reset.pending = [] ∧ (∀ c, c < 1024 → State.reset.cstate c = 0) ∧ State.reset.startStep = some 0 ∧
    State.reset.get O_ENGINE_STATE = 0 ∧ State.reset.value .mctp O_BLOCK_RELEASE = 0x0204 ∧ State.reset.beat = 0 ∧
    State.reset.get O_BEAT_STATE = 0 ∧ State.reset.engSummary = 0 ∧ State.reset.raises = [] ∧
    State.reset.coreStates = [0, 0, 0, 0] ∧ State.reset.policy = defaultPolicy ∧
    State.reset.mctpGrant = ⟨2, 0, 1023⟩

/-- The invariants hold at reset: no idle DRAINING context, and memory in its canonical form. -/
def Obligations.ResetMeetsInvariants : Prop := Settled State.reset ∧ Memory.wf State.reset.mem = true

/-- From every state with no idle DRAINING context a step leads to one: a context that is DRAINING with nothing left becomes
ARMED within the command that leaves it so (R408). -/
def Obligations.StepKeepsSettled : Prop := ∀ s t : State, Settled s → step s = .next t → Settled t

/-- Whatever the command: when it makes ENGINE_FLAG_SUMMARY change from 0, and a destination is enabled, a notice has been
sent in this beat or is due at the end of the interval (R446). -/
def Obligations.NoticeFollowsFirstFlag : Prop :=
  ∀ (i : Instr) (s t : State), exec i s = .next t → s.engSummary = 0 → t.engSummary ≠ 0 → t.get O_NOTICE_ENABLE ≠ 0 →
    t.noticeAt = some t.beat ∨ t.noticeDue = true

/-! ### Memory -/

/-- What is written at an address is what is read there next (R319, R427): for every state, a checkpoint's copies before a
write among them. -/
def Obligations.WriteThenReadMemory : Prop :=
  ∀ (s : State) (a : Nat) (bs : Bytes), (s.wr a bs).rd a bs.length = bs

/-- A write leaves every byte outside the bytes written as it was, and keeps memory canonical. -/
def Obligations.WriteKeepsOtherBytes : Prop :=
  ∀ (s : State) (a : Nat) (bs : Bytes), s.ckpt = none →
    KeepsMemoryBut s (s.wr a bs) (addrKey a) bs.length ∧
      (Memory.wf s.mem = true → Memory.wf (s.wr a bs).mem = true)

/-- The commands of an engine's home side, of its wipes and of a ring itself keep memory in its canonical form, in every
state. -/
def Obligations.HomeCommandsKeepMemoryCanonical : Prop :=
  ∀ (s t : State) (i : Instr),
    ((∃ r, i = .load r ∨ i = .store r ∨ i = .min r ∨ i = .max r ∨ i = .cas r ∨ i = .copyChunk r) ∨
      (∃ r recent, i = .add r recent) ∨ (∃ l, i = .lineQueueService l) ∨ (∃ e u ok, i = .wipeComplete e u ok) ∨
      (∃ c, i = .nop c ∨ i = .fence c ∨ i = .waitBeatAbsolute c ∨ i = .waitBeatRelative c ∨ i = .waitBeatRelease c ∨
        i = .digestSnap c ∨ i = .digestSnapCapture c ∨ i = .endLoop c ∨ i = .fenceRelease c)) →
    Memory.wf s.mem = true → exec i s = .next t → Memory.wf t.mem = true

/-- A page that has been wiped reads 0 everywhere, and no other byte of memory has changed (R303). -/
def Obligations.WipedPageReadsZero : Prop :=
  ∀ (s : State) (u : Nat), s.coreUp = true → s.ckpt = none → wipesFirst s.wipingPages 24 u = true →
    ∃ t, exec (.wipeComplete false u true) s = .next t ∧ u ∉ t.wipingPages ∧
      (∀ a, u * 65536 ≤ a → a < u * 65536 + 65536 → memByte t.mem a = 0) ∧ KeepsMemoryBut s t (u * 65536) 65536

/-! ### The ring -/

/-- A command that fails a check is refused with the code of the first that fails, whatever follows; an opcode that no
command has is refused with UNSUPPORTED_OP (R400). -/
def Obligations.RingCommandsRefuse : Prop :=
  (∀ s c i d code, s.front c = some (i, d) → fld d 0 1 = 0x00 → firstCode (bareChecks s c d) = some code →
    exec (.nop c) s = .next (ended s (s.refuseCmd c i d code))) ∧
  (∀ s c i d code, s.front c = some (i, d) → fld d 0 1 = 0x35 → firstCode (bareChecks s c d) = some code →
    exec (.fence c) s = .next (ended s (s.refuseCmd c i d code))) ∧
  (∀ s c i d code, s.front c = some (i, d) → fld d 0 1 = 0x31 → fld d 24 1 ≠ 1 →
    firstCode (waitChecks s c d) = some code →
    exec (.waitBeatAbsolute c) s = .next (ended s (s.refuseCmd c i d code))) ∧
  (∀ s c i d code, s.front c = some (i, d) → fld d 0 1 = 0x40 → firstCode (cancelChecks s c d) = some code →
    exec (.cancelBatch c) s = .next (ended s (s.refuseCmd c i d code))) ∧
  (∀ s c i d code, s.front c = some (i, d) → fld d 0 1 = 0x30 → firstCode (markChecks s c d) = some code →
    exec (.stepMark c) s = .next (ended s (s.refuseCmd c i d code))) ∧
  (∀ s c i d code, s.front c = some (i, d) → fld d 0 1 = 0x01 → s.atWindowLimit c = false →
    firstCode (s.fwdChecks c d) = some code →
    exec (.layerFwd c) s = .next (ended s (s.refuseCmd c i d code))) ∧
  (∀ s c i d code, s.front c = some (i, d) → fld d 0 1 = 0x20 → fld d 18 1 = 2 → (s.ctx c).coll = none →
    firstCode (s.collChecks c d) = some code →
    exec (.reduceScatter c) s = .next (ended s (s.refuseCmd c i d code))) ∧
  (∀ s c i d, s.front c = some (i, d) → fld d 0 1 ∉ opcodes →
    exec (.nop c) s = .next (ended s (s.refuseCmd c i d 0x13)) ∧
      exec (.layerFwd c) s = .next (ended s (s.refuseCmd c i d 0x13)) ∧
      exec (.copy c) s = .next (ended s (s.refuseCmd c i d 0x13)))

/-- A refused command has no effect but the record of the refusal (R400): REFUSAL_COUNT and LAST_REFUSAL, COMMAND_REFUSED,
and the ring pauses on it or, with CONTINUE_ON_REFUSAL, goes on; windows, ledgers, sequence, loops and every other context stay. -/
def Obligations.RefusalTouchesOnlyItsRecord : Prop :=
  ∀ (s : State) (c i : Nat) (d : Bytes) (code : Nat),
    let t := s.refuseCmd c i d code
    t.cget c O_REFUSAL_COUNT = (s.cget c O_REFUSAL_COUNT + 1) % 2 ^ 64 ∧ bitSet t (ctxKey c O_SQ_FLAGS) 0 ∧
      (t.ctx c).lastRefusal = leBytes 4 i ++ leBytes 1 (fld d 0 1) ++ leBytes 1 code ++ leBytes 1 (s.cstate c) ++ [0]
        ++ leBytes 8 s.beat ∧
      (fld d 1 1 % 2 = 0 → (t.ctx c).ring.paused = true ∧ (t.ctx c).ring.onDesc = true ∧
        t.cget c O_CONSUMER = s.cget c O_CONSUMER) ∧
      (fld d 1 1 % 2 = 1 → t.cget c O_CONSUMER = (i + 1) % 2 ^ 32 ∧ (t.ctx c).ring.paused = (s.ctx c).ring.paused) ∧
      (t.ctx c).windows = (s.ctx c).windows ∧ (t.ctx c).ledgers = (s.ctx c).ledgers ∧ (t.ctx c).seqNext = (s.ctx c).seqNext ∧
      (t.ctx c).ring.loops = (s.ctx c).ring.loops ∧ (t.ctx c).ring.active = (s.ctx c).ring.active ∧
      t.cstate c = s.cstate c ∧ t.pools = s.pools ∧ t.items = s.items ∧ t.remotes = s.remotes ∧
      ∀ c', c' ≠ c → t.ctx c' = s.ctx c'

/-- LAYER_BWD that names a ledger the context does not hold is refused with LEDGER_ABSENT before any address is looked at,
and with no side effect (R28). -/
def Obligations.AbsentLedgerIsRefused : Prop :=
  ∀ (s : State) (c i : Nat) (d : Bytes), s.front c = some (i, d) → fld d 0 1 = 0x02 → s.atWindowLimit c = false →
    dflagsOk d = true → othersZero d [(16, 5), (24, 40)] = true → fld d 20 1 < 16 → s.stateCheck c d = none →
    (s.ctx c).findLedger (fld d 16 4) = none →
    ∃ t, exec (.layerBwd c) s = .next t ∧ t = ended s (s.refuseCmd c i d 0x35) ∧
      (t.ctx c).windows = (s.ctx c).windows ∧ (t.ctx c).ledgers = (s.ctx c).ledgers ∧ t.pools = s.pools ∧
      t.items = s.items ∧ t.remotes = s.remotes ∧ ∀ c', c' ≠ c → t.ctx c' = s.ctx c'

/-- What acceptance alone does (R395, R408): CONSUMER moves past the descriptor, it is counted, a window-making command makes
an ARMED context RUNNING, and no other context changes. -/
def Obligations.AcceptanceMovesConsumer : Prop :=
  ∀ (s : State) (c i : Nat) (d : Bytes), c < 1024 →
    let t := s.accept c i d
    t.cget c O_CONSUMER = (i + 1) % 2 ^ 32 ∧ t.cget c O_COMPLETED = s.cget c O_COMPLETED ∧
      t.cget c O_COMMANDS_ISSUED = (s.cget c O_COMMANDS_ISSUED + 1) % 2 ^ 64 ∧
      t.cstate c = (if runsContext (fld d 0 1) = true ∧ s.cstate c = 2 then 3 else s.cstate c) ∧
      (t.ctx c).windows = (s.ctx c).windows ∧ (t.ctx c).ledgers = (s.ctx c).ledgers ∧ t.pools = s.pools ∧
      t.items = s.items ∧ ∀ c', c' ≠ c → t.ctx c' = s.ctx c'

/-- The index i lies in slot i mod RING_ENTRIES, and COMPLETED moves over a run of ended descriptors in index order and no
further (R387). -/
def Obligations.CompletedFollowsEndedRun : Prop :=
  (∀ (s : State) (c i : Nat),
    s.slotAddr c i = s.cget c O_RING_BASE + 64 + 64 * (i % s.cget c O_RING_ENTRIES)) ∧
  (∀ (s : State) (c : Nat), c < 1024 → s.cget c O_COMPLETED < 2 ^ 32 →
    ∃ m, (s.advance c).cget c O_COMPLETED = (s.cget c O_COMPLETED + m) % 2 ^ 32 ∧
      (∀ k, k < m → (s.cget c O_COMPLETED + k) % 2 ^ 32 ∈ (s.ctx c).ring.ended) ∧
      (m = (s.ctx c).ring.ended.length ∨ (s.cget c O_COMPLETED + m) % 2 ^ 32 ∉ (s.ctx c).ring.ended)) ∧
  (∀ (s : State) (c : Nat), c < 1024 → s.cget c O_COMPLETED ∉ (s.ctx c).ring.ended →
    (s.advance c).cget c O_COMPLETED = s.cget c O_COMPLETED)

/-- A descriptor that ends (R393): its STATUS byte holds the code and its DONE byte 01h, wherever the ring lies, and a status
other than 00h and 26h raises COMMAND_ERROR. -/
def Obligations.EndedDescriptorIsMarked : Prop :=
  ∀ (s : State) (c i code : Nat), c < 1024 → s.ckpt = none → code < 256 → 0 < s.cget c O_RING_ENTRIES →
    s.cget c O_RING_BASE + 64 + 64 * s.cget c O_RING_ENTRIES < 2 ^ 49 →
    memByte (s.endDesc c i code).mem (addrKey (s.slotAddr c i + 2)) = BitVec.ofNat 8 code ∧
      memByte (s.endDesc c i code).mem (addrKey (s.slotAddr c i + 3)) = 1 ∧
      (code ≠ 0 → code ≠ 0x26 → bitSet (s.endDesc c i code) (ctxKey c O_SQ_FLAGS) 2)

/-- STEP_MARK at its boundary (R57, R232, R252, R259): the step counter takes its number and the layer slot 0, the step's
sums move to the PREV objects and start again from 0, and the anchor is this beat. -/
def Obligations.StepMarkMovesTheStep : Prop :=
  ∀ (s : State) (c i n b : Nat), c < 1024 → s.coreUp = true → (s.ctx c).ring.marking = some (i, n, b) → b ≤ s.beat →
    s.dueBelow 4 b = false →
    ∃ t, exec (.stepMarkEffect c) s = .next t ∧ t.cget c O_STEP = n ∧ t.cget c O_STEP_ANCHOR = s.beat ∧
      t.cget c O_AMAX_FWD_PREV = s.cget c O_AMAX_FWD_STEP ∧ t.cget c O_AMAX_FWD_STEP = 0 ∧
      t.cget c O_AMAX_GRAD_PREV = s.cget c O_AMAX_GRAD_STEP ∧ t.cget c O_AMAX_GRAD_STEP = 0 ∧
      t.cget c O_PREV_STEP_DIGEST = s.cget c O_STEP_DIGEST ∧ t.cget c O_STEP_DIGEST = 0

/-- The ring's own commands touch one context: NOP, FENCE, WAIT_BEAT and DIGEST_SNAP, issued, refused or not theirs, and the
releases of a wait and of a fence leave every other context, pools, groups, work, remote operations, links and tiles as they
were. -/
def Obligations.RingCommandsTouchOneContext : Prop :=
  ∀ (s t : State) (c : Nat) (i : Instr),
    (i = .nop c ∨ i = .fence c ∨ i = .waitBeatAbsolute c ∨ i = .waitBeatRelative c ∨ i = .waitBeatRelease c ∨
      i = .fenceRelease c ∨ i = .digestSnap c ∨ i = .digestSnapCapture c) →
    exec i s = .next t →
    (∀ c', c' ≠ c → t.ctx c' = s.ctx c') ∧ t.pools = s.pools ∧ t.groups = s.groups ∧ t.items = s.items ∧
      t.gradHeld = s.gradHeld ∧ t.remotes = s.remotes ∧ t.queues = s.queues ∧ t.links = s.links ∧ t.tiles = s.tiles ∧
      t.regs = s.regs ∧ t.shadows = s.shadows ∧ (t.ctx c).windows = (s.ctx c).windows ∧
      (t.ctx c).ledgers = (s.ctx c).ledgers

/-! ### Contexts and windows -/

/-- The states of a context (R408, R409): each control write leads where the table says, when its request reaches the object
and the present state allows it; RELEASE leaves the context as it was at reset. -/
def Obligations.ContextStateTransitions : Prop :=
  ∀ (s : State) (p : Path) (c : Nat) (i : ObjInfo), c < 1024 →
    (Reaches s p (keyReq (ctxKey c O_CTX_CTRL) (leBytes 1 1)) i → s.writeCheck p (ctxKey c O_CTX_CTRL) i (leBytes 1 1) = none →
      s.cstate c = 0 → (s.paired = false ∨ s.ownHalf c = true) →
      ∃ t, exec (.claim p c) s = .next t ∧ t.cstate c = 1) ∧
    (Reaches s p (keyReq (ctxKey c O_CTX_CTRL) (leBytes 1 2)) i → s.writeCheck p (ctxKey c O_CTX_CTRL) i (leBytes 1 2) = none →
      s.cstate c = 1 → s.armCheck c = none → ∃ t, exec (.arm p c) s = .next t ∧ t.cstate c = 2) ∧
    (Reaches s p (keyReq (ctxKey c O_CTX_CTRL) (leBytes 1 3)) i → s.writeCheck p (ctxKey c O_CTX_CTRL) i (leBytes 1 3) = none →
      s.cstate c = 2 → ∃ t, exec (.disarm p c) s = .next t ∧ t.cstate c = 1) ∧
    (Reaches s p (keyReq (ctxKey c O_CTX_CTRL) (leBytes 1 6)) i → s.writeCheck p (ctxKey c O_CTX_CTRL) i (leBytes 1 6) = none →
      s.cstate c = 5 → ∃ t, exec (.resume p c) s = .next t ∧ t.cstate c = 2) ∧
    (Reaches s p (keyReq (ctxKey c O_CTX_CTRL) (leBytes 1 7)) i → s.writeCheck p (ctxKey c O_CTX_CTRL) i (leBytes 1 7) = none →
      (s.cstate c = 1 ∨ s.cstate c = 2 ∨ s.cstate c = 5 ∨ s.cstate c = 6) →
      ∃ t, exec (.release p c) s = .next t ∧ t.cstate c = 0 ∧ t.ctx c = Ctx.init)

/-- A control write that the state does not allow is refused with STATE_CONFLICT (R408, R402). -/
def Obligations.ContextControlConflicts : Prop :=
  ∀ (s : State) (c : Nat),
    (s.cstate c ≠ 0 → ctlClaim s c = .error 0x21) ∧ (s.cstate c ≠ 1 → ctlArm s c = .error 0x21) ∧
      (s.cstate c ≠ 2 → ctlDisarm s c = .error 0x21) ∧ (s.cstate c ≠ 3 → ctlDrain s c = .error 0x21) ∧
      (s.cstate c ≠ 2 → s.cstate c ≠ 3 → s.cstate c ≠ 4 → ctlHalt s c = .error 0x21) ∧
      (s.cstate c ≠ 5 → ctlResume s c = .error 0x21) ∧
      ((s.cstate c = 0 ∨ s.cstate c = 3 ∨ s.cstate c = 4 ∨ s.cstate c = 7) → ctlRelease s c = .error 0x21) ∧
      ((s.ctx c).ring.paused = false → ctlContinue s c = .error 0x21 ∧ ctlSkip s c = .error 0x21 ∧
        (s.cstate c ≠ 5 → ctlFlush s c = .error 0x21))

/-- The batch tag of a window (R9, R10): context, sequence and half; a half A takes the next sequence number, which goes on
modulo 2^21, and a half B that of the last open half A. -/
def Obligations.WindowsTakeTheirTags : Prop :=
  ∀ (s : State) (c i : Nat) (d : Bytes) (at_ : Option Nat), c < 1024 →
    (fld d 62 1 ≠ 1 → (s.ctx c).seqNext < 2 ^ 21 →
      ∃ w, w ∈ ((runLayerFwd s c i d at_).ctx c).windows ∧ w.tag = c * 2 ^ 22 + (s.ctx c).seqNext * 2 ∧ w.idx = i ∧
        tagCtx w.tag = c ∧ w.tokens = fld d 56 4 ∧ w.layerSlot = fld d 60 2 ∧ w.bwd = false ∧
        ((runLayerFwd s c i d at_).ctx c).seqNext = ((s.ctx c).seqNext + 1) % 2 ^ 21) ∧
    (fld d 62 1 = 1 → ∀ q mb, (s.ctx c).openA.getLast? = some (q, mb) →
      ∃ w, w ∈ ((runLayerFwd s c i d at_).ctx c).windows ∧ w.tag = c * 2 ^ 22 + q * 2 + 1 ∧ w.mb = mb ∧
        ((runLayerFwd s c i d at_).ctx c).seqNext = (s.ctx c).seqNext)

/-- A return record that no entry of an open window expects is discarded and counted in the context that its tag names
(R216, R218); in a FREE context it is counted nowhere. -/
def Obligations.UnmatchedReturnIsDiscarded : Prop :=
  ∀ (s : State) (r : Record), s.coreUp = true → r.hdr.tag < 2 ^ 32 → Unmatched s r →
    (s.cstate (tagCtx r.hdr.tag) ≠ 0 →
      ∃ t, exec (.returnRecord r) s = .next t ∧
        t.cget (tagCtx r.hdr.tag) O_RETURNS_UNMATCHED = (s.cget (tagCtx r.hdr.tag) O_RETURNS_UNMATCHED + 1) % 2 ^ 64 ∧
        bitSet t (ctxKey (tagCtx r.hdr.tag) O_CB_FLAGS) 0 ∧
        t.raiseCount (ctxKey (tagCtx r.hdr.tag) O_CB_FLAGS) 0
          = (s.raiseCount (ctxKey (tagCtx r.hdr.tag) O_CB_FLAGS) 0 + 1) % 2 ^ 32 ∧
        KeepsWork s t ∧
        KeepsObjects s t [ctxKey (tagCtx r.hdr.tag) O_RETURNS_UNMATCHED, ctxKey (tagCtx r.hdr.tag) O_CB_FLAGS]) ∧
    (s.cstate (tagCtx r.hdr.tag) = 0 →
      ∃ t, exec (.returnRecord r) s = .next t ∧ KeepsWork s t ∧ KeepsObjects s t [] ∧ t.raises = s.raises)

/-- A second record for an entry is discarded and counted, and the first stands (R219). -/
def Obligations.DuplicateReturnIsDiscarded : Prop :=
  ∀ (s : State) (r : Record) (w : Window) (e : LedgerCopy), s.coreUp = true → r.hdr.tag < 2 ^ 32 → Answers s r w e →
    w.answered r.hdr.token e = true →
    ∃ t, exec (.returnRecord r) s = .next t ∧
      t.cget (tagCtx r.hdr.tag) O_RETURNS_DUPLICATE = (s.cget (tagCtx r.hdr.tag) O_RETURNS_DUPLICATE + 1) % 2 ^ 64 ∧
      bitSet t (ctxKey (tagCtx r.hdr.tag) O_CB_FLAGS) 1 ∧ KeepsWork s t ∧
      KeepsObjects s t [ctxKey (tagCtx r.hdr.tag) O_RETURNS_DUPLICATE, ctxKey (tagCtx r.hdr.tag) O_CB_FLAGS]

/-! ### Remote operations -/

/-- A response whose request has ended is counted late and discarded, its value delivered nowhere (R344). -/
def Obligations.LateResponseIsDiscarded : Prop :=
  ∀ (s : State) (id status c : Nat) (data : Bytes), s.coreUp = true → c < 1024 → s.cstate c ≠ 0 →
    (∀ q ∈ s.remotes, q.req.id ≠ id) → (s.lapsed.find? fun p => p.1 == id) = some (id, c) →
    ∃ t, exec (.remoteResponse id status data) s = .next t ∧
      t.cget c O_LATE_RESPONSES = (s.cget c O_LATE_RESPONSES + 1) % 2 ^ 64 ∧ bitSet t (ctxKey c O_FABRIC_CTX_FLAGS) 3 ∧
      t.raiseCount (ctxKey c O_FABRIC_CTX_FLAGS) 3 = (s.raiseCount (ctxKey c O_FABRIC_CTX_FLAGS) 3 + 1) % 2 ^ 32 ∧
      KeepsWork s t ∧ KeepsObjects s t [ctxKey c O_LATE_RESPONSES, ctxKey c O_FABRIC_CTX_FLAGS] ∧
      (∀ m ok d, .hostRead m ok d ∈ t.out → .hostRead m ok d ∈ s.out)

/-- The head of a line queue applied (R331, R333): a store within the line leaves its bytes in memory and nothing else, an
atomic leaves the result of its operation: integers add modulo 2^32 or 2^64, compare signed, and CAS swaps on equality. -/
def Obligations.LineServiceApplies : Prop :=
  (∀ (s : State) (l : Nat) (q : Queued) (rest : List Queued), s.coreUp = true → s.ckpt = none → s.queue l = q :: rest →
    64 * l ≤ addrKey q.req.addr → addrKey q.req.addr + q.req.size ≤ 64 * l + 64 → 0 < q.req.size →
    (q.req.op = .store → q.req.data.length = q.req.size →
      ∃ t, exec (.lineQueueService l) s = .next t ∧ t.rd q.req.addr q.req.size = q.req.data ∧
        KeepsMemoryBut s t (addrKey q.req.addr) q.req.size ∧
        t.get O_STORES_APPLIED = (s.get O_STORES_APPLIED + 1) % 2 ^ 64 ∧
        .response q.req.srcNode q.req.id 0 [] ∈ t.out) ∧
    ((q.req.op = .add ∨ q.req.op = .min ∨ q.req.op = .max ∨ q.req.op = .cas) → s.isPoisoned q.req.addr q.req.size = false →
      q.merged = [] → q.silent = false →
      ∃ t, exec (.lineQueueService l) s = .next t ∧
        t.rd q.req.addr q.req.size
          = leBytes q.req.size (atomicResult q.req (leNat (s.rd q.req.addr q.req.size)) (leNat q.req.data)) ∧
        KeepsMemoryBut s t (addrKey q.req.addr) q.req.size ∧
        t.get O_ATOMICS_APPLIED = (s.get O_ATOMICS_APPLIED + 1) % 2 ^ 64)) ∧
  (∀ (r : RemoteReq) (a b : Nat),
    (r.op = .add → r.ty = .int32 → atomicResult r a b = (a + b) % 2 ^ 32) ∧
      (r.op = .add → r.ty = .int64 → atomicResult r a b = (a + b) % 2 ^ 64) ∧
      (r.op = .min → r.ty = .int32 → atomicResult r a b = if signedOf 4 a < signedOf 4 b then a else b) ∧
      (r.op = .max → r.ty = .int32 → atomicResult r a b = if signedOf 4 a < signedOf 4 b then b else a) ∧
      (r.op = .cas → atomicResult r a b = if a = leNat r.cmp then b else a))

/-! ### Numbers, levels, flags -/

/-- The sixteen codes of FP4 E2M1 (R36): the magnitudes 0, 0.5, 1, 1.5, 2, 3, 4 and 6, as sign, integer and power of two, with
both signs. -/
def Obligations.Fp4CodesHaveTheirValues : Prop :=
  ∀ neg : Bool,
    let v (code : Nat) : Val := fE2M1.dec (code + (if neg then 8 else 0))
    v 0 = .fin neg 0 (-1) ∧ v 1 = .fin neg 1 (-1) ∧ v 2 = .fin neg 2 (-1) ∧ v 3 = .fin neg 3 (-1) ∧ v 4 = .fin neg 2 0 ∧
      v 5 = .fin neg 3 0 ∧ v 6 = .fin neg 2 1 ∧ v 7 = .fin neg 3 1

/-- The level of a pool (R146, R288): the entered level when it is no better than the present one; otherwise the present level
holds until the free share is one point above its threshold. -/
def Obligations.PoolLevelsHaveHysteresis : Prop :=
  ∀ (free cnt amber red black old : Nat), old ≤ 3 → black < red → red < amber →
    let l := poolLevel free cnt amber red black old
    (old ≤ enteredLevel free cnt amber red black → l = enteredLevel free cnt amber red black) ∧
      enteredLevel free cnt amber red black ≤ l ∧
      (old = 3 → free * 100 < (black + 1) * cnt → l = 3) ∧ (old = 2 → free * 100 < (red + 1) * cnt → 2 ≤ l) ∧
      (old = 1 → free * 100 < (amber + 1) * cnt → 1 ≤ l) ∧ ((amber + 1) * cnt ≤ free * 100 → 0 < cnt → l = 0)

/-- A raised bit is set and counted; a write of 1 clears a bit and a write of 0 leaves it (R441, R442). The other bits, the
other objects and the other counts stay, and clearing changes no raise count. -/
def Obligations.FlagsRaiseAndClear : Prop :=
  (∀ (s : State) (k b : Nat), b < 32 →
    bitSet (s.raise k b) k b ∧ (s.raise k b).raiseCount k b = (s.raiseCount k b + 1) % 2 ^ 32 ∧
      (∀ b', b' ≠ b → (s.raise k b).get k / 2 ^ b' % 2 = s.get k / 2 ^ b' % 2) ∧
      (∀ k', k' ≠ k → (s.raise k b).get k' = s.get k') ∧
      (∀ k' b', b' < 32 → (k', b') ≠ (k, b) → (s.raise k b).raiseCount k' b' = s.raiseCount k' b')) ∧
  (∀ (s : State) (k mask : Nat),
    (∀ b, (s.clearBits k mask).get k / 2 ^ b % 2 = if mask / 2 ^ b % 2 = 1 then 0 else s.get k / 2 ^ b % 2) ∧
      (∀ k', k' ≠ k → (s.clearBits k mask).get k' = s.get k') ∧ (s.clearBits k mask).raises = s.raises)

/-! ### The dictionary -/

/-- A READ that reaches its object answers 00h with its bytes and their whole length (R424, R425), and changes nothing but the
counters of requests. -/
def Obligations.ReadAnswersTheValue : Prop :=
  ∀ (s : State) (p : Path) (ver index sub : Nat) (i : ObjInfo), Reaches s p (pathReq 1 ver index sub 0 0 false []) i →
    ∃ t, exec (.read p ver index sub) s = .next t ∧
      .dict p 129 ver 0 i.ty.code i.access (if i.ty.len = 0 then tblGet 0 s.gens (index * 256 + sub) else 0)
          (s.objBytes p (index * 256 + sub) i).length
          ((s.objBytes p (index * 256 + sub) i).take (pathLimit p ver)) ∈ t.out ∧
      KeepsWork s t ∧ t.raises = s.raises ∧ t.staged = s.staged ∧ t.selectors = s.selectors ∧
      ∀ k, k ≠ O_DICT_REQUESTS → k ≠ unitKey (s.dictCore index) O_CORE_DICT_SERVED →
        (∀ m, k ≠ unitKey m O_HA_MAILBOX_REQUESTS) → (∀ c, k ≠ ctxKey c O_CTX_STATE) → k ≠ O_MIRROR_BYTES →
        k ≠ O_NOTICES_SENT → t.get k = s.get k

/-- A WRITE that fails a check of orders 1 to 5 is answered with that check's code and has no side effect (R426): only the
counters of requests, and for ACCESS_DENIED its flag and record, move. -/
def Obligations.RefusedWriteHasNoEffect : Prop :=
  ∀ (s : State) (p : Path) (ver index sub : Nat) (data : Bytes) (code : Nat), s.reqWaits p index = false →
    (∀ n, p = .vc0 n → s.heldVc0 < 64) →
    s.reachCheck p (pathReq 2 ver index sub 0 data.length false data) = some code →
    ∃ t, exec (.write p ver index sub data) s = .next t ∧
      (∃ ty access gen, .dict p 130 ver code ty access gen 0 [] ∈ t.out) ∧ KeepsWork s t ∧ t.staged = s.staged ∧
      t.selectors = s.selectors ∧ (code ≠ 0x11 → t.raises = s.raises ∧ t.lastDenied = s.lastDenied) ∧
      (code = 0x11 → bitSet t O_DICT_FLAGS 0) ∧
      ∀ k, k ≠ O_DICT_REQUESTS → k ≠ O_DICT_REFUSED → k ≠ O_DICT_FLAGS →
        k ≠ unitKey (s.dictCore index) O_CORE_DICT_SERVED → (∀ m, k ≠ unitKey m O_HA_MAILBOX_REQUESTS) →
        (∀ c, k ≠ ctxKey c O_CTX_STATE) → k ≠ O_MIRROR_BYTES → k ≠ O_NOTICES_SENT → t.get k = s.get k

/-- DEADLINE_BEATS, a U16, takes 8 to 65,535 and keeps its value at any other (R12); no open window changes with it. -/
def Obligations.DeadlineBeatsHoldTheirRange : Prop :=
  ∀ (s : State) (p : Path) (c v : Nat) (i : ObjInfo), c < 1024 → v < 2 ^ 16 →
    objAt (ctxKey c O_DEADLINE_BEATS / 256) (ctxKey c O_DEADLINE_BEATS % 256) = some i →
    s.writableNow p (ctxKey c O_DEADLINE_BEATS) i v = true →
    (8 ≤ v →
      ∃ t, s.writeObj p (ctxKey c O_DEADLINE_BEATS) i (leBytes 2 v) Around.none = .ok t ∧ t.cget c O_DEADLINE_BEATS = v ∧
        t.ctx c = s.ctx c) ∧
    (v < 8 → s.writeObj p (ctxKey c O_DEADLINE_BEATS) i (leBytes 2 v) Around.none = .error 0x12)

/-- A write that would make a 65th context D2 is refused with RESOURCE_LIMIT (R25), and the level stays: no state follows. -/
def Obligations.SixtyFifthD2IsRefused : Prop :=
  ∀ (s : State) (p : Path) (c : Nat) (i : ObjInfo), c < 1024 →
    objAt (ctxKey c O_DET_LEVEL / 256) (ctxKey c O_DET_LEVEL % 256) = some i → s.cstate c = 1 →
    s.writeCheck p (ctxKey c O_DET_LEVEL) i (leBytes 1 2) = none → s.det c ≠ 2 → 64 ≤ s.d2Count →
    s.cget c O_RESERVE_CHECK = 1 → ¬ (s.cget c O_CARAMEL_MODE = 1 ∧ s.cget c O_SCOPE = 0) →
    s.writeObj p (ctxKey c O_DET_LEVEL) i (leBytes 1 2) Around.none = .error 0x23

/-! ### Frames of the other families -/

/-- Management, the reads of the dictionary, announcements, link layer and beat: none of them touches a context, a pool, a
group, work, a remote operation or memory. -/
def Obligations.QuietCommandsKeepWork : Prop :=
  ∀ (s t : State) (i : Instr),
    ((∃ a, i = .entdaa a) ∨ (∃ b e, i = .setEndpointId b e) ∨ (∃ b, i = .getEndpointId b) ∨
      (∃ b, i = .getMctpVersionSupport b) ∨ (∃ b, i = .getMessageTypeSupport b) ∨
      (∃ b, i = .getVendorDefinedMessageSupport b) ∨ i = .getVersion ∨ i = .getCapabilities ∨ i = .negotiateAlgorithms ∨
      i = .getDigests ∨ (∃ a b c, i = .getCertificate a b c) ∨ (∃ a b, i = .challenge a b) ∨
      (∃ a b c, i = .getMeasurements a b c) ∨ (∃ p v x y, i = .read p v x y) ∨
      (∃ p v x y a b, i = .readSeg p v x y a b) ∨ (∃ p v x o, i = .enumerate p v x o) ∨
      (∃ p v x y, i = .flagCounts p v x y) ∨ (∃ p v x y m, i = .flagClear p v x y m) ∨
      (∃ p v l, i = .readBatch p v l) ∨ (∃ a b c d e, i = .frameRx a b c d e) ∨ (∃ a b, i = .ctrlFrame a b) ∨
      (∃ a b c d, i = .transitForward a b c d) ∨ (∃ a b c d, i = .bypassFrame a b c d) ∨ (∃ a, i = .linkRetrain a) ∨
      (∃ a b, i = .linkDelayMeasure a b) ∨ (∃ a b, i = .laneFailed a b) ∨ (∃ a, i = .bypassAnnouncement a) ∨
      i = .beatLost ∨ i = .holdoverLimitPassed ∨ (∃ e, i = .beatSkew e) ∨ (∃ n, i = .probe n) ∨ i = .profileChange ∨
      i = .noticeIntervalEnd ∨ i = .mirrorLag ∨ (∃ b w, i = .heartbeat b w) ∨ i = .latchCapture ∨ i = .resetNHigh ∨
      i = .pwrAlertNLow ∨ i = .pwrAlertNRelease ∨ (∃ a b, i = .powerControl a b)) →
    exec i s = .next t → KeepsWork s t

/-- The beat's own events change no object but theirs (R240, R247 to R249). -/
def Obligations.BeatEventsKeepObjects : Prop :=
  ∀ s t : State,
    (exec .beatLost s = .next t → KeepsObjects s t [O_BEAT_STATE, O_BEAT_FLAGS, O_BEAT_LOST_COUNT]) ∧
      (exec .holdoverLimitPassed s = .next t → KeepsObjects s t [O_BEAT_FLAGS]) ∧
      (∀ e, exec (.beatSkew e) s = .next t → KeepsObjects s t [O_BEAT_FLAGS, O_SKEW_ESTIMATE]) ∧
      (s.get O_BEAT_STATE = 3 → exec .beatBoundary s = .next t → KeepsObjects s t [] ∧ KeepsWork s t)

/-- The engine quarantined (R454): it leaves service, every context is lost and it is in bypass. -/
def Obligations.QuarantineEndsEveryContext : Prop :=
  ∀ (s : State) (tile cell : Nat), s.coreUp = true →
    ∃ t, exec (.cellFault tile cell .spineUncorrectable) s = .next t ∧ t.get O_ENGINE_STATE = 3 ∧ t.coreUp = false ∧
      (∀ c, c < 1024 → t.cstate c = 0 ∧ t.ctx c = Ctx.init) ∧ t.get O_BYPASS_STATE = 1 ∧ bitSet t O_GD_FLAGS 3
end

