-- ==== Sys2Proof/Laws/State.lean ====
section
/-! SUPPORT. What each elementary update of the state leaves as it was: one lemma per update and field, true by `rfl`. -/

namespace Sys2Proof.Machine

/-! ### State.put -/

@[simp] theorem State.put_pending (s : State) (k v : Nat) : (s.put k v).pending = s.pending := rfl
@[simp] theorem State.put_raises (s : State) (k v : Nat) : (s.put k v).raises = s.raises := rfl
@[simp] theorem State.put_gens (s : State) (k v : Nat) : (s.put k v).gens = s.gens := rfl
@[simp] theorem State.put_mem (s : State) (k v : Nat) : (s.put k v).mem = s.mem := rfl
@[simp] theorem State.put_poisoned (s : State) (k v : Nat) : (s.put k v).poisoned = s.poisoned := rfl
@[simp] theorem State.put_ctxs (s : State) (k v : Nat) : (s.put k v).ctxs = s.ctxs := rfl
@[simp] theorem State.put_pools (s : State) (k v : Nat) : (s.put k v).pools = s.pools := rfl
@[simp] theorem State.put_groups (s : State) (k v : Nat) : (s.put k v).groups = s.groups := rfl
@[simp] theorem State.put_tiles (s : State) (k v : Nat) : (s.put k v).tiles = s.tiles := rfl
@[simp] theorem State.put_regs (s : State) (k v : Nat) : (s.put k v).regs = s.regs := rfl
@[simp] theorem State.put_links (s : State) (k v : Nat) : (s.put k v).links = s.links := rfl
@[simp] theorem State.put_mailboxes (s : State) (k v : Nat) : (s.put k v).mailboxes = s.mailboxes := rfl
@[simp] theorem State.put_selectors (s : State) (k v : Nat) : (s.put k v).selectors = s.selectors := rfl
@[simp] theorem State.put_staged (s : State) (k v : Nat) : (s.put k v).staged = s.staged := rfl
@[simp] theorem State.put_hostGrants (s : State) (k v : Nat) : (s.put k v).hostGrants = s.hostGrants := rfl
@[simp] theorem State.put_fabricGrants (s : State) (k v : Nat) : (s.put k v).fabricGrants = s.fabricGrants := rfl
@[simp] theorem State.put_mctpGrant (s : State) (k v : Nat) : (s.put k v).mctpGrant = s.mctpGrant := rfl
@[simp] theorem State.put_mctpLowered (s : State) (k v : Nat) : (s.put k v).mctpLowered = s.mctpLowered := rfl
@[simp] theorem State.put_lastDenied (s : State) (k v : Nat) : (s.put k v).lastDenied = s.lastDenied := rfl
@[simp] theorem State.put_apertures (s : State) (k v : Nat) : (s.put k v).apertures = s.apertures := rfl
@[simp] theorem State.put_haModules (s : State) (k v : Nat) : (s.put k v).haModules = s.haModules := rfl
@[simp] theorem State.put_stackCaps (s : State) (k v : Nat) : (s.put k v).stackCaps = s.stackCaps := rfl
@[simp] theorem State.put_linkGenMax (s : State) (k v : Nat) : (s.put k v).linkGenMax = s.linkGenMax := rfl
@[simp] theorem State.put_vcWeight (s : State) (k v : Nat) : (s.put k v).vcWeight = s.vcWeight := rfl
@[simp] theorem State.put_bypassed (s : State) (k v : Nat) : (s.put k v).bypassed = s.bypassed := rfl
@[simp] theorem State.put_spineDown (s : State) (k v : Nat) : (s.put k v).spineDown = s.spineDown := rfl
@[simp] theorem State.put_announced (s : State) (k v : Nat) : (s.put k v).announced = s.announced := rfl
@[simp] theorem State.put_serial (s : State) (k v : Nat) : (s.put k v).serial = s.serial := rfl
@[simp] theorem State.put_deadNodes (s : State) (k v : Nat) : (s.put k v).deadNodes = s.deadNodes := rfl
@[simp] theorem State.put_hotLines (s : State) (k v : Nat) : (s.put k v).hotLines = s.hotLines := rfl
@[simp] theorem State.put_queues (s : State) (k v : Nat) : (s.put k v).queues = s.queues := rfl
@[simp] theorem State.put_remotes (s : State) (k v : Nat) : (s.put k v).remotes = s.remotes := rfl
@[simp] theorem State.put_nextId (s : State) (k v : Nat) : (s.put k v).nextId = s.nextId := rfl
@[simp] theorem State.put_lapsed (s : State) (k v : Nat) : (s.put k v).lapsed = s.lapsed := rfl
@[simp] theorem State.put_holdVc4 (s : State) (k v : Nat) : (s.put k v).holdVc4 = s.holdVc4 := rfl
@[simp] theorem State.put_redirects (s : State) (k v : Nat) : (s.put k v).redirects = s.redirects := rfl
@[simp] theorem State.put_items (s : State) (k v : Nat) : (s.put k v).items = s.items := rfl
@[simp] theorem State.put_gradHeld (s : State) (k v : Nat) : (s.put k v).gradHeld = s.gradHeld := rfl
@[simp] theorem State.put_nextItem (s : State) (k v : Nat) : (s.put k v).nextItem = s.nextItem := rfl
@[simp] theorem State.put_wipingPages (s : State) (k v : Nat) : (s.put k v).wipingPages = s.wipingPages := rfl
@[simp] theorem State.put_wipingExtents (s : State) (k v : Nat) : (s.put k v).wipingExtents = s.wipingExtents := rfl
@[simp] theorem State.put_deadPages (s : State) (k v : Nat) : (s.put k v).deadPages = s.deadPages := rfl
@[simp] theorem State.put_deadExtents (s : State) (k v : Nat) : (s.put k v).deadExtents = s.deadExtents := rfl
@[simp] theorem State.put_partnerPages (s : State) (k v : Nat) : (s.put k v).partnerPages = s.partnerPages := rfl
@[simp] theorem State.put_partnerExtents (s : State) (k v : Nat) : (s.put k v).partnerExtents = s.partnerExtents := rfl
@[simp] theorem State.put_beatSeen (s : State) (k v : Nat) : (s.put k v).beatSeen = s.beatSeen := rfl
@[simp] theorem State.put_freqCorr (s : State) (k v : Nat) : (s.put k v).freqCorr = s.freqCorr := rfl
@[simp] theorem State.put_skewRun (s : State) (k v : Nat) : (s.put k v).skewRun = s.skewRun := rfl
@[simp] theorem State.put_holdTo (s : State) (k v : Nat) : (s.put k v).holdTo = s.holdTo := rfl
@[simp] theorem State.put_jumpBy (s : State) (k v : Nat) : (s.put k v).jumpBy = s.jumpBy := rfl
@[simp] theorem State.put_holdStart (s : State) (k v : Nat) : (s.put k v).holdStart = s.holdStart := rfl
@[simp] theorem State.put_lastExtern (s : State) (k v : Nat) : (s.put k v).lastExtern = s.lastExtern := rfl
@[simp] theorem State.put_log (s : State) (k v : Nat) : (s.put k v).log = s.log := rfl
@[simp] theorem State.put_coreStates (s : State) (k v : Nat) : (s.put k v).coreStates = s.coreStates := rfl
@[simp] theorem State.put_coreFaults (s : State) (k v : Nat) : (s.put k v).coreFaults = s.coreFaults := rfl
@[simp] theorem State.put_coreWords (s : State) (k v : Nat) : (s.put k v).coreWords = s.coreWords := rfl
@[simp] theorem State.put_exceeded (s : State) (k v : Nat) : (s.put k v).exceeded = s.exceeded := rfl
@[simp] theorem State.put_scrubLate (s : State) (k v : Nat) : (s.put k v).scrubLate = s.scrubLate := rfl
@[simp] theorem State.put_shadows (s : State) (k v : Nat) : (s.put k v).shadows = s.shadows := rfl
@[simp] theorem State.put_heldHalf (s : State) (k v : Nat) : (s.put k v).heldHalf = s.heldHalf := rfl
@[simp] theorem State.put_lastHeart (s : State) (k v : Nat) : (s.put k v).lastHeart = s.lastHeart := rfl
@[simp] theorem State.put_heartMissed (s : State) (k v : Nat) : (s.put k v).heartMissed = s.heartMissed := rfl
@[simp] theorem State.put_probing (s : State) (k v : Nat) : (s.put k v).probing = s.probing := rfl
@[simp] theorem State.put_taking (s : State) (k v : Nat) : (s.put k v).taking = s.taking := rfl
@[simp] theorem State.put_mirrorNext (s : State) (k v : Nat) : (s.put k v).mirrorNext = s.mirrorNext := rfl
@[simp] theorem State.put_unacked (s : State) (k v : Nat) : (s.put k v).unacked = s.unacked := rfl
@[simp] theorem State.put_handing (s : State) (k v : Nat) : (s.put k v).handing = s.handing := rfl
@[simp] theorem State.put_takeoverLast (s : State) (k v : Nat) : (s.put k v).takeoverLast = s.takeoverLast := rfl
@[simp] theorem State.put_partnerWords (s : State) (k v : Nat) : (s.put k v).partnerWords = s.partnerWords := rfl
@[simp] theorem State.put_startStep (s : State) (k v : Nat) : (s.put k v).startStep = s.startStep := rfl
@[simp] theorem State.put_attempts (s : State) (k v : Nat) : (s.put k v).attempts = s.attempts := rfl
@[simp] theorem State.put_partnerJournal (s : State) (k v : Nat) : (s.put k v).partnerJournal = s.partnerJournal := rfl
@[simp] theorem State.put_policy (s : State) (k v : Nat) : (s.put k v).policy = s.policy := rfl
@[simp] theorem State.put_ownerKey (s : State) (k v : Nat) : (s.put k v).ownerKey = s.ownerKey := rfl
@[simp] theorem State.put_challenges (s : State) (k v : Nat) : (s.put k v).challenges = s.challenges := rfl
@[simp] theorem State.put_sessions (s : State) (k v : Nat) : (s.put k v).sessions = s.sessions := rfl
@[simp] theorem State.put_debugLocked (s : State) (k v : Nat) : (s.put k v).debugLocked = s.debugLocked := rfl
@[simp] theorem State.put_debugImage (s : State) (k v : Nat) : (s.put k v).debugImage = s.debugImage := rfl
@[simp] theorem State.put_keepSteps (s : State) (k v : Nat) : (s.put k v).keepSteps = s.keepSteps := rfl
@[simp] theorem State.put_hbmStacks (s : State) (k v : Nat) : (s.put k v).hbmStacks = s.hbmStacks := rfl
@[simp] theorem State.put_measured (s : State) (k v : Nat) : (s.put k v).measured = s.measured := rfl
@[simp] theorem State.put_spdmState (s : State) (k v : Nat) : (s.put k v).spdmState = s.spdmState := rfl
@[simp] theorem State.put_ownerRetired (s : State) (k v : Nat) : (s.put k v).ownerRetired = s.ownerRetired := rfl
@[simp] theorem State.put_ckptStates (s : State) (k v : Nat) : (s.put k v).ckptStates = s.ckptStates := rfl
@[simp] theorem State.put_ckptInfo (s : State) (k v : Nat) : (s.put k v).ckptInfo = s.ckptInfo := rfl
@[simp] theorem State.put_ckpt (s : State) (k v : Nat) : (s.put k v).ckpt = s.ckpt := rfl
@[simp] theorem State.put_restoring (s : State) (k v : Nat) : (s.put k v).restoring = s.restoring := rfl
@[simp] theorem State.put_latchDue (s : State) (k v : Nat) : (s.put k v).latchDue = s.latchDue := rfl
@[simp] theorem State.put_latched (s : State) (k v : Nat) : (s.put k v).latched = s.latched := rfl
@[simp] theorem State.put_tempRegion (s : State) (k v : Nat) : (s.put k v).tempRegion = s.tempRegion := rfl
@[simp] theorem State.put_resetN (s : State) (k v : Nat) : (s.put k v).resetN = s.resetN := rfl
@[simp] theorem State.put_corePg (s : State) (k v : Nat) : (s.put k v).corePg = s.corePg := rfl
@[simp] theorem State.put_pwrAlert (s : State) (k v : Nat) : (s.put k v).pwrAlert = s.pwrAlert := rfl
@[simp] theorem State.put_thermTrip (s : State) (k v : Nat) : (s.put k v).thermTrip = s.thermTrip := rfl
@[simp] theorem State.put_powerSteps (s : State) (k v : Nat) : (s.put k v).powerSteps = s.powerSteps := rfl
@[simp] theorem State.put_powerQuiet (s : State) (k v : Nat) : (s.put k v).powerQuiet = s.powerQuiet := rfl
@[simp] theorem State.put_thermSteps (s : State) (k v : Nat) : (s.put k v).thermSteps = s.thermSteps := rfl
@[simp] theorem State.put_thermBeats (s : State) (k v : Nat) : (s.put k v).thermBeats = s.thermBeats := rfl
@[simp] theorem State.put_thermCool (s : State) (k v : Nat) : (s.put k v).thermCool = s.thermCool := rfl
@[simp] theorem State.put_noticeAt (s : State) (k v : Nat) : (s.put k v).noticeAt = s.noticeAt := rfl
@[simp] theorem State.put_noticeDue (s : State) (k v : Nat) : (s.put k v).noticeDue = s.noticeDue := rfl
@[simp] theorem State.put_deadSent (s : State) (k v : Nat) : (s.put k v).deadSent = s.deadSent := rfl
@[simp] theorem State.put_i3cAddr (s : State) (k v : Nat) : (s.put k v).i3cAddr = s.i3cAddr := rfl
@[simp] theorem State.put_out (s : State) (k v : Nat) : (s.put k v).out = s.out := rfl
@[simp] theorem State.put_freeCtr (s : State) (k v : Nat) : (s.put k v).freeCtr = s.freeCtr := rfl

/-! ### State.genUp -/

@[simp] theorem State.genUp_pending (s : State) (k : Nat) : (s.genUp k).pending = s.pending := rfl
@[simp] theorem State.genUp_objs (s : State) (k : Nat) : (s.genUp k).objs = s.objs := rfl
@[simp] theorem State.genUp_raises (s : State) (k : Nat) : (s.genUp k).raises = s.raises := rfl
@[simp] theorem State.genUp_mem (s : State) (k : Nat) : (s.genUp k).mem = s.mem := rfl
@[simp] theorem State.genUp_poisoned (s : State) (k : Nat) : (s.genUp k).poisoned = s.poisoned := rfl
@[simp] theorem State.genUp_ctxs (s : State) (k : Nat) : (s.genUp k).ctxs = s.ctxs := rfl
@[simp] theorem State.genUp_pools (s : State) (k : Nat) : (s.genUp k).pools = s.pools := rfl
@[simp] theorem State.genUp_groups (s : State) (k : Nat) : (s.genUp k).groups = s.groups := rfl
@[simp] theorem State.genUp_tiles (s : State) (k : Nat) : (s.genUp k).tiles = s.tiles := rfl
@[simp] theorem State.genUp_regs (s : State) (k : Nat) : (s.genUp k).regs = s.regs := rfl
@[simp] theorem State.genUp_links (s : State) (k : Nat) : (s.genUp k).links = s.links := rfl
@[simp] theorem State.genUp_mailboxes (s : State) (k : Nat) : (s.genUp k).mailboxes = s.mailboxes := rfl
@[simp] theorem State.genUp_selectors (s : State) (k : Nat) : (s.genUp k).selectors = s.selectors := rfl
@[simp] theorem State.genUp_staged (s : State) (k : Nat) : (s.genUp k).staged = s.staged := rfl
@[simp] theorem State.genUp_hostGrants (s : State) (k : Nat) : (s.genUp k).hostGrants = s.hostGrants := rfl
@[simp] theorem State.genUp_fabricGrants (s : State) (k : Nat) : (s.genUp k).fabricGrants = s.fabricGrants := rfl
@[simp] theorem State.genUp_mctpGrant (s : State) (k : Nat) : (s.genUp k).mctpGrant = s.mctpGrant := rfl
@[simp] theorem State.genUp_mctpLowered (s : State) (k : Nat) : (s.genUp k).mctpLowered = s.mctpLowered := rfl
@[simp] theorem State.genUp_lastDenied (s : State) (k : Nat) : (s.genUp k).lastDenied = s.lastDenied := rfl
@[simp] theorem State.genUp_apertures (s : State) (k : Nat) : (s.genUp k).apertures = s.apertures := rfl
@[simp] theorem State.genUp_haModules (s : State) (k : Nat) : (s.genUp k).haModules = s.haModules := rfl
@[simp] theorem State.genUp_stackCaps (s : State) (k : Nat) : (s.genUp k).stackCaps = s.stackCaps := rfl
@[simp] theorem State.genUp_linkGenMax (s : State) (k : Nat) : (s.genUp k).linkGenMax = s.linkGenMax := rfl
@[simp] theorem State.genUp_vcWeight (s : State) (k : Nat) : (s.genUp k).vcWeight = s.vcWeight := rfl
@[simp] theorem State.genUp_bypassed (s : State) (k : Nat) : (s.genUp k).bypassed = s.bypassed := rfl
@[simp] theorem State.genUp_spineDown (s : State) (k : Nat) : (s.genUp k).spineDown = s.spineDown := rfl
@[simp] theorem State.genUp_announced (s : State) (k : Nat) : (s.genUp k).announced = s.announced := rfl
@[simp] theorem State.genUp_serial (s : State) (k : Nat) : (s.genUp k).serial = s.serial := rfl
@[simp] theorem State.genUp_deadNodes (s : State) (k : Nat) : (s.genUp k).deadNodes = s.deadNodes := rfl
@[simp] theorem State.genUp_hotLines (s : State) (k : Nat) : (s.genUp k).hotLines = s.hotLines := rfl
@[simp] theorem State.genUp_queues (s : State) (k : Nat) : (s.genUp k).queues = s.queues := rfl
@[simp] theorem State.genUp_remotes (s : State) (k : Nat) : (s.genUp k).remotes = s.remotes := rfl
@[simp] theorem State.genUp_nextId (s : State) (k : Nat) : (s.genUp k).nextId = s.nextId := rfl
@[simp] theorem State.genUp_lapsed (s : State) (k : Nat) : (s.genUp k).lapsed = s.lapsed := rfl
@[simp] theorem State.genUp_holdVc4 (s : State) (k : Nat) : (s.genUp k).holdVc4 = s.holdVc4 := rfl
@[simp] theorem State.genUp_redirects (s : State) (k : Nat) : (s.genUp k).redirects = s.redirects := rfl
@[simp] theorem State.genUp_items (s : State) (k : Nat) : (s.genUp k).items = s.items := rfl
@[simp] theorem State.genUp_gradHeld (s : State) (k : Nat) : (s.genUp k).gradHeld = s.gradHeld := rfl
@[simp] theorem State.genUp_nextItem (s : State) (k : Nat) : (s.genUp k).nextItem = s.nextItem := rfl
@[simp] theorem State.genUp_wipingPages (s : State) (k : Nat) : (s.genUp k).wipingPages = s.wipingPages := rfl
@[simp] theorem State.genUp_wipingExtents (s : State) (k : Nat) : (s.genUp k).wipingExtents = s.wipingExtents := rfl
@[simp] theorem State.genUp_deadPages (s : State) (k : Nat) : (s.genUp k).deadPages = s.deadPages := rfl
@[simp] theorem State.genUp_deadExtents (s : State) (k : Nat) : (s.genUp k).deadExtents = s.deadExtents := rfl
@[simp] theorem State.genUp_partnerPages (s : State) (k : Nat) : (s.genUp k).partnerPages = s.partnerPages := rfl
@[simp] theorem State.genUp_partnerExtents (s : State) (k : Nat) : (s.genUp k).partnerExtents = s.partnerExtents := rfl
@[simp] theorem State.genUp_beatSeen (s : State) (k : Nat) : (s.genUp k).beatSeen = s.beatSeen := rfl
@[simp] theorem State.genUp_freqCorr (s : State) (k : Nat) : (s.genUp k).freqCorr = s.freqCorr := rfl
@[simp] theorem State.genUp_skewRun (s : State) (k : Nat) : (s.genUp k).skewRun = s.skewRun := rfl
@[simp] theorem State.genUp_holdTo (s : State) (k : Nat) : (s.genUp k).holdTo = s.holdTo := rfl
@[simp] theorem State.genUp_jumpBy (s : State) (k : Nat) : (s.genUp k).jumpBy = s.jumpBy := rfl
@[simp] theorem State.genUp_holdStart (s : State) (k : Nat) : (s.genUp k).holdStart = s.holdStart := rfl
@[simp] theorem State.genUp_lastExtern (s : State) (k : Nat) : (s.genUp k).lastExtern = s.lastExtern := rfl
@[simp] theorem State.genUp_log (s : State) (k : Nat) : (s.genUp k).log = s.log := rfl
@[simp] theorem State.genUp_coreStates (s : State) (k : Nat) : (s.genUp k).coreStates = s.coreStates := rfl
@[simp] theorem State.genUp_coreFaults (s : State) (k : Nat) : (s.genUp k).coreFaults = s.coreFaults := rfl
@[simp] theorem State.genUp_coreWords (s : State) (k : Nat) : (s.genUp k).coreWords = s.coreWords := rfl
@[simp] theorem State.genUp_exceeded (s : State) (k : Nat) : (s.genUp k).exceeded = s.exceeded := rfl
@[simp] theorem State.genUp_scrubLate (s : State) (k : Nat) : (s.genUp k).scrubLate = s.scrubLate := rfl
@[simp] theorem State.genUp_shadows (s : State) (k : Nat) : (s.genUp k).shadows = s.shadows := rfl
@[simp] theorem State.genUp_heldHalf (s : State) (k : Nat) : (s.genUp k).heldHalf = s.heldHalf := rfl
@[simp] theorem State.genUp_lastHeart (s : State) (k : Nat) : (s.genUp k).lastHeart = s.lastHeart := rfl
@[simp] theorem State.genUp_heartMissed (s : State) (k : Nat) : (s.genUp k).heartMissed = s.heartMissed := rfl
@[simp] theorem State.genUp_probing (s : State) (k : Nat) : (s.genUp k).probing = s.probing := rfl
@[simp] theorem State.genUp_taking (s : State) (k : Nat) : (s.genUp k).taking = s.taking := rfl
@[simp] theorem State.genUp_mirrorNext (s : State) (k : Nat) : (s.genUp k).mirrorNext = s.mirrorNext := rfl
@[simp] theorem State.genUp_unacked (s : State) (k : Nat) : (s.genUp k).unacked = s.unacked := rfl
@[simp] theorem State.genUp_handing (s : State) (k : Nat) : (s.genUp k).handing = s.handing := rfl
@[simp] theorem State.genUp_takeoverLast (s : State) (k : Nat) : (s.genUp k).takeoverLast = s.takeoverLast := rfl
@[simp] theorem State.genUp_partnerWords (s : State) (k : Nat) : (s.genUp k).partnerWords = s.partnerWords := rfl
@[simp] theorem State.genUp_startStep (s : State) (k : Nat) : (s.genUp k).startStep = s.startStep := rfl
@[simp] theorem State.genUp_attempts (s : State) (k : Nat) : (s.genUp k).attempts = s.attempts := rfl
@[simp] theorem State.genUp_partnerJournal (s : State) (k : Nat) : (s.genUp k).partnerJournal = s.partnerJournal := rfl
@[simp] theorem State.genUp_policy (s : State) (k : Nat) : (s.genUp k).policy = s.policy := rfl
@[simp] theorem State.genUp_ownerKey (s : State) (k : Nat) : (s.genUp k).ownerKey = s.ownerKey := rfl
@[simp] theorem State.genUp_challenges (s : State) (k : Nat) : (s.genUp k).challenges = s.challenges := rfl
@[simp] theorem State.genUp_sessions (s : State) (k : Nat) : (s.genUp k).sessions = s.sessions := rfl
@[simp] theorem State.genUp_debugLocked (s : State) (k : Nat) : (s.genUp k).debugLocked = s.debugLocked := rfl
@[simp] theorem State.genUp_debugImage (s : State) (k : Nat) : (s.genUp k).debugImage = s.debugImage := rfl
@[simp] theorem State.genUp_keepSteps (s : State) (k : Nat) : (s.genUp k).keepSteps = s.keepSteps := rfl
@[simp] theorem State.genUp_hbmStacks (s : State) (k : Nat) : (s.genUp k).hbmStacks = s.hbmStacks := rfl
@[simp] theorem State.genUp_measured (s : State) (k : Nat) : (s.genUp k).measured = s.measured := rfl
@[simp] theorem State.genUp_spdmState (s : State) (k : Nat) : (s.genUp k).spdmState = s.spdmState := rfl
@[simp] theorem State.genUp_ownerRetired (s : State) (k : Nat) : (s.genUp k).ownerRetired = s.ownerRetired := rfl
@[simp] theorem State.genUp_ckptStates (s : State) (k : Nat) : (s.genUp k).ckptStates = s.ckptStates := rfl
@[simp] theorem State.genUp_ckptInfo (s : State) (k : Nat) : (s.genUp k).ckptInfo = s.ckptInfo := rfl
@[simp] theorem State.genUp_ckpt (s : State) (k : Nat) : (s.genUp k).ckpt = s.ckpt := rfl
@[simp] theorem State.genUp_restoring (s : State) (k : Nat) : (s.genUp k).restoring = s.restoring := rfl
@[simp] theorem State.genUp_latchDue (s : State) (k : Nat) : (s.genUp k).latchDue = s.latchDue := rfl
@[simp] theorem State.genUp_latched (s : State) (k : Nat) : (s.genUp k).latched = s.latched := rfl
@[simp] theorem State.genUp_tempRegion (s : State) (k : Nat) : (s.genUp k).tempRegion = s.tempRegion := rfl
@[simp] theorem State.genUp_resetN (s : State) (k : Nat) : (s.genUp k).resetN = s.resetN := rfl
@[simp] theorem State.genUp_corePg (s : State) (k : Nat) : (s.genUp k).corePg = s.corePg := rfl
@[simp] theorem State.genUp_pwrAlert (s : State) (k : Nat) : (s.genUp k).pwrAlert = s.pwrAlert := rfl
@[simp] theorem State.genUp_thermTrip (s : State) (k : Nat) : (s.genUp k).thermTrip = s.thermTrip := rfl
@[simp] theorem State.genUp_powerSteps (s : State) (k : Nat) : (s.genUp k).powerSteps = s.powerSteps := rfl
@[simp] theorem State.genUp_powerQuiet (s : State) (k : Nat) : (s.genUp k).powerQuiet = s.powerQuiet := rfl
@[simp] theorem State.genUp_thermSteps (s : State) (k : Nat) : (s.genUp k).thermSteps = s.thermSteps := rfl
@[simp] theorem State.genUp_thermBeats (s : State) (k : Nat) : (s.genUp k).thermBeats = s.thermBeats := rfl
@[simp] theorem State.genUp_thermCool (s : State) (k : Nat) : (s.genUp k).thermCool = s.thermCool := rfl
@[simp] theorem State.genUp_noticeAt (s : State) (k : Nat) : (s.genUp k).noticeAt = s.noticeAt := rfl
@[simp] theorem State.genUp_noticeDue (s : State) (k : Nat) : (s.genUp k).noticeDue = s.noticeDue := rfl
@[simp] theorem State.genUp_deadSent (s : State) (k : Nat) : (s.genUp k).deadSent = s.deadSent := rfl
@[simp] theorem State.genUp_i3cAddr (s : State) (k : Nat) : (s.genUp k).i3cAddr = s.i3cAddr := rfl
@[simp] theorem State.genUp_out (s : State) (k : Nat) : (s.genUp k).out = s.out := rfl
@[simp] theorem State.genUp_freeCtr (s : State) (k : Nat) : (s.genUp k).freeCtr = s.freeCtr := rfl

/-! ### State.raise -/

@[simp] theorem State.raise_pending (s : State) (k b : Nat) : (s.raise k b).pending = s.pending := rfl
@[simp] theorem State.raise_gens (s : State) (k b : Nat) : (s.raise k b).gens = s.gens := rfl
@[simp] theorem State.raise_mem (s : State) (k b : Nat) : (s.raise k b).mem = s.mem := rfl
@[simp] theorem State.raise_poisoned (s : State) (k b : Nat) : (s.raise k b).poisoned = s.poisoned := rfl
@[simp] theorem State.raise_ctxs (s : State) (k b : Nat) : (s.raise k b).ctxs = s.ctxs := rfl
@[simp] theorem State.raise_pools (s : State) (k b : Nat) : (s.raise k b).pools = s.pools := rfl
@[simp] theorem State.raise_groups (s : State) (k b : Nat) : (s.raise k b).groups = s.groups := rfl
@[simp] theorem State.raise_tiles (s : State) (k b : Nat) : (s.raise k b).tiles = s.tiles := rfl
@[simp] theorem State.raise_regs (s : State) (k b : Nat) : (s.raise k b).regs = s.regs := rfl
@[simp] theorem State.raise_links (s : State) (k b : Nat) : (s.raise k b).links = s.links := rfl
@[simp] theorem State.raise_mailboxes (s : State) (k b : Nat) : (s.raise k b).mailboxes = s.mailboxes := rfl
@[simp] theorem State.raise_selectors (s : State) (k b : Nat) : (s.raise k b).selectors = s.selectors := rfl
@[simp] theorem State.raise_staged (s : State) (k b : Nat) : (s.raise k b).staged = s.staged := rfl
@[simp] theorem State.raise_hostGrants (s : State) (k b : Nat) : (s.raise k b).hostGrants = s.hostGrants := rfl
@[simp] theorem State.raise_fabricGrants (s : State) (k b : Nat) : (s.raise k b).fabricGrants = s.fabricGrants := rfl
@[simp] theorem State.raise_mctpGrant (s : State) (k b : Nat) : (s.raise k b).mctpGrant = s.mctpGrant := rfl
@[simp] theorem State.raise_mctpLowered (s : State) (k b : Nat) : (s.raise k b).mctpLowered = s.mctpLowered := rfl
@[simp] theorem State.raise_lastDenied (s : State) (k b : Nat) : (s.raise k b).lastDenied = s.lastDenied := rfl
@[simp] theorem State.raise_apertures (s : State) (k b : Nat) : (s.raise k b).apertures = s.apertures := rfl
@[simp] theorem State.raise_haModules (s : State) (k b : Nat) : (s.raise k b).haModules = s.haModules := rfl
@[simp] theorem State.raise_stackCaps (s : State) (k b : Nat) : (s.raise k b).stackCaps = s.stackCaps := rfl
@[simp] theorem State.raise_linkGenMax (s : State) (k b : Nat) : (s.raise k b).linkGenMax = s.linkGenMax := rfl
@[simp] theorem State.raise_vcWeight (s : State) (k b : Nat) : (s.raise k b).vcWeight = s.vcWeight := rfl
@[simp] theorem State.raise_bypassed (s : State) (k b : Nat) : (s.raise k b).bypassed = s.bypassed := rfl
@[simp] theorem State.raise_spineDown (s : State) (k b : Nat) : (s.raise k b).spineDown = s.spineDown := rfl
@[simp] theorem State.raise_announced (s : State) (k b : Nat) : (s.raise k b).announced = s.announced := rfl
@[simp] theorem State.raise_serial (s : State) (k b : Nat) : (s.raise k b).serial = s.serial := rfl
@[simp] theorem State.raise_deadNodes (s : State) (k b : Nat) : (s.raise k b).deadNodes = s.deadNodes := rfl
@[simp] theorem State.raise_hotLines (s : State) (k b : Nat) : (s.raise k b).hotLines = s.hotLines := rfl
@[simp] theorem State.raise_queues (s : State) (k b : Nat) : (s.raise k b).queues = s.queues := rfl
@[simp] theorem State.raise_remotes (s : State) (k b : Nat) : (s.raise k b).remotes = s.remotes := rfl
@[simp] theorem State.raise_nextId (s : State) (k b : Nat) : (s.raise k b).nextId = s.nextId := rfl
@[simp] theorem State.raise_lapsed (s : State) (k b : Nat) : (s.raise k b).lapsed = s.lapsed := rfl
@[simp] theorem State.raise_holdVc4 (s : State) (k b : Nat) : (s.raise k b).holdVc4 = s.holdVc4 := rfl
@[simp] theorem State.raise_redirects (s : State) (k b : Nat) : (s.raise k b).redirects = s.redirects := rfl
@[simp] theorem State.raise_items (s : State) (k b : Nat) : (s.raise k b).items = s.items := rfl
@[simp] theorem State.raise_gradHeld (s : State) (k b : Nat) : (s.raise k b).gradHeld = s.gradHeld := rfl
@[simp] theorem State.raise_nextItem (s : State) (k b : Nat) : (s.raise k b).nextItem = s.nextItem := rfl
@[simp] theorem State.raise_wipingPages (s : State) (k b : Nat) : (s.raise k b).wipingPages = s.wipingPages := rfl
@[simp] theorem State.raise_wipingExtents (s : State) (k b : Nat) : (s.raise k b).wipingExtents = s.wipingExtents := rfl
@[simp] theorem State.raise_deadPages (s : State) (k b : Nat) : (s.raise k b).deadPages = s.deadPages := rfl
@[simp] theorem State.raise_deadExtents (s : State) (k b : Nat) : (s.raise k b).deadExtents = s.deadExtents := rfl
@[simp] theorem State.raise_partnerPages (s : State) (k b : Nat) : (s.raise k b).partnerPages = s.partnerPages := rfl
@[simp] theorem State.raise_partnerExtents (s : State) (k b : Nat) : (s.raise k b).partnerExtents = s.partnerExtents := rfl
@[simp] theorem State.raise_beatSeen (s : State) (k b : Nat) : (s.raise k b).beatSeen = s.beatSeen := rfl
@[simp] theorem State.raise_freqCorr (s : State) (k b : Nat) : (s.raise k b).freqCorr = s.freqCorr := rfl
@[simp] theorem State.raise_skewRun (s : State) (k b : Nat) : (s.raise k b).skewRun = s.skewRun := rfl
@[simp] theorem State.raise_holdTo (s : State) (k b : Nat) : (s.raise k b).holdTo = s.holdTo := rfl
@[simp] theorem State.raise_jumpBy (s : State) (k b : Nat) : (s.raise k b).jumpBy = s.jumpBy := rfl
@[simp] theorem State.raise_holdStart (s : State) (k b : Nat) : (s.raise k b).holdStart = s.holdStart := rfl
@[simp] theorem State.raise_lastExtern (s : State) (k b : Nat) : (s.raise k b).lastExtern = s.lastExtern := rfl
@[simp] theorem State.raise_log (s : State) (k b : Nat) : (s.raise k b).log = s.log := rfl
@[simp] theorem State.raise_coreStates (s : State) (k b : Nat) : (s.raise k b).coreStates = s.coreStates := rfl
@[simp] theorem State.raise_coreFaults (s : State) (k b : Nat) : (s.raise k b).coreFaults = s.coreFaults := rfl
@[simp] theorem State.raise_coreWords (s : State) (k b : Nat) : (s.raise k b).coreWords = s.coreWords := rfl
@[simp] theorem State.raise_exceeded (s : State) (k b : Nat) : (s.raise k b).exceeded = s.exceeded := rfl
@[simp] theorem State.raise_scrubLate (s : State) (k b : Nat) : (s.raise k b).scrubLate = s.scrubLate := rfl
@[simp] theorem State.raise_shadows (s : State) (k b : Nat) : (s.raise k b).shadows = s.shadows := rfl
@[simp] theorem State.raise_heldHalf (s : State) (k b : Nat) : (s.raise k b).heldHalf = s.heldHalf := rfl
@[simp] theorem State.raise_lastHeart (s : State) (k b : Nat) : (s.raise k b).lastHeart = s.lastHeart := rfl
@[simp] theorem State.raise_heartMissed (s : State) (k b : Nat) : (s.raise k b).heartMissed = s.heartMissed := rfl
@[simp] theorem State.raise_probing (s : State) (k b : Nat) : (s.raise k b).probing = s.probing := rfl
@[simp] theorem State.raise_taking (s : State) (k b : Nat) : (s.raise k b).taking = s.taking := rfl
@[simp] theorem State.raise_mirrorNext (s : State) (k b : Nat) : (s.raise k b).mirrorNext = s.mirrorNext := rfl
@[simp] theorem State.raise_unacked (s : State) (k b : Nat) : (s.raise k b).unacked = s.unacked := rfl
@[simp] theorem State.raise_handing (s : State) (k b : Nat) : (s.raise k b).handing = s.handing := rfl
@[simp] theorem State.raise_takeoverLast (s : State) (k b : Nat) : (s.raise k b).takeoverLast = s.takeoverLast := rfl
@[simp] theorem State.raise_partnerWords (s : State) (k b : Nat) : (s.raise k b).partnerWords = s.partnerWords := rfl
@[simp] theorem State.raise_startStep (s : State) (k b : Nat) : (s.raise k b).startStep = s.startStep := rfl
@[simp] theorem State.raise_attempts (s : State) (k b : Nat) : (s.raise k b).attempts = s.attempts := rfl
@[simp] theorem State.raise_partnerJournal (s : State) (k b : Nat) : (s.raise k b).partnerJournal = s.partnerJournal := rfl
@[simp] theorem State.raise_policy (s : State) (k b : Nat) : (s.raise k b).policy = s.policy := rfl
@[simp] theorem State.raise_ownerKey (s : State) (k b : Nat) : (s.raise k b).ownerKey = s.ownerKey := rfl
@[simp] theorem State.raise_challenges (s : State) (k b : Nat) : (s.raise k b).challenges = s.challenges := rfl
@[simp] theorem State.raise_sessions (s : State) (k b : Nat) : (s.raise k b).sessions = s.sessions := rfl
@[simp] theorem State.raise_debugLocked (s : State) (k b : Nat) : (s.raise k b).debugLocked = s.debugLocked := rfl
@[simp] theorem State.raise_debugImage (s : State) (k b : Nat) : (s.raise k b).debugImage = s.debugImage := rfl
@[simp] theorem State.raise_keepSteps (s : State) (k b : Nat) : (s.raise k b).keepSteps = s.keepSteps := rfl
@[simp] theorem State.raise_hbmStacks (s : State) (k b : Nat) : (s.raise k b).hbmStacks = s.hbmStacks := rfl
@[simp] theorem State.raise_measured (s : State) (k b : Nat) : (s.raise k b).measured = s.measured := rfl
@[simp] theorem State.raise_spdmState (s : State) (k b : Nat) : (s.raise k b).spdmState = s.spdmState := rfl
@[simp] theorem State.raise_ownerRetired (s : State) (k b : Nat) : (s.raise k b).ownerRetired = s.ownerRetired := rfl
@[simp] theorem State.raise_ckptStates (s : State) (k b : Nat) : (s.raise k b).ckptStates = s.ckptStates := rfl
@[simp] theorem State.raise_ckptInfo (s : State) (k b : Nat) : (s.raise k b).ckptInfo = s.ckptInfo := rfl
@[simp] theorem State.raise_ckpt (s : State) (k b : Nat) : (s.raise k b).ckpt = s.ckpt := rfl
@[simp] theorem State.raise_restoring (s : State) (k b : Nat) : (s.raise k b).restoring = s.restoring := rfl
@[simp] theorem State.raise_latchDue (s : State) (k b : Nat) : (s.raise k b).latchDue = s.latchDue := rfl
@[simp] theorem State.raise_latched (s : State) (k b : Nat) : (s.raise k b).latched = s.latched := rfl
@[simp] theorem State.raise_tempRegion (s : State) (k b : Nat) : (s.raise k b).tempRegion = s.tempRegion := rfl
@[simp] theorem State.raise_resetN (s : State) (k b : Nat) : (s.raise k b).resetN = s.resetN := rfl
@[simp] theorem State.raise_corePg (s : State) (k b : Nat) : (s.raise k b).corePg = s.corePg := rfl
@[simp] theorem State.raise_pwrAlert (s : State) (k b : Nat) : (s.raise k b).pwrAlert = s.pwrAlert := rfl
@[simp] theorem State.raise_thermTrip (s : State) (k b : Nat) : (s.raise k b).thermTrip = s.thermTrip := rfl
@[simp] theorem State.raise_powerSteps (s : State) (k b : Nat) : (s.raise k b).powerSteps = s.powerSteps := rfl
@[simp] theorem State.raise_powerQuiet (s : State) (k b : Nat) : (s.raise k b).powerQuiet = s.powerQuiet := rfl
@[simp] theorem State.raise_thermSteps (s : State) (k b : Nat) : (s.raise k b).thermSteps = s.thermSteps := rfl
@[simp] theorem State.raise_thermBeats (s : State) (k b : Nat) : (s.raise k b).thermBeats = s.thermBeats := rfl
@[simp] theorem State.raise_thermCool (s : State) (k b : Nat) : (s.raise k b).thermCool = s.thermCool := rfl
@[simp] theorem State.raise_noticeAt (s : State) (k b : Nat) : (s.raise k b).noticeAt = s.noticeAt := rfl
@[simp] theorem State.raise_noticeDue (s : State) (k b : Nat) : (s.raise k b).noticeDue = s.noticeDue := rfl
@[simp] theorem State.raise_deadSent (s : State) (k b : Nat) : (s.raise k b).deadSent = s.deadSent := rfl
@[simp] theorem State.raise_i3cAddr (s : State) (k b : Nat) : (s.raise k b).i3cAddr = s.i3cAddr := rfl
@[simp] theorem State.raise_out (s : State) (k b : Nat) : (s.raise k b).out = s.out := rfl
@[simp] theorem State.raise_freeCtr (s : State) (k b : Nat) : (s.raise k b).freeCtr = s.freeCtr := rfl

/-! ### State.setCtx -/

@[simp] theorem State.setCtx_pending (s : State) (c : Nat) (x : Ctx) : (s.setCtx c x).pending = s.pending := rfl
@[simp] theorem State.setCtx_objs (s : State) (c : Nat) (x : Ctx) : (s.setCtx c x).objs = s.objs := rfl
@[simp] theorem State.setCtx_raises (s : State) (c : Nat) (x : Ctx) : (s.setCtx c x).raises = s.raises := rfl
@[simp] theorem State.setCtx_gens (s : State) (c : Nat) (x : Ctx) : (s.setCtx c x).gens = s.gens := rfl
@[simp] theorem State.setCtx_mem (s : State) (c : Nat) (x : Ctx) : (s.setCtx c x).mem = s.mem := rfl
@[simp] theorem State.setCtx_poisoned (s : State) (c : Nat) (x : Ctx) : (s.setCtx c x).poisoned = s.poisoned := rfl
@[simp] theorem State.setCtx_pools (s : State) (c : Nat) (x : Ctx) : (s.setCtx c x).pools = s.pools := rfl
@[simp] theorem State.setCtx_groups (s : State) (c : Nat) (x : Ctx) : (s.setCtx c x).groups = s.groups := rfl
@[simp] theorem State.setCtx_tiles (s : State) (c : Nat) (x : Ctx) : (s.setCtx c x).tiles = s.tiles := rfl
@[simp] theorem State.setCtx_regs (s : State) (c : Nat) (x : Ctx) : (s.setCtx c x).regs = s.regs := rfl
@[simp] theorem State.setCtx_links (s : State) (c : Nat) (x : Ctx) : (s.setCtx c x).links = s.links := rfl
@[simp] theorem State.setCtx_mailboxes (s : State) (c : Nat) (x : Ctx) : (s.setCtx c x).mailboxes = s.mailboxes := rfl
@[simp] theorem State.setCtx_selectors (s : State) (c : Nat) (x : Ctx) : (s.setCtx c x).selectors = s.selectors := rfl
@[simp] theorem State.setCtx_staged (s : State) (c : Nat) (x : Ctx) : (s.setCtx c x).staged = s.staged := rfl
@[simp] theorem State.setCtx_hostGrants (s : State) (c : Nat) (x : Ctx) : (s.setCtx c x).hostGrants = s.hostGrants := rfl
@[simp] theorem State.setCtx_fabricGrants (s : State) (c : Nat) (x : Ctx) : (s.setCtx c x).fabricGrants = s.fabricGrants := rfl
@[simp] theorem State.setCtx_mctpGrant (s : State) (c : Nat) (x : Ctx) : (s.setCtx c x).mctpGrant = s.mctpGrant := rfl
@[simp] theorem State.setCtx_mctpLowered (s : State) (c : Nat) (x : Ctx) : (s.setCtx c x).mctpLowered = s.mctpLowered := rfl
@[simp] theorem State.setCtx_lastDenied (s : State) (c : Nat) (x : Ctx) : (s.setCtx c x).lastDenied = s.lastDenied := rfl
@[simp] theorem State.setCtx_apertures (s : State) (c : Nat) (x : Ctx) : (s.setCtx c x).apertures = s.apertures := rfl
@[simp] theorem State.setCtx_haModules (s : State) (c : Nat) (x : Ctx) : (s.setCtx c x).haModules = s.haModules := rfl
@[simp] theorem State.setCtx_stackCaps (s : State) (c : Nat) (x : Ctx) : (s.setCtx c x).stackCaps = s.stackCaps := rfl
@[simp] theorem State.setCtx_linkGenMax (s : State) (c : Nat) (x : Ctx) : (s.setCtx c x).linkGenMax = s.linkGenMax := rfl
@[simp] theorem State.setCtx_vcWeight (s : State) (c : Nat) (x : Ctx) : (s.setCtx c x).vcWeight = s.vcWeight := rfl
@[simp] theorem State.setCtx_bypassed (s : State) (c : Nat) (x : Ctx) : (s.setCtx c x).bypassed = s.bypassed := rfl
@[simp] theorem State.setCtx_spineDown (s : State) (c : Nat) (x : Ctx) : (s.setCtx c x).spineDown = s.spineDown := rfl
@[simp] theorem State.setCtx_announced (s : State) (c : Nat) (x : Ctx) : (s.setCtx c x).announced = s.announced := rfl
@[simp] theorem State.setCtx_serial (s : State) (c : Nat) (x : Ctx) : (s.setCtx c x).serial = s.serial := rfl
@[simp] theorem State.setCtx_deadNodes (s : State) (c : Nat) (x : Ctx) : (s.setCtx c x).deadNodes = s.deadNodes := rfl
@[simp] theorem State.setCtx_hotLines (s : State) (c : Nat) (x : Ctx) : (s.setCtx c x).hotLines = s.hotLines := rfl
@[simp] theorem State.setCtx_queues (s : State) (c : Nat) (x : Ctx) : (s.setCtx c x).queues = s.queues := rfl
@[simp] theorem State.setCtx_remotes (s : State) (c : Nat) (x : Ctx) : (s.setCtx c x).remotes = s.remotes := rfl
@[simp] theorem State.setCtx_nextId (s : State) (c : Nat) (x : Ctx) : (s.setCtx c x).nextId = s.nextId := rfl
@[simp] theorem State.setCtx_lapsed (s : State) (c : Nat) (x : Ctx) : (s.setCtx c x).lapsed = s.lapsed := rfl
@[simp] theorem State.setCtx_holdVc4 (s : State) (c : Nat) (x : Ctx) : (s.setCtx c x).holdVc4 = s.holdVc4 := rfl
@[simp] theorem State.setCtx_redirects (s : State) (c : Nat) (x : Ctx) : (s.setCtx c x).redirects = s.redirects := rfl
@[simp] theorem State.setCtx_items (s : State) (c : Nat) (x : Ctx) : (s.setCtx c x).items = s.items := rfl
@[simp] theorem State.setCtx_gradHeld (s : State) (c : Nat) (x : Ctx) : (s.setCtx c x).gradHeld = s.gradHeld := rfl
@[simp] theorem State.setCtx_nextItem (s : State) (c : Nat) (x : Ctx) : (s.setCtx c x).nextItem = s.nextItem := rfl
@[simp] theorem State.setCtx_wipingPages (s : State) (c : Nat) (x : Ctx) : (s.setCtx c x).wipingPages = s.wipingPages := rfl
@[simp] theorem State.setCtx_wipingExtents (s : State) (c : Nat) (x : Ctx) : (s.setCtx c x).wipingExtents = s.wipingExtents := rfl
@[simp] theorem State.setCtx_deadPages (s : State) (c : Nat) (x : Ctx) : (s.setCtx c x).deadPages = s.deadPages := rfl
@[simp] theorem State.setCtx_deadExtents (s : State) (c : Nat) (x : Ctx) : (s.setCtx c x).deadExtents = s.deadExtents := rfl
@[simp] theorem State.setCtx_partnerPages (s : State) (c : Nat) (x : Ctx) : (s.setCtx c x).partnerPages = s.partnerPages := rfl
@[simp] theorem State.setCtx_partnerExtents (s : State) (c : Nat) (x : Ctx) : (s.setCtx c x).partnerExtents = s.partnerExtents := rfl
@[simp] theorem State.setCtx_beatSeen (s : State) (c : Nat) (x : Ctx) : (s.setCtx c x).beatSeen = s.beatSeen := rfl
@[simp] theorem State.setCtx_freqCorr (s : State) (c : Nat) (x : Ctx) : (s.setCtx c x).freqCorr = s.freqCorr := rfl
@[simp] theorem State.setCtx_skewRun (s : State) (c : Nat) (x : Ctx) : (s.setCtx c x).skewRun = s.skewRun := rfl
@[simp] theorem State.setCtx_holdTo (s : State) (c : Nat) (x : Ctx) : (s.setCtx c x).holdTo = s.holdTo := rfl
@[simp] theorem State.setCtx_jumpBy (s : State) (c : Nat) (x : Ctx) : (s.setCtx c x).jumpBy = s.jumpBy := rfl
@[simp] theorem State.setCtx_holdStart (s : State) (c : Nat) (x : Ctx) : (s.setCtx c x).holdStart = s.holdStart := rfl
@[simp] theorem State.setCtx_lastExtern (s : State) (c : Nat) (x : Ctx) : (s.setCtx c x).lastExtern = s.lastExtern := rfl
@[simp] theorem State.setCtx_log (s : State) (c : Nat) (x : Ctx) : (s.setCtx c x).log = s.log := rfl
@[simp] theorem State.setCtx_coreStates (s : State) (c : Nat) (x : Ctx) : (s.setCtx c x).coreStates = s.coreStates := rfl
@[simp] theorem State.setCtx_coreFaults (s : State) (c : Nat) (x : Ctx) : (s.setCtx c x).coreFaults = s.coreFaults := rfl
@[simp] theorem State.setCtx_coreWords (s : State) (c : Nat) (x : Ctx) : (s.setCtx c x).coreWords = s.coreWords := rfl
@[simp] theorem State.setCtx_exceeded (s : State) (c : Nat) (x : Ctx) : (s.setCtx c x).exceeded = s.exceeded := rfl
@[simp] theorem State.setCtx_scrubLate (s : State) (c : Nat) (x : Ctx) : (s.setCtx c x).scrubLate = s.scrubLate := rfl
@[simp] theorem State.setCtx_shadows (s : State) (c : Nat) (x : Ctx) : (s.setCtx c x).shadows = s.shadows := rfl
@[simp] theorem State.setCtx_heldHalf (s : State) (c : Nat) (x : Ctx) : (s.setCtx c x).heldHalf = s.heldHalf := rfl
@[simp] theorem State.setCtx_lastHeart (s : State) (c : Nat) (x : Ctx) : (s.setCtx c x).lastHeart = s.lastHeart := rfl
@[simp] theorem State.setCtx_heartMissed (s : State) (c : Nat) (x : Ctx) : (s.setCtx c x).heartMissed = s.heartMissed := rfl
@[simp] theorem State.setCtx_probing (s : State) (c : Nat) (x : Ctx) : (s.setCtx c x).probing = s.probing := rfl
@[simp] theorem State.setCtx_taking (s : State) (c : Nat) (x : Ctx) : (s.setCtx c x).taking = s.taking := rfl
@[simp] theorem State.setCtx_mirrorNext (s : State) (c : Nat) (x : Ctx) : (s.setCtx c x).mirrorNext = s.mirrorNext := rfl
@[simp] theorem State.setCtx_unacked (s : State) (c : Nat) (x : Ctx) : (s.setCtx c x).unacked = s.unacked := rfl
@[simp] theorem State.setCtx_handing (s : State) (c : Nat) (x : Ctx) : (s.setCtx c x).handing = s.handing := rfl
@[simp] theorem State.setCtx_takeoverLast (s : State) (c : Nat) (x : Ctx) : (s.setCtx c x).takeoverLast = s.takeoverLast := rfl
@[simp] theorem State.setCtx_partnerWords (s : State) (c : Nat) (x : Ctx) : (s.setCtx c x).partnerWords = s.partnerWords := rfl
@[simp] theorem State.setCtx_startStep (s : State) (c : Nat) (x : Ctx) : (s.setCtx c x).startStep = s.startStep := rfl
@[simp] theorem State.setCtx_attempts (s : State) (c : Nat) (x : Ctx) : (s.setCtx c x).attempts = s.attempts := rfl
@[simp] theorem State.setCtx_partnerJournal (s : State) (c : Nat) (x : Ctx) : (s.setCtx c x).partnerJournal = s.partnerJournal := rfl
@[simp] theorem State.setCtx_policy (s : State) (c : Nat) (x : Ctx) : (s.setCtx c x).policy = s.policy := rfl
@[simp] theorem State.setCtx_ownerKey (s : State) (c : Nat) (x : Ctx) : (s.setCtx c x).ownerKey = s.ownerKey := rfl
@[simp] theorem State.setCtx_challenges (s : State) (c : Nat) (x : Ctx) : (s.setCtx c x).challenges = s.challenges := rfl
@[simp] theorem State.setCtx_sessions (s : State) (c : Nat) (x : Ctx) : (s.setCtx c x).sessions = s.sessions := rfl
@[simp] theorem State.setCtx_debugLocked (s : State) (c : Nat) (x : Ctx) : (s.setCtx c x).debugLocked = s.debugLocked := rfl
@[simp] theorem State.setCtx_debugImage (s : State) (c : Nat) (x : Ctx) : (s.setCtx c x).debugImage = s.debugImage := rfl
@[simp] theorem State.setCtx_keepSteps (s : State) (c : Nat) (x : Ctx) : (s.setCtx c x).keepSteps = s.keepSteps := rfl
@[simp] theorem State.setCtx_hbmStacks (s : State) (c : Nat) (x : Ctx) : (s.setCtx c x).hbmStacks = s.hbmStacks := rfl
@[simp] theorem State.setCtx_measured (s : State) (c : Nat) (x : Ctx) : (s.setCtx c x).measured = s.measured := rfl
@[simp] theorem State.setCtx_spdmState (s : State) (c : Nat) (x : Ctx) : (s.setCtx c x).spdmState = s.spdmState := rfl
@[simp] theorem State.setCtx_ownerRetired (s : State) (c : Nat) (x : Ctx) : (s.setCtx c x).ownerRetired = s.ownerRetired := rfl
@[simp] theorem State.setCtx_ckptStates (s : State) (c : Nat) (x : Ctx) : (s.setCtx c x).ckptStates = s.ckptStates := rfl
@[simp] theorem State.setCtx_ckptInfo (s : State) (c : Nat) (x : Ctx) : (s.setCtx c x).ckptInfo = s.ckptInfo := rfl
@[simp] theorem State.setCtx_ckpt (s : State) (c : Nat) (x : Ctx) : (s.setCtx c x).ckpt = s.ckpt := rfl
@[simp] theorem State.setCtx_restoring (s : State) (c : Nat) (x : Ctx) : (s.setCtx c x).restoring = s.restoring := rfl
@[simp] theorem State.setCtx_latchDue (s : State) (c : Nat) (x : Ctx) : (s.setCtx c x).latchDue = s.latchDue := rfl
@[simp] theorem State.setCtx_latched (s : State) (c : Nat) (x : Ctx) : (s.setCtx c x).latched = s.latched := rfl
@[simp] theorem State.setCtx_tempRegion (s : State) (c : Nat) (x : Ctx) : (s.setCtx c x).tempRegion = s.tempRegion := rfl
@[simp] theorem State.setCtx_resetN (s : State) (c : Nat) (x : Ctx) : (s.setCtx c x).resetN = s.resetN := rfl
@[simp] theorem State.setCtx_corePg (s : State) (c : Nat) (x : Ctx) : (s.setCtx c x).corePg = s.corePg := rfl
@[simp] theorem State.setCtx_pwrAlert (s : State) (c : Nat) (x : Ctx) : (s.setCtx c x).pwrAlert = s.pwrAlert := rfl
@[simp] theorem State.setCtx_thermTrip (s : State) (c : Nat) (x : Ctx) : (s.setCtx c x).thermTrip = s.thermTrip := rfl
@[simp] theorem State.setCtx_powerSteps (s : State) (c : Nat) (x : Ctx) : (s.setCtx c x).powerSteps = s.powerSteps := rfl
@[simp] theorem State.setCtx_powerQuiet (s : State) (c : Nat) (x : Ctx) : (s.setCtx c x).powerQuiet = s.powerQuiet := rfl
@[simp] theorem State.setCtx_thermSteps (s : State) (c : Nat) (x : Ctx) : (s.setCtx c x).thermSteps = s.thermSteps := rfl
@[simp] theorem State.setCtx_thermBeats (s : State) (c : Nat) (x : Ctx) : (s.setCtx c x).thermBeats = s.thermBeats := rfl
@[simp] theorem State.setCtx_thermCool (s : State) (c : Nat) (x : Ctx) : (s.setCtx c x).thermCool = s.thermCool := rfl
@[simp] theorem State.setCtx_noticeAt (s : State) (c : Nat) (x : Ctx) : (s.setCtx c x).noticeAt = s.noticeAt := rfl
@[simp] theorem State.setCtx_noticeDue (s : State) (c : Nat) (x : Ctx) : (s.setCtx c x).noticeDue = s.noticeDue := rfl
@[simp] theorem State.setCtx_deadSent (s : State) (c : Nat) (x : Ctx) : (s.setCtx c x).deadSent = s.deadSent := rfl
@[simp] theorem State.setCtx_i3cAddr (s : State) (c : Nat) (x : Ctx) : (s.setCtx c x).i3cAddr = s.i3cAddr := rfl
@[simp] theorem State.setCtx_out (s : State) (c : Nat) (x : Ctx) : (s.setCtx c x).out = s.out := rfl
@[simp] theorem State.setCtx_freeCtr (s : State) (c : Nat) (x : Ctx) : (s.setCtx c x).freeCtr = s.freeCtr := rfl

/-! ### State.modPool -/

@[simp] theorem State.modPool_pending (s : State) (p : Nat) (f : Pool → Pool) : (s.modPool p f).pending = s.pending := rfl
@[simp] theorem State.modPool_objs (s : State) (p : Nat) (f : Pool → Pool) : (s.modPool p f).objs = s.objs := rfl
@[simp] theorem State.modPool_raises (s : State) (p : Nat) (f : Pool → Pool) : (s.modPool p f).raises = s.raises := rfl
@[simp] theorem State.modPool_gens (s : State) (p : Nat) (f : Pool → Pool) : (s.modPool p f).gens = s.gens := rfl
@[simp] theorem State.modPool_mem (s : State) (p : Nat) (f : Pool → Pool) : (s.modPool p f).mem = s.mem := rfl
@[simp] theorem State.modPool_poisoned (s : State) (p : Nat) (f : Pool → Pool) : (s.modPool p f).poisoned = s.poisoned := rfl
@[simp] theorem State.modPool_ctxs (s : State) (p : Nat) (f : Pool → Pool) : (s.modPool p f).ctxs = s.ctxs := rfl
@[simp] theorem State.modPool_groups (s : State) (p : Nat) (f : Pool → Pool) : (s.modPool p f).groups = s.groups := rfl
@[simp] theorem State.modPool_tiles (s : State) (p : Nat) (f : Pool → Pool) : (s.modPool p f).tiles = s.tiles := rfl
@[simp] theorem State.modPool_regs (s : State) (p : Nat) (f : Pool → Pool) : (s.modPool p f).regs = s.regs := rfl
@[simp] theorem State.modPool_links (s : State) (p : Nat) (f : Pool → Pool) : (s.modPool p f).links = s.links := rfl
@[simp] theorem State.modPool_mailboxes (s : State) (p : Nat) (f : Pool → Pool) : (s.modPool p f).mailboxes = s.mailboxes := rfl
@[simp] theorem State.modPool_selectors (s : State) (p : Nat) (f : Pool → Pool) : (s.modPool p f).selectors = s.selectors := rfl
@[simp] theorem State.modPool_staged (s : State) (p : Nat) (f : Pool → Pool) : (s.modPool p f).staged = s.staged := rfl
@[simp] theorem State.modPool_hostGrants (s : State) (p : Nat) (f : Pool → Pool) : (s.modPool p f).hostGrants = s.hostGrants := rfl
@[simp] theorem State.modPool_fabricGrants (s : State) (p : Nat) (f : Pool → Pool) : (s.modPool p f).fabricGrants = s.fabricGrants := rfl
@[simp] theorem State.modPool_mctpGrant (s : State) (p : Nat) (f : Pool → Pool) : (s.modPool p f).mctpGrant = s.mctpGrant := rfl
@[simp] theorem State.modPool_mctpLowered (s : State) (p : Nat) (f : Pool → Pool) : (s.modPool p f).mctpLowered = s.mctpLowered := rfl
@[simp] theorem State.modPool_lastDenied (s : State) (p : Nat) (f : Pool → Pool) : (s.modPool p f).lastDenied = s.lastDenied := rfl
@[simp] theorem State.modPool_apertures (s : State) (p : Nat) (f : Pool → Pool) : (s.modPool p f).apertures = s.apertures := rfl
@[simp] theorem State.modPool_haModules (s : State) (p : Nat) (f : Pool → Pool) : (s.modPool p f).haModules = s.haModules := rfl
@[simp] theorem State.modPool_stackCaps (s : State) (p : Nat) (f : Pool → Pool) : (s.modPool p f).stackCaps = s.stackCaps := rfl
@[simp] theorem State.modPool_linkGenMax (s : State) (p : Nat) (f : Pool → Pool) : (s.modPool p f).linkGenMax = s.linkGenMax := rfl
@[simp] theorem State.modPool_vcWeight (s : State) (p : Nat) (f : Pool → Pool) : (s.modPool p f).vcWeight = s.vcWeight := rfl
@[simp] theorem State.modPool_bypassed (s : State) (p : Nat) (f : Pool → Pool) : (s.modPool p f).bypassed = s.bypassed := rfl
@[simp] theorem State.modPool_spineDown (s : State) (p : Nat) (f : Pool → Pool) : (s.modPool p f).spineDown = s.spineDown := rfl
@[simp] theorem State.modPool_announced (s : State) (p : Nat) (f : Pool → Pool) : (s.modPool p f).announced = s.announced := rfl
@[simp] theorem State.modPool_serial (s : State) (p : Nat) (f : Pool → Pool) : (s.modPool p f).serial = s.serial := rfl
@[simp] theorem State.modPool_deadNodes (s : State) (p : Nat) (f : Pool → Pool) : (s.modPool p f).deadNodes = s.deadNodes := rfl
@[simp] theorem State.modPool_hotLines (s : State) (p : Nat) (f : Pool → Pool) : (s.modPool p f).hotLines = s.hotLines := rfl
@[simp] theorem State.modPool_queues (s : State) (p : Nat) (f : Pool → Pool) : (s.modPool p f).queues = s.queues := rfl
@[simp] theorem State.modPool_remotes (s : State) (p : Nat) (f : Pool → Pool) : (s.modPool p f).remotes = s.remotes := rfl
@[simp] theorem State.modPool_nextId (s : State) (p : Nat) (f : Pool → Pool) : (s.modPool p f).nextId = s.nextId := rfl
@[simp] theorem State.modPool_lapsed (s : State) (p : Nat) (f : Pool → Pool) : (s.modPool p f).lapsed = s.lapsed := rfl
@[simp] theorem State.modPool_holdVc4 (s : State) (p : Nat) (f : Pool → Pool) : (s.modPool p f).holdVc4 = s.holdVc4 := rfl
@[simp] theorem State.modPool_redirects (s : State) (p : Nat) (f : Pool → Pool) : (s.modPool p f).redirects = s.redirects := rfl
@[simp] theorem State.modPool_items (s : State) (p : Nat) (f : Pool → Pool) : (s.modPool p f).items = s.items := rfl
@[simp] theorem State.modPool_gradHeld (s : State) (p : Nat) (f : Pool → Pool) : (s.modPool p f).gradHeld = s.gradHeld := rfl
@[simp] theorem State.modPool_nextItem (s : State) (p : Nat) (f : Pool → Pool) : (s.modPool p f).nextItem = s.nextItem := rfl
@[simp] theorem State.modPool_wipingPages (s : State) (p : Nat) (f : Pool → Pool) : (s.modPool p f).wipingPages = s.wipingPages := rfl
@[simp] theorem State.modPool_wipingExtents (s : State) (p : Nat) (f : Pool → Pool) : (s.modPool p f).wipingExtents = s.wipingExtents := rfl
@[simp] theorem State.modPool_deadPages (s : State) (p : Nat) (f : Pool → Pool) : (s.modPool p f).deadPages = s.deadPages := rfl
@[simp] theorem State.modPool_deadExtents (s : State) (p : Nat) (f : Pool → Pool) : (s.modPool p f).deadExtents = s.deadExtents := rfl
@[simp] theorem State.modPool_partnerPages (s : State) (p : Nat) (f : Pool → Pool) : (s.modPool p f).partnerPages = s.partnerPages := rfl
@[simp] theorem State.modPool_partnerExtents (s : State) (p : Nat) (f : Pool → Pool) : (s.modPool p f).partnerExtents = s.partnerExtents := rfl
@[simp] theorem State.modPool_beatSeen (s : State) (p : Nat) (f : Pool → Pool) : (s.modPool p f).beatSeen = s.beatSeen := rfl
@[simp] theorem State.modPool_freqCorr (s : State) (p : Nat) (f : Pool → Pool) : (s.modPool p f).freqCorr = s.freqCorr := rfl
@[simp] theorem State.modPool_skewRun (s : State) (p : Nat) (f : Pool → Pool) : (s.modPool p f).skewRun = s.skewRun := rfl
@[simp] theorem State.modPool_holdTo (s : State) (p : Nat) (f : Pool → Pool) : (s.modPool p f).holdTo = s.holdTo := rfl
@[simp] theorem State.modPool_jumpBy (s : State) (p : Nat) (f : Pool → Pool) : (s.modPool p f).jumpBy = s.jumpBy := rfl
@[simp] theorem State.modPool_holdStart (s : State) (p : Nat) (f : Pool → Pool) : (s.modPool p f).holdStart = s.holdStart := rfl
@[simp] theorem State.modPool_lastExtern (s : State) (p : Nat) (f : Pool → Pool) : (s.modPool p f).lastExtern = s.lastExtern := rfl
@[simp] theorem State.modPool_log (s : State) (p : Nat) (f : Pool → Pool) : (s.modPool p f).log = s.log := rfl
@[simp] theorem State.modPool_coreStates (s : State) (p : Nat) (f : Pool → Pool) : (s.modPool p f).coreStates = s.coreStates := rfl
@[simp] theorem State.modPool_coreFaults (s : State) (p : Nat) (f : Pool → Pool) : (s.modPool p f).coreFaults = s.coreFaults := rfl
@[simp] theorem State.modPool_coreWords (s : State) (p : Nat) (f : Pool → Pool) : (s.modPool p f).coreWords = s.coreWords := rfl
@[simp] theorem State.modPool_exceeded (s : State) (p : Nat) (f : Pool → Pool) : (s.modPool p f).exceeded = s.exceeded := rfl
@[simp] theorem State.modPool_scrubLate (s : State) (p : Nat) (f : Pool → Pool) : (s.modPool p f).scrubLate = s.scrubLate := rfl
@[simp] theorem State.modPool_shadows (s : State) (p : Nat) (f : Pool → Pool) : (s.modPool p f).shadows = s.shadows := rfl
@[simp] theorem State.modPool_heldHalf (s : State) (p : Nat) (f : Pool → Pool) : (s.modPool p f).heldHalf = s.heldHalf := rfl
@[simp] theorem State.modPool_lastHeart (s : State) (p : Nat) (f : Pool → Pool) : (s.modPool p f).lastHeart = s.lastHeart := rfl
@[simp] theorem State.modPool_heartMissed (s : State) (p : Nat) (f : Pool → Pool) : (s.modPool p f).heartMissed = s.heartMissed := rfl
@[simp] theorem State.modPool_probing (s : State) (p : Nat) (f : Pool → Pool) : (s.modPool p f).probing = s.probing := rfl
@[simp] theorem State.modPool_taking (s : State) (p : Nat) (f : Pool → Pool) : (s.modPool p f).taking = s.taking := rfl
@[simp] theorem State.modPool_mirrorNext (s : State) (p : Nat) (f : Pool → Pool) : (s.modPool p f).mirrorNext = s.mirrorNext := rfl
@[simp] theorem State.modPool_unacked (s : State) (p : Nat) (f : Pool → Pool) : (s.modPool p f).unacked = s.unacked := rfl
@[simp] theorem State.modPool_handing (s : State) (p : Nat) (f : Pool → Pool) : (s.modPool p f).handing = s.handing := rfl
@[simp] theorem State.modPool_takeoverLast (s : State) (p : Nat) (f : Pool → Pool) : (s.modPool p f).takeoverLast = s.takeoverLast := rfl
@[simp] theorem State.modPool_partnerWords (s : State) (p : Nat) (f : Pool → Pool) : (s.modPool p f).partnerWords = s.partnerWords := rfl
@[simp] theorem State.modPool_startStep (s : State) (p : Nat) (f : Pool → Pool) : (s.modPool p f).startStep = s.startStep := rfl
@[simp] theorem State.modPool_attempts (s : State) (p : Nat) (f : Pool → Pool) : (s.modPool p f).attempts = s.attempts := rfl
@[simp] theorem State.modPool_partnerJournal (s : State) (p : Nat) (f : Pool → Pool) : (s.modPool p f).partnerJournal = s.partnerJournal := rfl
@[simp] theorem State.modPool_policy (s : State) (p : Nat) (f : Pool → Pool) : (s.modPool p f).policy = s.policy := rfl
@[simp] theorem State.modPool_ownerKey (s : State) (p : Nat) (f : Pool → Pool) : (s.modPool p f).ownerKey = s.ownerKey := rfl
@[simp] theorem State.modPool_challenges (s : State) (p : Nat) (f : Pool → Pool) : (s.modPool p f).challenges = s.challenges := rfl
@[simp] theorem State.modPool_sessions (s : State) (p : Nat) (f : Pool → Pool) : (s.modPool p f).sessions = s.sessions := rfl
@[simp] theorem State.modPool_debugLocked (s : State) (p : Nat) (f : Pool → Pool) : (s.modPool p f).debugLocked = s.debugLocked := rfl
@[simp] theorem State.modPool_debugImage (s : State) (p : Nat) (f : Pool → Pool) : (s.modPool p f).debugImage = s.debugImage := rfl
@[simp] theorem State.modPool_keepSteps (s : State) (p : Nat) (f : Pool → Pool) : (s.modPool p f).keepSteps = s.keepSteps := rfl
@[simp] theorem State.modPool_hbmStacks (s : State) (p : Nat) (f : Pool → Pool) : (s.modPool p f).hbmStacks = s.hbmStacks := rfl
@[simp] theorem State.modPool_measured (s : State) (p : Nat) (f : Pool → Pool) : (s.modPool p f).measured = s.measured := rfl
@[simp] theorem State.modPool_spdmState (s : State) (p : Nat) (f : Pool → Pool) : (s.modPool p f).spdmState = s.spdmState := rfl
@[simp] theorem State.modPool_ownerRetired (s : State) (p : Nat) (f : Pool → Pool) : (s.modPool p f).ownerRetired = s.ownerRetired := rfl
@[simp] theorem State.modPool_ckptStates (s : State) (p : Nat) (f : Pool → Pool) : (s.modPool p f).ckptStates = s.ckptStates := rfl
@[simp] theorem State.modPool_ckptInfo (s : State) (p : Nat) (f : Pool → Pool) : (s.modPool p f).ckptInfo = s.ckptInfo := rfl
@[simp] theorem State.modPool_ckpt (s : State) (p : Nat) (f : Pool → Pool) : (s.modPool p f).ckpt = s.ckpt := rfl
@[simp] theorem State.modPool_restoring (s : State) (p : Nat) (f : Pool → Pool) : (s.modPool p f).restoring = s.restoring := rfl
@[simp] theorem State.modPool_latchDue (s : State) (p : Nat) (f : Pool → Pool) : (s.modPool p f).latchDue = s.latchDue := rfl
@[simp] theorem State.modPool_latched (s : State) (p : Nat) (f : Pool → Pool) : (s.modPool p f).latched = s.latched := rfl
@[simp] theorem State.modPool_tempRegion (s : State) (p : Nat) (f : Pool → Pool) : (s.modPool p f).tempRegion = s.tempRegion := rfl
@[simp] theorem State.modPool_resetN (s : State) (p : Nat) (f : Pool → Pool) : (s.modPool p f).resetN = s.resetN := rfl
@[simp] theorem State.modPool_corePg (s : State) (p : Nat) (f : Pool → Pool) : (s.modPool p f).corePg = s.corePg := rfl
@[simp] theorem State.modPool_pwrAlert (s : State) (p : Nat) (f : Pool → Pool) : (s.modPool p f).pwrAlert = s.pwrAlert := rfl
@[simp] theorem State.modPool_thermTrip (s : State) (p : Nat) (f : Pool → Pool) : (s.modPool p f).thermTrip = s.thermTrip := rfl
@[simp] theorem State.modPool_powerSteps (s : State) (p : Nat) (f : Pool → Pool) : (s.modPool p f).powerSteps = s.powerSteps := rfl
@[simp] theorem State.modPool_powerQuiet (s : State) (p : Nat) (f : Pool → Pool) : (s.modPool p f).powerQuiet = s.powerQuiet := rfl
@[simp] theorem State.modPool_thermSteps (s : State) (p : Nat) (f : Pool → Pool) : (s.modPool p f).thermSteps = s.thermSteps := rfl
@[simp] theorem State.modPool_thermBeats (s : State) (p : Nat) (f : Pool → Pool) : (s.modPool p f).thermBeats = s.thermBeats := rfl
@[simp] theorem State.modPool_thermCool (s : State) (p : Nat) (f : Pool → Pool) : (s.modPool p f).thermCool = s.thermCool := rfl
@[simp] theorem State.modPool_noticeAt (s : State) (p : Nat) (f : Pool → Pool) : (s.modPool p f).noticeAt = s.noticeAt := rfl
@[simp] theorem State.modPool_noticeDue (s : State) (p : Nat) (f : Pool → Pool) : (s.modPool p f).noticeDue = s.noticeDue := rfl
@[simp] theorem State.modPool_deadSent (s : State) (p : Nat) (f : Pool → Pool) : (s.modPool p f).deadSent = s.deadSent := rfl
@[simp] theorem State.modPool_i3cAddr (s : State) (p : Nat) (f : Pool → Pool) : (s.modPool p f).i3cAddr = s.i3cAddr := rfl
@[simp] theorem State.modPool_out (s : State) (p : Nat) (f : Pool → Pool) : (s.modPool p f).out = s.out := rfl
@[simp] theorem State.modPool_freeCtr (s : State) (p : Nat) (f : Pool → Pool) : (s.modPool p f).freeCtr = s.freeCtr := rfl

/-! ### State.modGroup -/

@[simp] theorem State.modGroup_pending (s : State) (g : Nat) (f : Group → Group) : (s.modGroup g f).pending = s.pending := rfl
@[simp] theorem State.modGroup_objs (s : State) (g : Nat) (f : Group → Group) : (s.modGroup g f).objs = s.objs := rfl
@[simp] theorem State.modGroup_raises (s : State) (g : Nat) (f : Group → Group) : (s.modGroup g f).raises = s.raises := rfl
@[simp] theorem State.modGroup_gens (s : State) (g : Nat) (f : Group → Group) : (s.modGroup g f).gens = s.gens := rfl
@[simp] theorem State.modGroup_mem (s : State) (g : Nat) (f : Group → Group) : (s.modGroup g f).mem = s.mem := rfl
@[simp] theorem State.modGroup_poisoned (s : State) (g : Nat) (f : Group → Group) : (s.modGroup g f).poisoned = s.poisoned := rfl
@[simp] theorem State.modGroup_ctxs (s : State) (g : Nat) (f : Group → Group) : (s.modGroup g f).ctxs = s.ctxs := rfl
@[simp] theorem State.modGroup_pools (s : State) (g : Nat) (f : Group → Group) : (s.modGroup g f).pools = s.pools := rfl
@[simp] theorem State.modGroup_tiles (s : State) (g : Nat) (f : Group → Group) : (s.modGroup g f).tiles = s.tiles := rfl
@[simp] theorem State.modGroup_regs (s : State) (g : Nat) (f : Group → Group) : (s.modGroup g f).regs = s.regs := rfl
@[simp] theorem State.modGroup_links (s : State) (g : Nat) (f : Group → Group) : (s.modGroup g f).links = s.links := rfl
@[simp] theorem State.modGroup_mailboxes (s : State) (g : Nat) (f : Group → Group) : (s.modGroup g f).mailboxes = s.mailboxes := rfl
@[simp] theorem State.modGroup_selectors (s : State) (g : Nat) (f : Group → Group) : (s.modGroup g f).selectors = s.selectors := rfl
@[simp] theorem State.modGroup_staged (s : State) (g : Nat) (f : Group → Group) : (s.modGroup g f).staged = s.staged := rfl
@[simp] theorem State.modGroup_hostGrants (s : State) (g : Nat) (f : Group → Group) : (s.modGroup g f).hostGrants = s.hostGrants := rfl
@[simp] theorem State.modGroup_fabricGrants (s : State) (g : Nat) (f : Group → Group) : (s.modGroup g f).fabricGrants = s.fabricGrants := rfl
@[simp] theorem State.modGroup_mctpGrant (s : State) (g : Nat) (f : Group → Group) : (s.modGroup g f).mctpGrant = s.mctpGrant := rfl
@[simp] theorem State.modGroup_mctpLowered (s : State) (g : Nat) (f : Group → Group) : (s.modGroup g f).mctpLowered = s.mctpLowered := rfl
@[simp] theorem State.modGroup_lastDenied (s : State) (g : Nat) (f : Group → Group) : (s.modGroup g f).lastDenied = s.lastDenied := rfl
@[simp] theorem State.modGroup_apertures (s : State) (g : Nat) (f : Group → Group) : (s.modGroup g f).apertures = s.apertures := rfl
@[simp] theorem State.modGroup_haModules (s : State) (g : Nat) (f : Group → Group) : (s.modGroup g f).haModules = s.haModules := rfl
@[simp] theorem State.modGroup_stackCaps (s : State) (g : Nat) (f : Group → Group) : (s.modGroup g f).stackCaps = s.stackCaps := rfl
@[simp] theorem State.modGroup_linkGenMax (s : State) (g : Nat) (f : Group → Group) : (s.modGroup g f).linkGenMax = s.linkGenMax := rfl
@[simp] theorem State.modGroup_vcWeight (s : State) (g : Nat) (f : Group → Group) : (s.modGroup g f).vcWeight = s.vcWeight := rfl
@[simp] theorem State.modGroup_bypassed (s : State) (g : Nat) (f : Group → Group) : (s.modGroup g f).bypassed = s.bypassed := rfl
@[simp] theorem State.modGroup_spineDown (s : State) (g : Nat) (f : Group → Group) : (s.modGroup g f).spineDown = s.spineDown := rfl
@[simp] theorem State.modGroup_announced (s : State) (g : Nat) (f : Group → Group) : (s.modGroup g f).announced = s.announced := rfl
@[simp] theorem State.modGroup_serial (s : State) (g : Nat) (f : Group → Group) : (s.modGroup g f).serial = s.serial := rfl
@[simp] theorem State.modGroup_deadNodes (s : State) (g : Nat) (f : Group → Group) : (s.modGroup g f).deadNodes = s.deadNodes := rfl
@[simp] theorem State.modGroup_hotLines (s : State) (g : Nat) (f : Group → Group) : (s.modGroup g f).hotLines = s.hotLines := rfl
@[simp] theorem State.modGroup_queues (s : State) (g : Nat) (f : Group → Group) : (s.modGroup g f).queues = s.queues := rfl
@[simp] theorem State.modGroup_remotes (s : State) (g : Nat) (f : Group → Group) : (s.modGroup g f).remotes = s.remotes := rfl
@[simp] theorem State.modGroup_nextId (s : State) (g : Nat) (f : Group → Group) : (s.modGroup g f).nextId = s.nextId := rfl
@[simp] theorem State.modGroup_lapsed (s : State) (g : Nat) (f : Group → Group) : (s.modGroup g f).lapsed = s.lapsed := rfl
@[simp] theorem State.modGroup_holdVc4 (s : State) (g : Nat) (f : Group → Group) : (s.modGroup g f).holdVc4 = s.holdVc4 := rfl
@[simp] theorem State.modGroup_redirects (s : State) (g : Nat) (f : Group → Group) : (s.modGroup g f).redirects = s.redirects := rfl
@[simp] theorem State.modGroup_items (s : State) (g : Nat) (f : Group → Group) : (s.modGroup g f).items = s.items := rfl
@[simp] theorem State.modGroup_gradHeld (s : State) (g : Nat) (f : Group → Group) : (s.modGroup g f).gradHeld = s.gradHeld := rfl
@[simp] theorem State.modGroup_nextItem (s : State) (g : Nat) (f : Group → Group) : (s.modGroup g f).nextItem = s.nextItem := rfl
@[simp] theorem State.modGroup_wipingPages (s : State) (g : Nat) (f : Group → Group) : (s.modGroup g f).wipingPages = s.wipingPages := rfl
@[simp] theorem State.modGroup_wipingExtents (s : State) (g : Nat) (f : Group → Group) : (s.modGroup g f).wipingExtents = s.wipingExtents := rfl
@[simp] theorem State.modGroup_deadPages (s : State) (g : Nat) (f : Group → Group) : (s.modGroup g f).deadPages = s.deadPages := rfl
@[simp] theorem State.modGroup_deadExtents (s : State) (g : Nat) (f : Group → Group) : (s.modGroup g f).deadExtents = s.deadExtents := rfl
@[simp] theorem State.modGroup_partnerPages (s : State) (g : Nat) (f : Group → Group) : (s.modGroup g f).partnerPages = s.partnerPages := rfl
@[simp] theorem State.modGroup_partnerExtents (s : State) (g : Nat) (f : Group → Group) : (s.modGroup g f).partnerExtents = s.partnerExtents := rfl
@[simp] theorem State.modGroup_beatSeen (s : State) (g : Nat) (f : Group → Group) : (s.modGroup g f).beatSeen = s.beatSeen := rfl
@[simp] theorem State.modGroup_freqCorr (s : State) (g : Nat) (f : Group → Group) : (s.modGroup g f).freqCorr = s.freqCorr := rfl
@[simp] theorem State.modGroup_skewRun (s : State) (g : Nat) (f : Group → Group) : (s.modGroup g f).skewRun = s.skewRun := rfl
@[simp] theorem State.modGroup_holdTo (s : State) (g : Nat) (f : Group → Group) : (s.modGroup g f).holdTo = s.holdTo := rfl
@[simp] theorem State.modGroup_jumpBy (s : State) (g : Nat) (f : Group → Group) : (s.modGroup g f).jumpBy = s.jumpBy := rfl
@[simp] theorem State.modGroup_holdStart (s : State) (g : Nat) (f : Group → Group) : (s.modGroup g f).holdStart = s.holdStart := rfl
@[simp] theorem State.modGroup_lastExtern (s : State) (g : Nat) (f : Group → Group) : (s.modGroup g f).lastExtern = s.lastExtern := rfl
@[simp] theorem State.modGroup_log (s : State) (g : Nat) (f : Group → Group) : (s.modGroup g f).log = s.log := rfl
@[simp] theorem State.modGroup_coreStates (s : State) (g : Nat) (f : Group → Group) : (s.modGroup g f).coreStates = s.coreStates := rfl
@[simp] theorem State.modGroup_coreFaults (s : State) (g : Nat) (f : Group → Group) : (s.modGroup g f).coreFaults = s.coreFaults := rfl
@[simp] theorem State.modGroup_coreWords (s : State) (g : Nat) (f : Group → Group) : (s.modGroup g f).coreWords = s.coreWords := rfl
@[simp] theorem State.modGroup_exceeded (s : State) (g : Nat) (f : Group → Group) : (s.modGroup g f).exceeded = s.exceeded := rfl
@[simp] theorem State.modGroup_scrubLate (s : State) (g : Nat) (f : Group → Group) : (s.modGroup g f).scrubLate = s.scrubLate := rfl
@[simp] theorem State.modGroup_shadows (s : State) (g : Nat) (f : Group → Group) : (s.modGroup g f).shadows = s.shadows := rfl
@[simp] theorem State.modGroup_heldHalf (s : State) (g : Nat) (f : Group → Group) : (s.modGroup g f).heldHalf = s.heldHalf := rfl
@[simp] theorem State.modGroup_lastHeart (s : State) (g : Nat) (f : Group → Group) : (s.modGroup g f).lastHeart = s.lastHeart := rfl
@[simp] theorem State.modGroup_heartMissed (s : State) (g : Nat) (f : Group → Group) : (s.modGroup g f).heartMissed = s.heartMissed := rfl
@[simp] theorem State.modGroup_probing (s : State) (g : Nat) (f : Group → Group) : (s.modGroup g f).probing = s.probing := rfl
@[simp] theorem State.modGroup_taking (s : State) (g : Nat) (f : Group → Group) : (s.modGroup g f).taking = s.taking := rfl
@[simp] theorem State.modGroup_mirrorNext (s : State) (g : Nat) (f : Group → Group) : (s.modGroup g f).mirrorNext = s.mirrorNext := rfl
@[simp] theorem State.modGroup_unacked (s : State) (g : Nat) (f : Group → Group) : (s.modGroup g f).unacked = s.unacked := rfl
@[simp] theorem State.modGroup_handing (s : State) (g : Nat) (f : Group → Group) : (s.modGroup g f).handing = s.handing := rfl
@[simp] theorem State.modGroup_takeoverLast (s : State) (g : Nat) (f : Group → Group) : (s.modGroup g f).takeoverLast = s.takeoverLast := rfl
@[simp] theorem State.modGroup_partnerWords (s : State) (g : Nat) (f : Group → Group) : (s.modGroup g f).partnerWords = s.partnerWords := rfl
@[simp] theorem State.modGroup_startStep (s : State) (g : Nat) (f : Group → Group) : (s.modGroup g f).startStep = s.startStep := rfl
@[simp] theorem State.modGroup_attempts (s : State) (g : Nat) (f : Group → Group) : (s.modGroup g f).attempts = s.attempts := rfl
@[simp] theorem State.modGroup_partnerJournal (s : State) (g : Nat) (f : Group → Group) : (s.modGroup g f).partnerJournal = s.partnerJournal := rfl
@[simp] theorem State.modGroup_policy (s : State) (g : Nat) (f : Group → Group) : (s.modGroup g f).policy = s.policy := rfl
@[simp] theorem State.modGroup_ownerKey (s : State) (g : Nat) (f : Group → Group) : (s.modGroup g f).ownerKey = s.ownerKey := rfl
@[simp] theorem State.modGroup_challenges (s : State) (g : Nat) (f : Group → Group) : (s.modGroup g f).challenges = s.challenges := rfl
@[simp] theorem State.modGroup_sessions (s : State) (g : Nat) (f : Group → Group) : (s.modGroup g f).sessions = s.sessions := rfl
@[simp] theorem State.modGroup_debugLocked (s : State) (g : Nat) (f : Group → Group) : (s.modGroup g f).debugLocked = s.debugLocked := rfl
@[simp] theorem State.modGroup_debugImage (s : State) (g : Nat) (f : Group → Group) : (s.modGroup g f).debugImage = s.debugImage := rfl
@[simp] theorem State.modGroup_keepSteps (s : State) (g : Nat) (f : Group → Group) : (s.modGroup g f).keepSteps = s.keepSteps := rfl
@[simp] theorem State.modGroup_hbmStacks (s : State) (g : Nat) (f : Group → Group) : (s.modGroup g f).hbmStacks = s.hbmStacks := rfl
@[simp] theorem State.modGroup_measured (s : State) (g : Nat) (f : Group → Group) : (s.modGroup g f).measured = s.measured := rfl
@[simp] theorem State.modGroup_spdmState (s : State) (g : Nat) (f : Group → Group) : (s.modGroup g f).spdmState = s.spdmState := rfl
@[simp] theorem State.modGroup_ownerRetired (s : State) (g : Nat) (f : Group → Group) : (s.modGroup g f).ownerRetired = s.ownerRetired := rfl
@[simp] theorem State.modGroup_ckptStates (s : State) (g : Nat) (f : Group → Group) : (s.modGroup g f).ckptStates = s.ckptStates := rfl
@[simp] theorem State.modGroup_ckptInfo (s : State) (g : Nat) (f : Group → Group) : (s.modGroup g f).ckptInfo = s.ckptInfo := rfl
@[simp] theorem State.modGroup_ckpt (s : State) (g : Nat) (f : Group → Group) : (s.modGroup g f).ckpt = s.ckpt := rfl
@[simp] theorem State.modGroup_restoring (s : State) (g : Nat) (f : Group → Group) : (s.modGroup g f).restoring = s.restoring := rfl
@[simp] theorem State.modGroup_latchDue (s : State) (g : Nat) (f : Group → Group) : (s.modGroup g f).latchDue = s.latchDue := rfl
@[simp] theorem State.modGroup_latched (s : State) (g : Nat) (f : Group → Group) : (s.modGroup g f).latched = s.latched := rfl
@[simp] theorem State.modGroup_tempRegion (s : State) (g : Nat) (f : Group → Group) : (s.modGroup g f).tempRegion = s.tempRegion := rfl
@[simp] theorem State.modGroup_resetN (s : State) (g : Nat) (f : Group → Group) : (s.modGroup g f).resetN = s.resetN := rfl
@[simp] theorem State.modGroup_corePg (s : State) (g : Nat) (f : Group → Group) : (s.modGroup g f).corePg = s.corePg := rfl
@[simp] theorem State.modGroup_pwrAlert (s : State) (g : Nat) (f : Group → Group) : (s.modGroup g f).pwrAlert = s.pwrAlert := rfl
@[simp] theorem State.modGroup_thermTrip (s : State) (g : Nat) (f : Group → Group) : (s.modGroup g f).thermTrip = s.thermTrip := rfl
@[simp] theorem State.modGroup_powerSteps (s : State) (g : Nat) (f : Group → Group) : (s.modGroup g f).powerSteps = s.powerSteps := rfl
@[simp] theorem State.modGroup_powerQuiet (s : State) (g : Nat) (f : Group → Group) : (s.modGroup g f).powerQuiet = s.powerQuiet := rfl
@[simp] theorem State.modGroup_thermSteps (s : State) (g : Nat) (f : Group → Group) : (s.modGroup g f).thermSteps = s.thermSteps := rfl
@[simp] theorem State.modGroup_thermBeats (s : State) (g : Nat) (f : Group → Group) : (s.modGroup g f).thermBeats = s.thermBeats := rfl
@[simp] theorem State.modGroup_thermCool (s : State) (g : Nat) (f : Group → Group) : (s.modGroup g f).thermCool = s.thermCool := rfl
@[simp] theorem State.modGroup_noticeAt (s : State) (g : Nat) (f : Group → Group) : (s.modGroup g f).noticeAt = s.noticeAt := rfl
@[simp] theorem State.modGroup_noticeDue (s : State) (g : Nat) (f : Group → Group) : (s.modGroup g f).noticeDue = s.noticeDue := rfl
@[simp] theorem State.modGroup_deadSent (s : State) (g : Nat) (f : Group → Group) : (s.modGroup g f).deadSent = s.deadSent := rfl
@[simp] theorem State.modGroup_i3cAddr (s : State) (g : Nat) (f : Group → Group) : (s.modGroup g f).i3cAddr = s.i3cAddr := rfl
@[simp] theorem State.modGroup_out (s : State) (g : Nat) (f : Group → Group) : (s.modGroup g f).out = s.out := rfl
@[simp] theorem State.modGroup_freeCtr (s : State) (g : Nat) (f : Group → Group) : (s.modGroup g f).freeCtr = s.freeCtr := rfl

/-! ### State.modTile -/

@[simp] theorem State.modTile_pending (s : State) (u : Nat) (f : Tile → Tile) : (s.modTile u f).pending = s.pending := rfl
@[simp] theorem State.modTile_objs (s : State) (u : Nat) (f : Tile → Tile) : (s.modTile u f).objs = s.objs := rfl
@[simp] theorem State.modTile_raises (s : State) (u : Nat) (f : Tile → Tile) : (s.modTile u f).raises = s.raises := rfl
@[simp] theorem State.modTile_gens (s : State) (u : Nat) (f : Tile → Tile) : (s.modTile u f).gens = s.gens := rfl
@[simp] theorem State.modTile_mem (s : State) (u : Nat) (f : Tile → Tile) : (s.modTile u f).mem = s.mem := rfl
@[simp] theorem State.modTile_poisoned (s : State) (u : Nat) (f : Tile → Tile) : (s.modTile u f).poisoned = s.poisoned := rfl
@[simp] theorem State.modTile_ctxs (s : State) (u : Nat) (f : Tile → Tile) : (s.modTile u f).ctxs = s.ctxs := rfl
@[simp] theorem State.modTile_pools (s : State) (u : Nat) (f : Tile → Tile) : (s.modTile u f).pools = s.pools := rfl
@[simp] theorem State.modTile_groups (s : State) (u : Nat) (f : Tile → Tile) : (s.modTile u f).groups = s.groups := rfl
@[simp] theorem State.modTile_regs (s : State) (u : Nat) (f : Tile → Tile) : (s.modTile u f).regs = s.regs := rfl
@[simp] theorem State.modTile_links (s : State) (u : Nat) (f : Tile → Tile) : (s.modTile u f).links = s.links := rfl
@[simp] theorem State.modTile_mailboxes (s : State) (u : Nat) (f : Tile → Tile) : (s.modTile u f).mailboxes = s.mailboxes := rfl
@[simp] theorem State.modTile_selectors (s : State) (u : Nat) (f : Tile → Tile) : (s.modTile u f).selectors = s.selectors := rfl
@[simp] theorem State.modTile_staged (s : State) (u : Nat) (f : Tile → Tile) : (s.modTile u f).staged = s.staged := rfl
@[simp] theorem State.modTile_hostGrants (s : State) (u : Nat) (f : Tile → Tile) : (s.modTile u f).hostGrants = s.hostGrants := rfl
@[simp] theorem State.modTile_fabricGrants (s : State) (u : Nat) (f : Tile → Tile) : (s.modTile u f).fabricGrants = s.fabricGrants := rfl
@[simp] theorem State.modTile_mctpGrant (s : State) (u : Nat) (f : Tile → Tile) : (s.modTile u f).mctpGrant = s.mctpGrant := rfl
@[simp] theorem State.modTile_mctpLowered (s : State) (u : Nat) (f : Tile → Tile) : (s.modTile u f).mctpLowered = s.mctpLowered := rfl
@[simp] theorem State.modTile_lastDenied (s : State) (u : Nat) (f : Tile → Tile) : (s.modTile u f).lastDenied = s.lastDenied := rfl
@[simp] theorem State.modTile_apertures (s : State) (u : Nat) (f : Tile → Tile) : (s.modTile u f).apertures = s.apertures := rfl
@[simp] theorem State.modTile_haModules (s : State) (u : Nat) (f : Tile → Tile) : (s.modTile u f).haModules = s.haModules := rfl
@[simp] theorem State.modTile_stackCaps (s : State) (u : Nat) (f : Tile → Tile) : (s.modTile u f).stackCaps = s.stackCaps := rfl
@[simp] theorem State.modTile_linkGenMax (s : State) (u : Nat) (f : Tile → Tile) : (s.modTile u f).linkGenMax = s.linkGenMax := rfl
@[simp] theorem State.modTile_vcWeight (s : State) (u : Nat) (f : Tile → Tile) : (s.modTile u f).vcWeight = s.vcWeight := rfl
@[simp] theorem State.modTile_bypassed (s : State) (u : Nat) (f : Tile → Tile) : (s.modTile u f).bypassed = s.bypassed := rfl
@[simp] theorem State.modTile_spineDown (s : State) (u : Nat) (f : Tile → Tile) : (s.modTile u f).spineDown = s.spineDown := rfl
@[simp] theorem State.modTile_announced (s : State) (u : Nat) (f : Tile → Tile) : (s.modTile u f).announced = s.announced := rfl
@[simp] theorem State.modTile_serial (s : State) (u : Nat) (f : Tile → Tile) : (s.modTile u f).serial = s.serial := rfl
@[simp] theorem State.modTile_deadNodes (s : State) (u : Nat) (f : Tile → Tile) : (s.modTile u f).deadNodes = s.deadNodes := rfl
@[simp] theorem State.modTile_hotLines (s : State) (u : Nat) (f : Tile → Tile) : (s.modTile u f).hotLines = s.hotLines := rfl
@[simp] theorem State.modTile_queues (s : State) (u : Nat) (f : Tile → Tile) : (s.modTile u f).queues = s.queues := rfl
@[simp] theorem State.modTile_remotes (s : State) (u : Nat) (f : Tile → Tile) : (s.modTile u f).remotes = s.remotes := rfl
@[simp] theorem State.modTile_nextId (s : State) (u : Nat) (f : Tile → Tile) : (s.modTile u f).nextId = s.nextId := rfl
@[simp] theorem State.modTile_lapsed (s : State) (u : Nat) (f : Tile → Tile) : (s.modTile u f).lapsed = s.lapsed := rfl
@[simp] theorem State.modTile_holdVc4 (s : State) (u : Nat) (f : Tile → Tile) : (s.modTile u f).holdVc4 = s.holdVc4 := rfl
@[simp] theorem State.modTile_redirects (s : State) (u : Nat) (f : Tile → Tile) : (s.modTile u f).redirects = s.redirects := rfl
@[simp] theorem State.modTile_items (s : State) (u : Nat) (f : Tile → Tile) : (s.modTile u f).items = s.items := rfl
@[simp] theorem State.modTile_gradHeld (s : State) (u : Nat) (f : Tile → Tile) : (s.modTile u f).gradHeld = s.gradHeld := rfl
@[simp] theorem State.modTile_nextItem (s : State) (u : Nat) (f : Tile → Tile) : (s.modTile u f).nextItem = s.nextItem := rfl
@[simp] theorem State.modTile_wipingPages (s : State) (u : Nat) (f : Tile → Tile) : (s.modTile u f).wipingPages = s.wipingPages := rfl
@[simp] theorem State.modTile_wipingExtents (s : State) (u : Nat) (f : Tile → Tile) : (s.modTile u f).wipingExtents = s.wipingExtents := rfl
@[simp] theorem State.modTile_deadPages (s : State) (u : Nat) (f : Tile → Tile) : (s.modTile u f).deadPages = s.deadPages := rfl
@[simp] theorem State.modTile_deadExtents (s : State) (u : Nat) (f : Tile → Tile) : (s.modTile u f).deadExtents = s.deadExtents := rfl
@[simp] theorem State.modTile_partnerPages (s : State) (u : Nat) (f : Tile → Tile) : (s.modTile u f).partnerPages = s.partnerPages := rfl
@[simp] theorem State.modTile_partnerExtents (s : State) (u : Nat) (f : Tile → Tile) : (s.modTile u f).partnerExtents = s.partnerExtents := rfl
@[simp] theorem State.modTile_beatSeen (s : State) (u : Nat) (f : Tile → Tile) : (s.modTile u f).beatSeen = s.beatSeen := rfl
@[simp] theorem State.modTile_freqCorr (s : State) (u : Nat) (f : Tile → Tile) : (s.modTile u f).freqCorr = s.freqCorr := rfl
@[simp] theorem State.modTile_skewRun (s : State) (u : Nat) (f : Tile → Tile) : (s.modTile u f).skewRun = s.skewRun := rfl
@[simp] theorem State.modTile_holdTo (s : State) (u : Nat) (f : Tile → Tile) : (s.modTile u f).holdTo = s.holdTo := rfl
@[simp] theorem State.modTile_jumpBy (s : State) (u : Nat) (f : Tile → Tile) : (s.modTile u f).jumpBy = s.jumpBy := rfl
@[simp] theorem State.modTile_holdStart (s : State) (u : Nat) (f : Tile → Tile) : (s.modTile u f).holdStart = s.holdStart := rfl
@[simp] theorem State.modTile_lastExtern (s : State) (u : Nat) (f : Tile → Tile) : (s.modTile u f).lastExtern = s.lastExtern := rfl
@[simp] theorem State.modTile_log (s : State) (u : Nat) (f : Tile → Tile) : (s.modTile u f).log = s.log := rfl
@[simp] theorem State.modTile_coreStates (s : State) (u : Nat) (f : Tile → Tile) : (s.modTile u f).coreStates = s.coreStates := rfl
@[simp] theorem State.modTile_coreFaults (s : State) (u : Nat) (f : Tile → Tile) : (s.modTile u f).coreFaults = s.coreFaults := rfl
@[simp] theorem State.modTile_coreWords (s : State) (u : Nat) (f : Tile → Tile) : (s.modTile u f).coreWords = s.coreWords := rfl
@[simp] theorem State.modTile_exceeded (s : State) (u : Nat) (f : Tile → Tile) : (s.modTile u f).exceeded = s.exceeded := rfl
@[simp] theorem State.modTile_scrubLate (s : State) (u : Nat) (f : Tile → Tile) : (s.modTile u f).scrubLate = s.scrubLate := rfl
@[simp] theorem State.modTile_shadows (s : State) (u : Nat) (f : Tile → Tile) : (s.modTile u f).shadows = s.shadows := rfl
@[simp] theorem State.modTile_heldHalf (s : State) (u : Nat) (f : Tile → Tile) : (s.modTile u f).heldHalf = s.heldHalf := rfl
@[simp] theorem State.modTile_lastHeart (s : State) (u : Nat) (f : Tile → Tile) : (s.modTile u f).lastHeart = s.lastHeart := rfl
@[simp] theorem State.modTile_heartMissed (s : State) (u : Nat) (f : Tile → Tile) : (s.modTile u f).heartMissed = s.heartMissed := rfl
@[simp] theorem State.modTile_probing (s : State) (u : Nat) (f : Tile → Tile) : (s.modTile u f).probing = s.probing := rfl
@[simp] theorem State.modTile_taking (s : State) (u : Nat) (f : Tile → Tile) : (s.modTile u f).taking = s.taking := rfl
@[simp] theorem State.modTile_mirrorNext (s : State) (u : Nat) (f : Tile → Tile) : (s.modTile u f).mirrorNext = s.mirrorNext := rfl
@[simp] theorem State.modTile_unacked (s : State) (u : Nat) (f : Tile → Tile) : (s.modTile u f).unacked = s.unacked := rfl
@[simp] theorem State.modTile_handing (s : State) (u : Nat) (f : Tile → Tile) : (s.modTile u f).handing = s.handing := rfl
@[simp] theorem State.modTile_takeoverLast (s : State) (u : Nat) (f : Tile → Tile) : (s.modTile u f).takeoverLast = s.takeoverLast := rfl
@[simp] theorem State.modTile_partnerWords (s : State) (u : Nat) (f : Tile → Tile) : (s.modTile u f).partnerWords = s.partnerWords := rfl
@[simp] theorem State.modTile_startStep (s : State) (u : Nat) (f : Tile → Tile) : (s.modTile u f).startStep = s.startStep := rfl
@[simp] theorem State.modTile_attempts (s : State) (u : Nat) (f : Tile → Tile) : (s.modTile u f).attempts = s.attempts := rfl
@[simp] theorem State.modTile_partnerJournal (s : State) (u : Nat) (f : Tile → Tile) : (s.modTile u f).partnerJournal = s.partnerJournal := rfl
@[simp] theorem State.modTile_policy (s : State) (u : Nat) (f : Tile → Tile) : (s.modTile u f).policy = s.policy := rfl
@[simp] theorem State.modTile_ownerKey (s : State) (u : Nat) (f : Tile → Tile) : (s.modTile u f).ownerKey = s.ownerKey := rfl
@[simp] theorem State.modTile_challenges (s : State) (u : Nat) (f : Tile → Tile) : (s.modTile u f).challenges = s.challenges := rfl
@[simp] theorem State.modTile_sessions (s : State) (u : Nat) (f : Tile → Tile) : (s.modTile u f).sessions = s.sessions := rfl
@[simp] theorem State.modTile_debugLocked (s : State) (u : Nat) (f : Tile → Tile) : (s.modTile u f).debugLocked = s.debugLocked := rfl
@[simp] theorem State.modTile_debugImage (s : State) (u : Nat) (f : Tile → Tile) : (s.modTile u f).debugImage = s.debugImage := rfl
@[simp] theorem State.modTile_keepSteps (s : State) (u : Nat) (f : Tile → Tile) : (s.modTile u f).keepSteps = s.keepSteps := rfl
@[simp] theorem State.modTile_hbmStacks (s : State) (u : Nat) (f : Tile → Tile) : (s.modTile u f).hbmStacks = s.hbmStacks := rfl
@[simp] theorem State.modTile_measured (s : State) (u : Nat) (f : Tile → Tile) : (s.modTile u f).measured = s.measured := rfl
@[simp] theorem State.modTile_spdmState (s : State) (u : Nat) (f : Tile → Tile) : (s.modTile u f).spdmState = s.spdmState := rfl
@[simp] theorem State.modTile_ownerRetired (s : State) (u : Nat) (f : Tile → Tile) : (s.modTile u f).ownerRetired = s.ownerRetired := rfl
@[simp] theorem State.modTile_ckptStates (s : State) (u : Nat) (f : Tile → Tile) : (s.modTile u f).ckptStates = s.ckptStates := rfl
@[simp] theorem State.modTile_ckptInfo (s : State) (u : Nat) (f : Tile → Tile) : (s.modTile u f).ckptInfo = s.ckptInfo := rfl
@[simp] theorem State.modTile_ckpt (s : State) (u : Nat) (f : Tile → Tile) : (s.modTile u f).ckpt = s.ckpt := rfl
@[simp] theorem State.modTile_restoring (s : State) (u : Nat) (f : Tile → Tile) : (s.modTile u f).restoring = s.restoring := rfl
@[simp] theorem State.modTile_latchDue (s : State) (u : Nat) (f : Tile → Tile) : (s.modTile u f).latchDue = s.latchDue := rfl
@[simp] theorem State.modTile_latched (s : State) (u : Nat) (f : Tile → Tile) : (s.modTile u f).latched = s.latched := rfl
@[simp] theorem State.modTile_tempRegion (s : State) (u : Nat) (f : Tile → Tile) : (s.modTile u f).tempRegion = s.tempRegion := rfl
@[simp] theorem State.modTile_resetN (s : State) (u : Nat) (f : Tile → Tile) : (s.modTile u f).resetN = s.resetN := rfl
@[simp] theorem State.modTile_corePg (s : State) (u : Nat) (f : Tile → Tile) : (s.modTile u f).corePg = s.corePg := rfl
@[simp] theorem State.modTile_pwrAlert (s : State) (u : Nat) (f : Tile → Tile) : (s.modTile u f).pwrAlert = s.pwrAlert := rfl
@[simp] theorem State.modTile_thermTrip (s : State) (u : Nat) (f : Tile → Tile) : (s.modTile u f).thermTrip = s.thermTrip := rfl
@[simp] theorem State.modTile_powerSteps (s : State) (u : Nat) (f : Tile → Tile) : (s.modTile u f).powerSteps = s.powerSteps := rfl
@[simp] theorem State.modTile_powerQuiet (s : State) (u : Nat) (f : Tile → Tile) : (s.modTile u f).powerQuiet = s.powerQuiet := rfl
@[simp] theorem State.modTile_thermSteps (s : State) (u : Nat) (f : Tile → Tile) : (s.modTile u f).thermSteps = s.thermSteps := rfl
@[simp] theorem State.modTile_thermBeats (s : State) (u : Nat) (f : Tile → Tile) : (s.modTile u f).thermBeats = s.thermBeats := rfl
@[simp] theorem State.modTile_thermCool (s : State) (u : Nat) (f : Tile → Tile) : (s.modTile u f).thermCool = s.thermCool := rfl
@[simp] theorem State.modTile_noticeAt (s : State) (u : Nat) (f : Tile → Tile) : (s.modTile u f).noticeAt = s.noticeAt := rfl
@[simp] theorem State.modTile_noticeDue (s : State) (u : Nat) (f : Tile → Tile) : (s.modTile u f).noticeDue = s.noticeDue := rfl
@[simp] theorem State.modTile_deadSent (s : State) (u : Nat) (f : Tile → Tile) : (s.modTile u f).deadSent = s.deadSent := rfl
@[simp] theorem State.modTile_i3cAddr (s : State) (u : Nat) (f : Tile → Tile) : (s.modTile u f).i3cAddr = s.i3cAddr := rfl
@[simp] theorem State.modTile_out (s : State) (u : Nat) (f : Tile → Tile) : (s.modTile u f).out = s.out := rfl
@[simp] theorem State.modTile_freeCtr (s : State) (u : Nat) (f : Tile → Tile) : (s.modTile u f).freeCtr = s.freeCtr := rfl

/-! ### State.modReg -/

@[simp] theorem State.modReg_pending (s : State) (u : Nat) (f : EngRegion → EngRegion) : (s.modReg u f).pending = s.pending := rfl
@[simp] theorem State.modReg_objs (s : State) (u : Nat) (f : EngRegion → EngRegion) : (s.modReg u f).objs = s.objs := rfl
@[simp] theorem State.modReg_raises (s : State) (u : Nat) (f : EngRegion → EngRegion) : (s.modReg u f).raises = s.raises := rfl
@[simp] theorem State.modReg_gens (s : State) (u : Nat) (f : EngRegion → EngRegion) : (s.modReg u f).gens = s.gens := rfl
@[simp] theorem State.modReg_mem (s : State) (u : Nat) (f : EngRegion → EngRegion) : (s.modReg u f).mem = s.mem := rfl
@[simp] theorem State.modReg_poisoned (s : State) (u : Nat) (f : EngRegion → EngRegion) : (s.modReg u f).poisoned = s.poisoned := rfl
@[simp] theorem State.modReg_ctxs (s : State) (u : Nat) (f : EngRegion → EngRegion) : (s.modReg u f).ctxs = s.ctxs := rfl
@[simp] theorem State.modReg_pools (s : State) (u : Nat) (f : EngRegion → EngRegion) : (s.modReg u f).pools = s.pools := rfl
@[simp] theorem State.modReg_groups (s : State) (u : Nat) (f : EngRegion → EngRegion) : (s.modReg u f).groups = s.groups := rfl
@[simp] theorem State.modReg_tiles (s : State) (u : Nat) (f : EngRegion → EngRegion) : (s.modReg u f).tiles = s.tiles := rfl
@[simp] theorem State.modReg_links (s : State) (u : Nat) (f : EngRegion → EngRegion) : (s.modReg u f).links = s.links := rfl
@[simp] theorem State.modReg_mailboxes (s : State) (u : Nat) (f : EngRegion → EngRegion) : (s.modReg u f).mailboxes = s.mailboxes := rfl
@[simp] theorem State.modReg_selectors (s : State) (u : Nat) (f : EngRegion → EngRegion) : (s.modReg u f).selectors = s.selectors := rfl
@[simp] theorem State.modReg_staged (s : State) (u : Nat) (f : EngRegion → EngRegion) : (s.modReg u f).staged = s.staged := rfl
@[simp] theorem State.modReg_hostGrants (s : State) (u : Nat) (f : EngRegion → EngRegion) : (s.modReg u f).hostGrants = s.hostGrants := rfl
@[simp] theorem State.modReg_fabricGrants (s : State) (u : Nat) (f : EngRegion → EngRegion) : (s.modReg u f).fabricGrants = s.fabricGrants := rfl
@[simp] theorem State.modReg_mctpGrant (s : State) (u : Nat) (f : EngRegion → EngRegion) : (s.modReg u f).mctpGrant = s.mctpGrant := rfl
@[simp] theorem State.modReg_mctpLowered (s : State) (u : Nat) (f : EngRegion → EngRegion) : (s.modReg u f).mctpLowered = s.mctpLowered := rfl
@[simp] theorem State.modReg_lastDenied (s : State) (u : Nat) (f : EngRegion → EngRegion) : (s.modReg u f).lastDenied = s.lastDenied := rfl
@[simp] theorem State.modReg_apertures (s : State) (u : Nat) (f : EngRegion → EngRegion) : (s.modReg u f).apertures = s.apertures := rfl
@[simp] theorem State.modReg_haModules (s : State) (u : Nat) (f : EngRegion → EngRegion) : (s.modReg u f).haModules = s.haModules := rfl
@[simp] theorem State.modReg_stackCaps (s : State) (u : Nat) (f : EngRegion → EngRegion) : (s.modReg u f).stackCaps = s.stackCaps := rfl
@[simp] theorem State.modReg_linkGenMax (s : State) (u : Nat) (f : EngRegion → EngRegion) : (s.modReg u f).linkGenMax = s.linkGenMax := rfl
@[simp] theorem State.modReg_vcWeight (s : State) (u : Nat) (f : EngRegion → EngRegion) : (s.modReg u f).vcWeight = s.vcWeight := rfl
@[simp] theorem State.modReg_bypassed (s : State) (u : Nat) (f : EngRegion → EngRegion) : (s.modReg u f).bypassed = s.bypassed := rfl
@[simp] theorem State.modReg_spineDown (s : State) (u : Nat) (f : EngRegion → EngRegion) : (s.modReg u f).spineDown = s.spineDown := rfl
@[simp] theorem State.modReg_announced (s : State) (u : Nat) (f : EngRegion → EngRegion) : (s.modReg u f).announced = s.announced := rfl
@[simp] theorem State.modReg_serial (s : State) (u : Nat) (f : EngRegion → EngRegion) : (s.modReg u f).serial = s.serial := rfl
@[simp] theorem State.modReg_deadNodes (s : State) (u : Nat) (f : EngRegion → EngRegion) : (s.modReg u f).deadNodes = s.deadNodes := rfl
@[simp] theorem State.modReg_hotLines (s : State) (u : Nat) (f : EngRegion → EngRegion) : (s.modReg u f).hotLines = s.hotLines := rfl
@[simp] theorem State.modReg_queues (s : State) (u : Nat) (f : EngRegion → EngRegion) : (s.modReg u f).queues = s.queues := rfl
@[simp] theorem State.modReg_remotes (s : State) (u : Nat) (f : EngRegion → EngRegion) : (s.modReg u f).remotes = s.remotes := rfl
@[simp] theorem State.modReg_nextId (s : State) (u : Nat) (f : EngRegion → EngRegion) : (s.modReg u f).nextId = s.nextId := rfl
@[simp] theorem State.modReg_lapsed (s : State) (u : Nat) (f : EngRegion → EngRegion) : (s.modReg u f).lapsed = s.lapsed := rfl
@[simp] theorem State.modReg_holdVc4 (s : State) (u : Nat) (f : EngRegion → EngRegion) : (s.modReg u f).holdVc4 = s.holdVc4 := rfl
@[simp] theorem State.modReg_redirects (s : State) (u : Nat) (f : EngRegion → EngRegion) : (s.modReg u f).redirects = s.redirects := rfl
@[simp] theorem State.modReg_items (s : State) (u : Nat) (f : EngRegion → EngRegion) : (s.modReg u f).items = s.items := rfl
@[simp] theorem State.modReg_gradHeld (s : State) (u : Nat) (f : EngRegion → EngRegion) : (s.modReg u f).gradHeld = s.gradHeld := rfl
@[simp] theorem State.modReg_nextItem (s : State) (u : Nat) (f : EngRegion → EngRegion) : (s.modReg u f).nextItem = s.nextItem := rfl
@[simp] theorem State.modReg_wipingPages (s : State) (u : Nat) (f : EngRegion → EngRegion) : (s.modReg u f).wipingPages = s.wipingPages := rfl
@[simp] theorem State.modReg_wipingExtents (s : State) (u : Nat) (f : EngRegion → EngRegion) : (s.modReg u f).wipingExtents = s.wipingExtents := rfl
@[simp] theorem State.modReg_deadPages (s : State) (u : Nat) (f : EngRegion → EngRegion) : (s.modReg u f).deadPages = s.deadPages := rfl
@[simp] theorem State.modReg_deadExtents (s : State) (u : Nat) (f : EngRegion → EngRegion) : (s.modReg u f).deadExtents = s.deadExtents := rfl
@[simp] theorem State.modReg_partnerPages (s : State) (u : Nat) (f : EngRegion → EngRegion) : (s.modReg u f).partnerPages = s.partnerPages := rfl
@[simp] theorem State.modReg_partnerExtents (s : State) (u : Nat) (f : EngRegion → EngRegion) : (s.modReg u f).partnerExtents = s.partnerExtents := rfl
@[simp] theorem State.modReg_beatSeen (s : State) (u : Nat) (f : EngRegion → EngRegion) : (s.modReg u f).beatSeen = s.beatSeen := rfl
@[simp] theorem State.modReg_freqCorr (s : State) (u : Nat) (f : EngRegion → EngRegion) : (s.modReg u f).freqCorr = s.freqCorr := rfl
@[simp] theorem State.modReg_skewRun (s : State) (u : Nat) (f : EngRegion → EngRegion) : (s.modReg u f).skewRun = s.skewRun := rfl
@[simp] theorem State.modReg_holdTo (s : State) (u : Nat) (f : EngRegion → EngRegion) : (s.modReg u f).holdTo = s.holdTo := rfl
@[simp] theorem State.modReg_jumpBy (s : State) (u : Nat) (f : EngRegion → EngRegion) : (s.modReg u f).jumpBy = s.jumpBy := rfl
@[simp] theorem State.modReg_holdStart (s : State) (u : Nat) (f : EngRegion → EngRegion) : (s.modReg u f).holdStart = s.holdStart := rfl
@[simp] theorem State.modReg_lastExtern (s : State) (u : Nat) (f : EngRegion → EngRegion) : (s.modReg u f).lastExtern = s.lastExtern := rfl
@[simp] theorem State.modReg_log (s : State) (u : Nat) (f : EngRegion → EngRegion) : (s.modReg u f).log = s.log := rfl
@[simp] theorem State.modReg_coreStates (s : State) (u : Nat) (f : EngRegion → EngRegion) : (s.modReg u f).coreStates = s.coreStates := rfl
@[simp] theorem State.modReg_coreFaults (s : State) (u : Nat) (f : EngRegion → EngRegion) : (s.modReg u f).coreFaults = s.coreFaults := rfl
@[simp] theorem State.modReg_coreWords (s : State) (u : Nat) (f : EngRegion → EngRegion) : (s.modReg u f).coreWords = s.coreWords := rfl
@[simp] theorem State.modReg_exceeded (s : State) (u : Nat) (f : EngRegion → EngRegion) : (s.modReg u f).exceeded = s.exceeded := rfl
@[simp] theorem State.modReg_scrubLate (s : State) (u : Nat) (f : EngRegion → EngRegion) : (s.modReg u f).scrubLate = s.scrubLate := rfl
@[simp] theorem State.modReg_shadows (s : State) (u : Nat) (f : EngRegion → EngRegion) : (s.modReg u f).shadows = s.shadows := rfl
@[simp] theorem State.modReg_heldHalf (s : State) (u : Nat) (f : EngRegion → EngRegion) : (s.modReg u f).heldHalf = s.heldHalf := rfl
@[simp] theorem State.modReg_lastHeart (s : State) (u : Nat) (f : EngRegion → EngRegion) : (s.modReg u f).lastHeart = s.lastHeart := rfl
@[simp] theorem State.modReg_heartMissed (s : State) (u : Nat) (f : EngRegion → EngRegion) : (s.modReg u f).heartMissed = s.heartMissed := rfl
@[simp] theorem State.modReg_probing (s : State) (u : Nat) (f : EngRegion → EngRegion) : (s.modReg u f).probing = s.probing := rfl
@[simp] theorem State.modReg_taking (s : State) (u : Nat) (f : EngRegion → EngRegion) : (s.modReg u f).taking = s.taking := rfl
@[simp] theorem State.modReg_mirrorNext (s : State) (u : Nat) (f : EngRegion → EngRegion) : (s.modReg u f).mirrorNext = s.mirrorNext := rfl
@[simp] theorem State.modReg_unacked (s : State) (u : Nat) (f : EngRegion → EngRegion) : (s.modReg u f).unacked = s.unacked := rfl
@[simp] theorem State.modReg_handing (s : State) (u : Nat) (f : EngRegion → EngRegion) : (s.modReg u f).handing = s.handing := rfl
@[simp] theorem State.modReg_takeoverLast (s : State) (u : Nat) (f : EngRegion → EngRegion) : (s.modReg u f).takeoverLast = s.takeoverLast := rfl
@[simp] theorem State.modReg_partnerWords (s : State) (u : Nat) (f : EngRegion → EngRegion) : (s.modReg u f).partnerWords = s.partnerWords := rfl
@[simp] theorem State.modReg_startStep (s : State) (u : Nat) (f : EngRegion → EngRegion) : (s.modReg u f).startStep = s.startStep := rfl
@[simp] theorem State.modReg_attempts (s : State) (u : Nat) (f : EngRegion → EngRegion) : (s.modReg u f).attempts = s.attempts := rfl
@[simp] theorem State.modReg_partnerJournal (s : State) (u : Nat) (f : EngRegion → EngRegion) : (s.modReg u f).partnerJournal = s.partnerJournal := rfl
@[simp] theorem State.modReg_policy (s : State) (u : Nat) (f : EngRegion → EngRegion) : (s.modReg u f).policy = s.policy := rfl
@[simp] theorem State.modReg_ownerKey (s : State) (u : Nat) (f : EngRegion → EngRegion) : (s.modReg u f).ownerKey = s.ownerKey := rfl
@[simp] theorem State.modReg_challenges (s : State) (u : Nat) (f : EngRegion → EngRegion) : (s.modReg u f).challenges = s.challenges := rfl
@[simp] theorem State.modReg_sessions (s : State) (u : Nat) (f : EngRegion → EngRegion) : (s.modReg u f).sessions = s.sessions := rfl
@[simp] theorem State.modReg_debugLocked (s : State) (u : Nat) (f : EngRegion → EngRegion) : (s.modReg u f).debugLocked = s.debugLocked := rfl
@[simp] theorem State.modReg_debugImage (s : State) (u : Nat) (f : EngRegion → EngRegion) : (s.modReg u f).debugImage = s.debugImage := rfl
@[simp] theorem State.modReg_keepSteps (s : State) (u : Nat) (f : EngRegion → EngRegion) : (s.modReg u f).keepSteps = s.keepSteps := rfl
@[simp] theorem State.modReg_hbmStacks (s : State) (u : Nat) (f : EngRegion → EngRegion) : (s.modReg u f).hbmStacks = s.hbmStacks := rfl
@[simp] theorem State.modReg_measured (s : State) (u : Nat) (f : EngRegion → EngRegion) : (s.modReg u f).measured = s.measured := rfl
@[simp] theorem State.modReg_spdmState (s : State) (u : Nat) (f : EngRegion → EngRegion) : (s.modReg u f).spdmState = s.spdmState := rfl
@[simp] theorem State.modReg_ownerRetired (s : State) (u : Nat) (f : EngRegion → EngRegion) : (s.modReg u f).ownerRetired = s.ownerRetired := rfl
@[simp] theorem State.modReg_ckptStates (s : State) (u : Nat) (f : EngRegion → EngRegion) : (s.modReg u f).ckptStates = s.ckptStates := rfl
@[simp] theorem State.modReg_ckptInfo (s : State) (u : Nat) (f : EngRegion → EngRegion) : (s.modReg u f).ckptInfo = s.ckptInfo := rfl
@[simp] theorem State.modReg_ckpt (s : State) (u : Nat) (f : EngRegion → EngRegion) : (s.modReg u f).ckpt = s.ckpt := rfl
@[simp] theorem State.modReg_restoring (s : State) (u : Nat) (f : EngRegion → EngRegion) : (s.modReg u f).restoring = s.restoring := rfl
@[simp] theorem State.modReg_latchDue (s : State) (u : Nat) (f : EngRegion → EngRegion) : (s.modReg u f).latchDue = s.latchDue := rfl
@[simp] theorem State.modReg_latched (s : State) (u : Nat) (f : EngRegion → EngRegion) : (s.modReg u f).latched = s.latched := rfl
@[simp] theorem State.modReg_tempRegion (s : State) (u : Nat) (f : EngRegion → EngRegion) : (s.modReg u f).tempRegion = s.tempRegion := rfl
@[simp] theorem State.modReg_resetN (s : State) (u : Nat) (f : EngRegion → EngRegion) : (s.modReg u f).resetN = s.resetN := rfl
@[simp] theorem State.modReg_corePg (s : State) (u : Nat) (f : EngRegion → EngRegion) : (s.modReg u f).corePg = s.corePg := rfl
@[simp] theorem State.modReg_pwrAlert (s : State) (u : Nat) (f : EngRegion → EngRegion) : (s.modReg u f).pwrAlert = s.pwrAlert := rfl
@[simp] theorem State.modReg_thermTrip (s : State) (u : Nat) (f : EngRegion → EngRegion) : (s.modReg u f).thermTrip = s.thermTrip := rfl
@[simp] theorem State.modReg_powerSteps (s : State) (u : Nat) (f : EngRegion → EngRegion) : (s.modReg u f).powerSteps = s.powerSteps := rfl
@[simp] theorem State.modReg_powerQuiet (s : State) (u : Nat) (f : EngRegion → EngRegion) : (s.modReg u f).powerQuiet = s.powerQuiet := rfl
@[simp] theorem State.modReg_thermSteps (s : State) (u : Nat) (f : EngRegion → EngRegion) : (s.modReg u f).thermSteps = s.thermSteps := rfl
@[simp] theorem State.modReg_thermBeats (s : State) (u : Nat) (f : EngRegion → EngRegion) : (s.modReg u f).thermBeats = s.thermBeats := rfl
@[simp] theorem State.modReg_thermCool (s : State) (u : Nat) (f : EngRegion → EngRegion) : (s.modReg u f).thermCool = s.thermCool := rfl
@[simp] theorem State.modReg_noticeAt (s : State) (u : Nat) (f : EngRegion → EngRegion) : (s.modReg u f).noticeAt = s.noticeAt := rfl
@[simp] theorem State.modReg_noticeDue (s : State) (u : Nat) (f : EngRegion → EngRegion) : (s.modReg u f).noticeDue = s.noticeDue := rfl
@[simp] theorem State.modReg_deadSent (s : State) (u : Nat) (f : EngRegion → EngRegion) : (s.modReg u f).deadSent = s.deadSent := rfl
@[simp] theorem State.modReg_i3cAddr (s : State) (u : Nat) (f : EngRegion → EngRegion) : (s.modReg u f).i3cAddr = s.i3cAddr := rfl
@[simp] theorem State.modReg_out (s : State) (u : Nat) (f : EngRegion → EngRegion) : (s.modReg u f).out = s.out := rfl
@[simp] theorem State.modReg_freeCtr (s : State) (u : Nat) (f : EngRegion → EngRegion) : (s.modReg u f).freeCtr = s.freeCtr := rfl

/-! ### State.modLink -/

@[simp] theorem State.modLink_pending (s : State) (l : Nat) (f : Link → Link) : (s.modLink l f).pending = s.pending := rfl
@[simp] theorem State.modLink_objs (s : State) (l : Nat) (f : Link → Link) : (s.modLink l f).objs = s.objs := rfl
@[simp] theorem State.modLink_raises (s : State) (l : Nat) (f : Link → Link) : (s.modLink l f).raises = s.raises := rfl
@[simp] theorem State.modLink_gens (s : State) (l : Nat) (f : Link → Link) : (s.modLink l f).gens = s.gens := rfl
@[simp] theorem State.modLink_mem (s : State) (l : Nat) (f : Link → Link) : (s.modLink l f).mem = s.mem := rfl
@[simp] theorem State.modLink_poisoned (s : State) (l : Nat) (f : Link → Link) : (s.modLink l f).poisoned = s.poisoned := rfl
@[simp] theorem State.modLink_ctxs (s : State) (l : Nat) (f : Link → Link) : (s.modLink l f).ctxs = s.ctxs := rfl
@[simp] theorem State.modLink_pools (s : State) (l : Nat) (f : Link → Link) : (s.modLink l f).pools = s.pools := rfl
@[simp] theorem State.modLink_groups (s : State) (l : Nat) (f : Link → Link) : (s.modLink l f).groups = s.groups := rfl
@[simp] theorem State.modLink_tiles (s : State) (l : Nat) (f : Link → Link) : (s.modLink l f).tiles = s.tiles := rfl
@[simp] theorem State.modLink_regs (s : State) (l : Nat) (f : Link → Link) : (s.modLink l f).regs = s.regs := rfl
@[simp] theorem State.modLink_mailboxes (s : State) (l : Nat) (f : Link → Link) : (s.modLink l f).mailboxes = s.mailboxes := rfl
@[simp] theorem State.modLink_selectors (s : State) (l : Nat) (f : Link → Link) : (s.modLink l f).selectors = s.selectors := rfl
@[simp] theorem State.modLink_staged (s : State) (l : Nat) (f : Link → Link) : (s.modLink l f).staged = s.staged := rfl
@[simp] theorem State.modLink_hostGrants (s : State) (l : Nat) (f : Link → Link) : (s.modLink l f).hostGrants = s.hostGrants := rfl
@[simp] theorem State.modLink_fabricGrants (s : State) (l : Nat) (f : Link → Link) : (s.modLink l f).fabricGrants = s.fabricGrants := rfl
@[simp] theorem State.modLink_mctpGrant (s : State) (l : Nat) (f : Link → Link) : (s.modLink l f).mctpGrant = s.mctpGrant := rfl
@[simp] theorem State.modLink_mctpLowered (s : State) (l : Nat) (f : Link → Link) : (s.modLink l f).mctpLowered = s.mctpLowered := rfl
@[simp] theorem State.modLink_lastDenied (s : State) (l : Nat) (f : Link → Link) : (s.modLink l f).lastDenied = s.lastDenied := rfl
@[simp] theorem State.modLink_apertures (s : State) (l : Nat) (f : Link → Link) : (s.modLink l f).apertures = s.apertures := rfl
@[simp] theorem State.modLink_haModules (s : State) (l : Nat) (f : Link → Link) : (s.modLink l f).haModules = s.haModules := rfl
@[simp] theorem State.modLink_stackCaps (s : State) (l : Nat) (f : Link → Link) : (s.modLink l f).stackCaps = s.stackCaps := rfl
@[simp] theorem State.modLink_linkGenMax (s : State) (l : Nat) (f : Link → Link) : (s.modLink l f).linkGenMax = s.linkGenMax := rfl
@[simp] theorem State.modLink_vcWeight (s : State) (l : Nat) (f : Link → Link) : (s.modLink l f).vcWeight = s.vcWeight := rfl
@[simp] theorem State.modLink_bypassed (s : State) (l : Nat) (f : Link → Link) : (s.modLink l f).bypassed = s.bypassed := rfl
@[simp] theorem State.modLink_spineDown (s : State) (l : Nat) (f : Link → Link) : (s.modLink l f).spineDown = s.spineDown := rfl
@[simp] theorem State.modLink_announced (s : State) (l : Nat) (f : Link → Link) : (s.modLink l f).announced = s.announced := rfl
@[simp] theorem State.modLink_serial (s : State) (l : Nat) (f : Link → Link) : (s.modLink l f).serial = s.serial := rfl
@[simp] theorem State.modLink_deadNodes (s : State) (l : Nat) (f : Link → Link) : (s.modLink l f).deadNodes = s.deadNodes := rfl
@[simp] theorem State.modLink_hotLines (s : State) (l : Nat) (f : Link → Link) : (s.modLink l f).hotLines = s.hotLines := rfl
@[simp] theorem State.modLink_queues (s : State) (l : Nat) (f : Link → Link) : (s.modLink l f).queues = s.queues := rfl
@[simp] theorem State.modLink_remotes (s : State) (l : Nat) (f : Link → Link) : (s.modLink l f).remotes = s.remotes := rfl
@[simp] theorem State.modLink_nextId (s : State) (l : Nat) (f : Link → Link) : (s.modLink l f).nextId = s.nextId := rfl
@[simp] theorem State.modLink_lapsed (s : State) (l : Nat) (f : Link → Link) : (s.modLink l f).lapsed = s.lapsed := rfl
@[simp] theorem State.modLink_holdVc4 (s : State) (l : Nat) (f : Link → Link) : (s.modLink l f).holdVc4 = s.holdVc4 := rfl
@[simp] theorem State.modLink_redirects (s : State) (l : Nat) (f : Link → Link) : (s.modLink l f).redirects = s.redirects := rfl
@[simp] theorem State.modLink_items (s : State) (l : Nat) (f : Link → Link) : (s.modLink l f).items = s.items := rfl
@[simp] theorem State.modLink_gradHeld (s : State) (l : Nat) (f : Link → Link) : (s.modLink l f).gradHeld = s.gradHeld := rfl
@[simp] theorem State.modLink_nextItem (s : State) (l : Nat) (f : Link → Link) : (s.modLink l f).nextItem = s.nextItem := rfl
@[simp] theorem State.modLink_wipingPages (s : State) (l : Nat) (f : Link → Link) : (s.modLink l f).wipingPages = s.wipingPages := rfl
@[simp] theorem State.modLink_wipingExtents (s : State) (l : Nat) (f : Link → Link) : (s.modLink l f).wipingExtents = s.wipingExtents := rfl
@[simp] theorem State.modLink_deadPages (s : State) (l : Nat) (f : Link → Link) : (s.modLink l f).deadPages = s.deadPages := rfl
@[simp] theorem State.modLink_deadExtents (s : State) (l : Nat) (f : Link → Link) : (s.modLink l f).deadExtents = s.deadExtents := rfl
@[simp] theorem State.modLink_partnerPages (s : State) (l : Nat) (f : Link → Link) : (s.modLink l f).partnerPages = s.partnerPages := rfl
@[simp] theorem State.modLink_partnerExtents (s : State) (l : Nat) (f : Link → Link) : (s.modLink l f).partnerExtents = s.partnerExtents := rfl
@[simp] theorem State.modLink_beatSeen (s : State) (l : Nat) (f : Link → Link) : (s.modLink l f).beatSeen = s.beatSeen := rfl
@[simp] theorem State.modLink_freqCorr (s : State) (l : Nat) (f : Link → Link) : (s.modLink l f).freqCorr = s.freqCorr := rfl
@[simp] theorem State.modLink_skewRun (s : State) (l : Nat) (f : Link → Link) : (s.modLink l f).skewRun = s.skewRun := rfl
@[simp] theorem State.modLink_holdTo (s : State) (l : Nat) (f : Link → Link) : (s.modLink l f).holdTo = s.holdTo := rfl
@[simp] theorem State.modLink_jumpBy (s : State) (l : Nat) (f : Link → Link) : (s.modLink l f).jumpBy = s.jumpBy := rfl
@[simp] theorem State.modLink_holdStart (s : State) (l : Nat) (f : Link → Link) : (s.modLink l f).holdStart = s.holdStart := rfl
@[simp] theorem State.modLink_lastExtern (s : State) (l : Nat) (f : Link → Link) : (s.modLink l f).lastExtern = s.lastExtern := rfl
@[simp] theorem State.modLink_log (s : State) (l : Nat) (f : Link → Link) : (s.modLink l f).log = s.log := rfl
@[simp] theorem State.modLink_coreStates (s : State) (l : Nat) (f : Link → Link) : (s.modLink l f).coreStates = s.coreStates := rfl
@[simp] theorem State.modLink_coreFaults (s : State) (l : Nat) (f : Link → Link) : (s.modLink l f).coreFaults = s.coreFaults := rfl
@[simp] theorem State.modLink_coreWords (s : State) (l : Nat) (f : Link → Link) : (s.modLink l f).coreWords = s.coreWords := rfl
@[simp] theorem State.modLink_exceeded (s : State) (l : Nat) (f : Link → Link) : (s.modLink l f).exceeded = s.exceeded := rfl
@[simp] theorem State.modLink_scrubLate (s : State) (l : Nat) (f : Link → Link) : (s.modLink l f).scrubLate = s.scrubLate := rfl
@[simp] theorem State.modLink_shadows (s : State) (l : Nat) (f : Link → Link) : (s.modLink l f).shadows = s.shadows := rfl
@[simp] theorem State.modLink_heldHalf (s : State) (l : Nat) (f : Link → Link) : (s.modLink l f).heldHalf = s.heldHalf := rfl
@[simp] theorem State.modLink_lastHeart (s : State) (l : Nat) (f : Link → Link) : (s.modLink l f).lastHeart = s.lastHeart := rfl
@[simp] theorem State.modLink_heartMissed (s : State) (l : Nat) (f : Link → Link) : (s.modLink l f).heartMissed = s.heartMissed := rfl
@[simp] theorem State.modLink_probing (s : State) (l : Nat) (f : Link → Link) : (s.modLink l f).probing = s.probing := rfl
@[simp] theorem State.modLink_taking (s : State) (l : Nat) (f : Link → Link) : (s.modLink l f).taking = s.taking := rfl
@[simp] theorem State.modLink_mirrorNext (s : State) (l : Nat) (f : Link → Link) : (s.modLink l f).mirrorNext = s.mirrorNext := rfl
@[simp] theorem State.modLink_unacked (s : State) (l : Nat) (f : Link → Link) : (s.modLink l f).unacked = s.unacked := rfl
@[simp] theorem State.modLink_handing (s : State) (l : Nat) (f : Link → Link) : (s.modLink l f).handing = s.handing := rfl
@[simp] theorem State.modLink_takeoverLast (s : State) (l : Nat) (f : Link → Link) : (s.modLink l f).takeoverLast = s.takeoverLast := rfl
@[simp] theorem State.modLink_partnerWords (s : State) (l : Nat) (f : Link → Link) : (s.modLink l f).partnerWords = s.partnerWords := rfl
@[simp] theorem State.modLink_startStep (s : State) (l : Nat) (f : Link → Link) : (s.modLink l f).startStep = s.startStep := rfl
@[simp] theorem State.modLink_attempts (s : State) (l : Nat) (f : Link → Link) : (s.modLink l f).attempts = s.attempts := rfl
@[simp] theorem State.modLink_partnerJournal (s : State) (l : Nat) (f : Link → Link) : (s.modLink l f).partnerJournal = s.partnerJournal := rfl
@[simp] theorem State.modLink_policy (s : State) (l : Nat) (f : Link → Link) : (s.modLink l f).policy = s.policy := rfl
@[simp] theorem State.modLink_ownerKey (s : State) (l : Nat) (f : Link → Link) : (s.modLink l f).ownerKey = s.ownerKey := rfl
@[simp] theorem State.modLink_challenges (s : State) (l : Nat) (f : Link → Link) : (s.modLink l f).challenges = s.challenges := rfl
@[simp] theorem State.modLink_sessions (s : State) (l : Nat) (f : Link → Link) : (s.modLink l f).sessions = s.sessions := rfl
@[simp] theorem State.modLink_debugLocked (s : State) (l : Nat) (f : Link → Link) : (s.modLink l f).debugLocked = s.debugLocked := rfl
@[simp] theorem State.modLink_debugImage (s : State) (l : Nat) (f : Link → Link) : (s.modLink l f).debugImage = s.debugImage := rfl
@[simp] theorem State.modLink_keepSteps (s : State) (l : Nat) (f : Link → Link) : (s.modLink l f).keepSteps = s.keepSteps := rfl
@[simp] theorem State.modLink_hbmStacks (s : State) (l : Nat) (f : Link → Link) : (s.modLink l f).hbmStacks = s.hbmStacks := rfl
@[simp] theorem State.modLink_measured (s : State) (l : Nat) (f : Link → Link) : (s.modLink l f).measured = s.measured := rfl
@[simp] theorem State.modLink_spdmState (s : State) (l : Nat) (f : Link → Link) : (s.modLink l f).spdmState = s.spdmState := rfl
@[simp] theorem State.modLink_ownerRetired (s : State) (l : Nat) (f : Link → Link) : (s.modLink l f).ownerRetired = s.ownerRetired := rfl
@[simp] theorem State.modLink_ckptStates (s : State) (l : Nat) (f : Link → Link) : (s.modLink l f).ckptStates = s.ckptStates := rfl
@[simp] theorem State.modLink_ckptInfo (s : State) (l : Nat) (f : Link → Link) : (s.modLink l f).ckptInfo = s.ckptInfo := rfl
@[simp] theorem State.modLink_ckpt (s : State) (l : Nat) (f : Link → Link) : (s.modLink l f).ckpt = s.ckpt := rfl
@[simp] theorem State.modLink_restoring (s : State) (l : Nat) (f : Link → Link) : (s.modLink l f).restoring = s.restoring := rfl
@[simp] theorem State.modLink_latchDue (s : State) (l : Nat) (f : Link → Link) : (s.modLink l f).latchDue = s.latchDue := rfl
@[simp] theorem State.modLink_latched (s : State) (l : Nat) (f : Link → Link) : (s.modLink l f).latched = s.latched := rfl
@[simp] theorem State.modLink_tempRegion (s : State) (l : Nat) (f : Link → Link) : (s.modLink l f).tempRegion = s.tempRegion := rfl
@[simp] theorem State.modLink_resetN (s : State) (l : Nat) (f : Link → Link) : (s.modLink l f).resetN = s.resetN := rfl
@[simp] theorem State.modLink_corePg (s : State) (l : Nat) (f : Link → Link) : (s.modLink l f).corePg = s.corePg := rfl
@[simp] theorem State.modLink_pwrAlert (s : State) (l : Nat) (f : Link → Link) : (s.modLink l f).pwrAlert = s.pwrAlert := rfl
@[simp] theorem State.modLink_thermTrip (s : State) (l : Nat) (f : Link → Link) : (s.modLink l f).thermTrip = s.thermTrip := rfl
@[simp] theorem State.modLink_powerSteps (s : State) (l : Nat) (f : Link → Link) : (s.modLink l f).powerSteps = s.powerSteps := rfl
@[simp] theorem State.modLink_powerQuiet (s : State) (l : Nat) (f : Link → Link) : (s.modLink l f).powerQuiet = s.powerQuiet := rfl
@[simp] theorem State.modLink_thermSteps (s : State) (l : Nat) (f : Link → Link) : (s.modLink l f).thermSteps = s.thermSteps := rfl
@[simp] theorem State.modLink_thermBeats (s : State) (l : Nat) (f : Link → Link) : (s.modLink l f).thermBeats = s.thermBeats := rfl
@[simp] theorem State.modLink_thermCool (s : State) (l : Nat) (f : Link → Link) : (s.modLink l f).thermCool = s.thermCool := rfl
@[simp] theorem State.modLink_noticeAt (s : State) (l : Nat) (f : Link → Link) : (s.modLink l f).noticeAt = s.noticeAt := rfl
@[simp] theorem State.modLink_noticeDue (s : State) (l : Nat) (f : Link → Link) : (s.modLink l f).noticeDue = s.noticeDue := rfl
@[simp] theorem State.modLink_deadSent (s : State) (l : Nat) (f : Link → Link) : (s.modLink l f).deadSent = s.deadSent := rfl
@[simp] theorem State.modLink_i3cAddr (s : State) (l : Nat) (f : Link → Link) : (s.modLink l f).i3cAddr = s.i3cAddr := rfl
@[simp] theorem State.modLink_out (s : State) (l : Nat) (f : Link → Link) : (s.modLink l f).out = s.out := rfl
@[simp] theorem State.modLink_freeCtr (s : State) (l : Nat) (f : Link → Link) : (s.modLink l f).freeCtr = s.freeCtr := rfl

/-! ### State.modMailbox -/

@[simp] theorem State.modMailbox_pending (s : State) (m : Nat) (f : Mailbox → Mailbox) : (s.modMailbox m f).pending = s.pending := rfl
@[simp] theorem State.modMailbox_objs (s : State) (m : Nat) (f : Mailbox → Mailbox) : (s.modMailbox m f).objs = s.objs := rfl
@[simp] theorem State.modMailbox_raises (s : State) (m : Nat) (f : Mailbox → Mailbox) : (s.modMailbox m f).raises = s.raises := rfl
@[simp] theorem State.modMailbox_gens (s : State) (m : Nat) (f : Mailbox → Mailbox) : (s.modMailbox m f).gens = s.gens := rfl
@[simp] theorem State.modMailbox_mem (s : State) (m : Nat) (f : Mailbox → Mailbox) : (s.modMailbox m f).mem = s.mem := rfl
@[simp] theorem State.modMailbox_poisoned (s : State) (m : Nat) (f : Mailbox → Mailbox) : (s.modMailbox m f).poisoned = s.poisoned := rfl
@[simp] theorem State.modMailbox_ctxs (s : State) (m : Nat) (f : Mailbox → Mailbox) : (s.modMailbox m f).ctxs = s.ctxs := rfl
@[simp] theorem State.modMailbox_pools (s : State) (m : Nat) (f : Mailbox → Mailbox) : (s.modMailbox m f).pools = s.pools := rfl
@[simp] theorem State.modMailbox_groups (s : State) (m : Nat) (f : Mailbox → Mailbox) : (s.modMailbox m f).groups = s.groups := rfl
@[simp] theorem State.modMailbox_tiles (s : State) (m : Nat) (f : Mailbox → Mailbox) : (s.modMailbox m f).tiles = s.tiles := rfl
@[simp] theorem State.modMailbox_regs (s : State) (m : Nat) (f : Mailbox → Mailbox) : (s.modMailbox m f).regs = s.regs := rfl
@[simp] theorem State.modMailbox_links (s : State) (m : Nat) (f : Mailbox → Mailbox) : (s.modMailbox m f).links = s.links := rfl
@[simp] theorem State.modMailbox_selectors (s : State) (m : Nat) (f : Mailbox → Mailbox) : (s.modMailbox m f).selectors = s.selectors := rfl
@[simp] theorem State.modMailbox_staged (s : State) (m : Nat) (f : Mailbox → Mailbox) : (s.modMailbox m f).staged = s.staged := rfl
@[simp] theorem State.modMailbox_hostGrants (s : State) (m : Nat) (f : Mailbox → Mailbox) : (s.modMailbox m f).hostGrants = s.hostGrants := rfl
@[simp] theorem State.modMailbox_fabricGrants (s : State) (m : Nat) (f : Mailbox → Mailbox) : (s.modMailbox m f).fabricGrants = s.fabricGrants := rfl
@[simp] theorem State.modMailbox_mctpGrant (s : State) (m : Nat) (f : Mailbox → Mailbox) : (s.modMailbox m f).mctpGrant = s.mctpGrant := rfl
@[simp] theorem State.modMailbox_mctpLowered (s : State) (m : Nat) (f : Mailbox → Mailbox) : (s.modMailbox m f).mctpLowered = s.mctpLowered := rfl
@[simp] theorem State.modMailbox_lastDenied (s : State) (m : Nat) (f : Mailbox → Mailbox) : (s.modMailbox m f).lastDenied = s.lastDenied := rfl
@[simp] theorem State.modMailbox_apertures (s : State) (m : Nat) (f : Mailbox → Mailbox) : (s.modMailbox m f).apertures = s.apertures := rfl
@[simp] theorem State.modMailbox_haModules (s : State) (m : Nat) (f : Mailbox → Mailbox) : (s.modMailbox m f).haModules = s.haModules := rfl
@[simp] theorem State.modMailbox_stackCaps (s : State) (m : Nat) (f : Mailbox → Mailbox) : (s.modMailbox m f).stackCaps = s.stackCaps := rfl
@[simp] theorem State.modMailbox_linkGenMax (s : State) (m : Nat) (f : Mailbox → Mailbox) : (s.modMailbox m f).linkGenMax = s.linkGenMax := rfl
@[simp] theorem State.modMailbox_vcWeight (s : State) (m : Nat) (f : Mailbox → Mailbox) : (s.modMailbox m f).vcWeight = s.vcWeight := rfl
@[simp] theorem State.modMailbox_bypassed (s : State) (m : Nat) (f : Mailbox → Mailbox) : (s.modMailbox m f).bypassed = s.bypassed := rfl
@[simp] theorem State.modMailbox_spineDown (s : State) (m : Nat) (f : Mailbox → Mailbox) : (s.modMailbox m f).spineDown = s.spineDown := rfl
@[simp] theorem State.modMailbox_announced (s : State) (m : Nat) (f : Mailbox → Mailbox) : (s.modMailbox m f).announced = s.announced := rfl
@[simp] theorem State.modMailbox_serial (s : State) (m : Nat) (f : Mailbox → Mailbox) : (s.modMailbox m f).serial = s.serial := rfl
@[simp] theorem State.modMailbox_deadNodes (s : State) (m : Nat) (f : Mailbox → Mailbox) : (s.modMailbox m f).deadNodes = s.deadNodes := rfl
@[simp] theorem State.modMailbox_hotLines (s : State) (m : Nat) (f : Mailbox → Mailbox) : (s.modMailbox m f).hotLines = s.hotLines := rfl
@[simp] theorem State.modMailbox_queues (s : State) (m : Nat) (f : Mailbox → Mailbox) : (s.modMailbox m f).queues = s.queues := rfl
@[simp] theorem State.modMailbox_remotes (s : State) (m : Nat) (f : Mailbox → Mailbox) : (s.modMailbox m f).remotes = s.remotes := rfl
@[simp] theorem State.modMailbox_nextId (s : State) (m : Nat) (f : Mailbox → Mailbox) : (s.modMailbox m f).nextId = s.nextId := rfl
@[simp] theorem State.modMailbox_lapsed (s : State) (m : Nat) (f : Mailbox → Mailbox) : (s.modMailbox m f).lapsed = s.lapsed := rfl
@[simp] theorem State.modMailbox_holdVc4 (s : State) (m : Nat) (f : Mailbox → Mailbox) : (s.modMailbox m f).holdVc4 = s.holdVc4 := rfl
@[simp] theorem State.modMailbox_redirects (s : State) (m : Nat) (f : Mailbox → Mailbox) : (s.modMailbox m f).redirects = s.redirects := rfl
@[simp] theorem State.modMailbox_items (s : State) (m : Nat) (f : Mailbox → Mailbox) : (s.modMailbox m f).items = s.items := rfl
@[simp] theorem State.modMailbox_gradHeld (s : State) (m : Nat) (f : Mailbox → Mailbox) : (s.modMailbox m f).gradHeld = s.gradHeld := rfl
@[simp] theorem State.modMailbox_nextItem (s : State) (m : Nat) (f : Mailbox → Mailbox) : (s.modMailbox m f).nextItem = s.nextItem := rfl
@[simp] theorem State.modMailbox_wipingPages (s : State) (m : Nat) (f : Mailbox → Mailbox) : (s.modMailbox m f).wipingPages = s.wipingPages := rfl
@[simp] theorem State.modMailbox_wipingExtents (s : State) (m : Nat) (f : Mailbox → Mailbox) : (s.modMailbox m f).wipingExtents = s.wipingExtents := rfl
@[simp] theorem State.modMailbox_deadPages (s : State) (m : Nat) (f : Mailbox → Mailbox) : (s.modMailbox m f).deadPages = s.deadPages := rfl
@[simp] theorem State.modMailbox_deadExtents (s : State) (m : Nat) (f : Mailbox → Mailbox) : (s.modMailbox m f).deadExtents = s.deadExtents := rfl
@[simp] theorem State.modMailbox_partnerPages (s : State) (m : Nat) (f : Mailbox → Mailbox) : (s.modMailbox m f).partnerPages = s.partnerPages := rfl
@[simp] theorem State.modMailbox_partnerExtents (s : State) (m : Nat) (f : Mailbox → Mailbox) : (s.modMailbox m f).partnerExtents = s.partnerExtents := rfl
@[simp] theorem State.modMailbox_beatSeen (s : State) (m : Nat) (f : Mailbox → Mailbox) : (s.modMailbox m f).beatSeen = s.beatSeen := rfl
@[simp] theorem State.modMailbox_freqCorr (s : State) (m : Nat) (f : Mailbox → Mailbox) : (s.modMailbox m f).freqCorr = s.freqCorr := rfl
@[simp] theorem State.modMailbox_skewRun (s : State) (m : Nat) (f : Mailbox → Mailbox) : (s.modMailbox m f).skewRun = s.skewRun := rfl
@[simp] theorem State.modMailbox_holdTo (s : State) (m : Nat) (f : Mailbox → Mailbox) : (s.modMailbox m f).holdTo = s.holdTo := rfl
@[simp] theorem State.modMailbox_jumpBy (s : State) (m : Nat) (f : Mailbox → Mailbox) : (s.modMailbox m f).jumpBy = s.jumpBy := rfl
@[simp] theorem State.modMailbox_holdStart (s : State) (m : Nat) (f : Mailbox → Mailbox) : (s.modMailbox m f).holdStart = s.holdStart := rfl
@[simp] theorem State.modMailbox_lastExtern (s : State) (m : Nat) (f : Mailbox → Mailbox) : (s.modMailbox m f).lastExtern = s.lastExtern := rfl
@[simp] theorem State.modMailbox_log (s : State) (m : Nat) (f : Mailbox → Mailbox) : (s.modMailbox m f).log = s.log := rfl
@[simp] theorem State.modMailbox_coreStates (s : State) (m : Nat) (f : Mailbox → Mailbox) : (s.modMailbox m f).coreStates = s.coreStates := rfl
@[simp] theorem State.modMailbox_coreFaults (s : State) (m : Nat) (f : Mailbox → Mailbox) : (s.modMailbox m f).coreFaults = s.coreFaults := rfl
@[simp] theorem State.modMailbox_coreWords (s : State) (m : Nat) (f : Mailbox → Mailbox) : (s.modMailbox m f).coreWords = s.coreWords := rfl
@[simp] theorem State.modMailbox_exceeded (s : State) (m : Nat) (f : Mailbox → Mailbox) : (s.modMailbox m f).exceeded = s.exceeded := rfl
@[simp] theorem State.modMailbox_scrubLate (s : State) (m : Nat) (f : Mailbox → Mailbox) : (s.modMailbox m f).scrubLate = s.scrubLate := rfl
@[simp] theorem State.modMailbox_shadows (s : State) (m : Nat) (f : Mailbox → Mailbox) : (s.modMailbox m f).shadows = s.shadows := rfl
@[simp] theorem State.modMailbox_heldHalf (s : State) (m : Nat) (f : Mailbox → Mailbox) : (s.modMailbox m f).heldHalf = s.heldHalf := rfl
@[simp] theorem State.modMailbox_lastHeart (s : State) (m : Nat) (f : Mailbox → Mailbox) : (s.modMailbox m f).lastHeart = s.lastHeart := rfl
@[simp] theorem State.modMailbox_heartMissed (s : State) (m : Nat) (f : Mailbox → Mailbox) : (s.modMailbox m f).heartMissed = s.heartMissed := rfl
@[simp] theorem State.modMailbox_probing (s : State) (m : Nat) (f : Mailbox → Mailbox) : (s.modMailbox m f).probing = s.probing := rfl
@[simp] theorem State.modMailbox_taking (s : State) (m : Nat) (f : Mailbox → Mailbox) : (s.modMailbox m f).taking = s.taking := rfl
@[simp] theorem State.modMailbox_mirrorNext (s : State) (m : Nat) (f : Mailbox → Mailbox) : (s.modMailbox m f).mirrorNext = s.mirrorNext := rfl
@[simp] theorem State.modMailbox_unacked (s : State) (m : Nat) (f : Mailbox → Mailbox) : (s.modMailbox m f).unacked = s.unacked := rfl
@[simp] theorem State.modMailbox_handing (s : State) (m : Nat) (f : Mailbox → Mailbox) : (s.modMailbox m f).handing = s.handing := rfl
@[simp] theorem State.modMailbox_takeoverLast (s : State) (m : Nat) (f : Mailbox → Mailbox) : (s.modMailbox m f).takeoverLast = s.takeoverLast := rfl
@[simp] theorem State.modMailbox_partnerWords (s : State) (m : Nat) (f : Mailbox → Mailbox) : (s.modMailbox m f).partnerWords = s.partnerWords := rfl
@[simp] theorem State.modMailbox_startStep (s : State) (m : Nat) (f : Mailbox → Mailbox) : (s.modMailbox m f).startStep = s.startStep := rfl
@[simp] theorem State.modMailbox_attempts (s : State) (m : Nat) (f : Mailbox → Mailbox) : (s.modMailbox m f).attempts = s.attempts := rfl
@[simp] theorem State.modMailbox_partnerJournal (s : State) (m : Nat) (f : Mailbox → Mailbox) : (s.modMailbox m f).partnerJournal = s.partnerJournal := rfl
@[simp] theorem State.modMailbox_policy (s : State) (m : Nat) (f : Mailbox → Mailbox) : (s.modMailbox m f).policy = s.policy := rfl
@[simp] theorem State.modMailbox_ownerKey (s : State) (m : Nat) (f : Mailbox → Mailbox) : (s.modMailbox m f).ownerKey = s.ownerKey := rfl
@[simp] theorem State.modMailbox_challenges (s : State) (m : Nat) (f : Mailbox → Mailbox) : (s.modMailbox m f).challenges = s.challenges := rfl
@[simp] theorem State.modMailbox_sessions (s : State) (m : Nat) (f : Mailbox → Mailbox) : (s.modMailbox m f).sessions = s.sessions := rfl
@[simp] theorem State.modMailbox_debugLocked (s : State) (m : Nat) (f : Mailbox → Mailbox) : (s.modMailbox m f).debugLocked = s.debugLocked := rfl
@[simp] theorem State.modMailbox_debugImage (s : State) (m : Nat) (f : Mailbox → Mailbox) : (s.modMailbox m f).debugImage = s.debugImage := rfl
@[simp] theorem State.modMailbox_keepSteps (s : State) (m : Nat) (f : Mailbox → Mailbox) : (s.modMailbox m f).keepSteps = s.keepSteps := rfl
@[simp] theorem State.modMailbox_hbmStacks (s : State) (m : Nat) (f : Mailbox → Mailbox) : (s.modMailbox m f).hbmStacks = s.hbmStacks := rfl
@[simp] theorem State.modMailbox_measured (s : State) (m : Nat) (f : Mailbox → Mailbox) : (s.modMailbox m f).measured = s.measured := rfl
@[simp] theorem State.modMailbox_spdmState (s : State) (m : Nat) (f : Mailbox → Mailbox) : (s.modMailbox m f).spdmState = s.spdmState := rfl
@[simp] theorem State.modMailbox_ownerRetired (s : State) (m : Nat) (f : Mailbox → Mailbox) : (s.modMailbox m f).ownerRetired = s.ownerRetired := rfl
@[simp] theorem State.modMailbox_ckptStates (s : State) (m : Nat) (f : Mailbox → Mailbox) : (s.modMailbox m f).ckptStates = s.ckptStates := rfl
@[simp] theorem State.modMailbox_ckptInfo (s : State) (m : Nat) (f : Mailbox → Mailbox) : (s.modMailbox m f).ckptInfo = s.ckptInfo := rfl
@[simp] theorem State.modMailbox_ckpt (s : State) (m : Nat) (f : Mailbox → Mailbox) : (s.modMailbox m f).ckpt = s.ckpt := rfl
@[simp] theorem State.modMailbox_restoring (s : State) (m : Nat) (f : Mailbox → Mailbox) : (s.modMailbox m f).restoring = s.restoring := rfl
@[simp] theorem State.modMailbox_latchDue (s : State) (m : Nat) (f : Mailbox → Mailbox) : (s.modMailbox m f).latchDue = s.latchDue := rfl
@[simp] theorem State.modMailbox_latched (s : State) (m : Nat) (f : Mailbox → Mailbox) : (s.modMailbox m f).latched = s.latched := rfl
@[simp] theorem State.modMailbox_tempRegion (s : State) (m : Nat) (f : Mailbox → Mailbox) : (s.modMailbox m f).tempRegion = s.tempRegion := rfl
@[simp] theorem State.modMailbox_resetN (s : State) (m : Nat) (f : Mailbox → Mailbox) : (s.modMailbox m f).resetN = s.resetN := rfl
@[simp] theorem State.modMailbox_corePg (s : State) (m : Nat) (f : Mailbox → Mailbox) : (s.modMailbox m f).corePg = s.corePg := rfl
@[simp] theorem State.modMailbox_pwrAlert (s : State) (m : Nat) (f : Mailbox → Mailbox) : (s.modMailbox m f).pwrAlert = s.pwrAlert := rfl
@[simp] theorem State.modMailbox_thermTrip (s : State) (m : Nat) (f : Mailbox → Mailbox) : (s.modMailbox m f).thermTrip = s.thermTrip := rfl
@[simp] theorem State.modMailbox_powerSteps (s : State) (m : Nat) (f : Mailbox → Mailbox) : (s.modMailbox m f).powerSteps = s.powerSteps := rfl
@[simp] theorem State.modMailbox_powerQuiet (s : State) (m : Nat) (f : Mailbox → Mailbox) : (s.modMailbox m f).powerQuiet = s.powerQuiet := rfl
@[simp] theorem State.modMailbox_thermSteps (s : State) (m : Nat) (f : Mailbox → Mailbox) : (s.modMailbox m f).thermSteps = s.thermSteps := rfl
@[simp] theorem State.modMailbox_thermBeats (s : State) (m : Nat) (f : Mailbox → Mailbox) : (s.modMailbox m f).thermBeats = s.thermBeats := rfl
@[simp] theorem State.modMailbox_thermCool (s : State) (m : Nat) (f : Mailbox → Mailbox) : (s.modMailbox m f).thermCool = s.thermCool := rfl
@[simp] theorem State.modMailbox_noticeAt (s : State) (m : Nat) (f : Mailbox → Mailbox) : (s.modMailbox m f).noticeAt = s.noticeAt := rfl
@[simp] theorem State.modMailbox_noticeDue (s : State) (m : Nat) (f : Mailbox → Mailbox) : (s.modMailbox m f).noticeDue = s.noticeDue := rfl
@[simp] theorem State.modMailbox_deadSent (s : State) (m : Nat) (f : Mailbox → Mailbox) : (s.modMailbox m f).deadSent = s.deadSent := rfl
@[simp] theorem State.modMailbox_i3cAddr (s : State) (m : Nat) (f : Mailbox → Mailbox) : (s.modMailbox m f).i3cAddr = s.i3cAddr := rfl
@[simp] theorem State.modMailbox_out (s : State) (m : Nat) (f : Mailbox → Mailbox) : (s.modMailbox m f).out = s.out := rfl
@[simp] theorem State.modMailbox_freeCtr (s : State) (m : Nat) (f : Mailbox → Mailbox) : (s.modMailbox m f).freeCtr = s.freeCtr := rfl

/-! ### State.modShadow -/

@[simp] theorem State.modShadow_pending (s : State) (c : Nat) (f : Shadow → Shadow) : (s.modShadow c f).pending = s.pending := rfl
@[simp] theorem State.modShadow_objs (s : State) (c : Nat) (f : Shadow → Shadow) : (s.modShadow c f).objs = s.objs := rfl
@[simp] theorem State.modShadow_raises (s : State) (c : Nat) (f : Shadow → Shadow) : (s.modShadow c f).raises = s.raises := rfl
@[simp] theorem State.modShadow_gens (s : State) (c : Nat) (f : Shadow → Shadow) : (s.modShadow c f).gens = s.gens := rfl
@[simp] theorem State.modShadow_mem (s : State) (c : Nat) (f : Shadow → Shadow) : (s.modShadow c f).mem = s.mem := rfl
@[simp] theorem State.modShadow_poisoned (s : State) (c : Nat) (f : Shadow → Shadow) : (s.modShadow c f).poisoned = s.poisoned := rfl
@[simp] theorem State.modShadow_ctxs (s : State) (c : Nat) (f : Shadow → Shadow) : (s.modShadow c f).ctxs = s.ctxs := rfl
@[simp] theorem State.modShadow_pools (s : State) (c : Nat) (f : Shadow → Shadow) : (s.modShadow c f).pools = s.pools := rfl
@[simp] theorem State.modShadow_groups (s : State) (c : Nat) (f : Shadow → Shadow) : (s.modShadow c f).groups = s.groups := rfl
@[simp] theorem State.modShadow_tiles (s : State) (c : Nat) (f : Shadow → Shadow) : (s.modShadow c f).tiles = s.tiles := rfl
@[simp] theorem State.modShadow_regs (s : State) (c : Nat) (f : Shadow → Shadow) : (s.modShadow c f).regs = s.regs := rfl
@[simp] theorem State.modShadow_links (s : State) (c : Nat) (f : Shadow → Shadow) : (s.modShadow c f).links = s.links := rfl
@[simp] theorem State.modShadow_mailboxes (s : State) (c : Nat) (f : Shadow → Shadow) : (s.modShadow c f).mailboxes = s.mailboxes := rfl
@[simp] theorem State.modShadow_selectors (s : State) (c : Nat) (f : Shadow → Shadow) : (s.modShadow c f).selectors = s.selectors := rfl
@[simp] theorem State.modShadow_staged (s : State) (c : Nat) (f : Shadow → Shadow) : (s.modShadow c f).staged = s.staged := rfl
@[simp] theorem State.modShadow_hostGrants (s : State) (c : Nat) (f : Shadow → Shadow) : (s.modShadow c f).hostGrants = s.hostGrants := rfl
@[simp] theorem State.modShadow_fabricGrants (s : State) (c : Nat) (f : Shadow → Shadow) : (s.modShadow c f).fabricGrants = s.fabricGrants := rfl
@[simp] theorem State.modShadow_mctpGrant (s : State) (c : Nat) (f : Shadow → Shadow) : (s.modShadow c f).mctpGrant = s.mctpGrant := rfl
@[simp] theorem State.modShadow_mctpLowered (s : State) (c : Nat) (f : Shadow → Shadow) : (s.modShadow c f).mctpLowered = s.mctpLowered := rfl
@[simp] theorem State.modShadow_lastDenied (s : State) (c : Nat) (f : Shadow → Shadow) : (s.modShadow c f).lastDenied = s.lastDenied := rfl
@[simp] theorem State.modShadow_apertures (s : State) (c : Nat) (f : Shadow → Shadow) : (s.modShadow c f).apertures = s.apertures := rfl
@[simp] theorem State.modShadow_haModules (s : State) (c : Nat) (f : Shadow → Shadow) : (s.modShadow c f).haModules = s.haModules := rfl
@[simp] theorem State.modShadow_stackCaps (s : State) (c : Nat) (f : Shadow → Shadow) : (s.modShadow c f).stackCaps = s.stackCaps := rfl
@[simp] theorem State.modShadow_linkGenMax (s : State) (c : Nat) (f : Shadow → Shadow) : (s.modShadow c f).linkGenMax = s.linkGenMax := rfl
@[simp] theorem State.modShadow_vcWeight (s : State) (c : Nat) (f : Shadow → Shadow) : (s.modShadow c f).vcWeight = s.vcWeight := rfl
@[simp] theorem State.modShadow_bypassed (s : State) (c : Nat) (f : Shadow → Shadow) : (s.modShadow c f).bypassed = s.bypassed := rfl
@[simp] theorem State.modShadow_spineDown (s : State) (c : Nat) (f : Shadow → Shadow) : (s.modShadow c f).spineDown = s.spineDown := rfl
@[simp] theorem State.modShadow_announced (s : State) (c : Nat) (f : Shadow → Shadow) : (s.modShadow c f).announced = s.announced := rfl
@[simp] theorem State.modShadow_serial (s : State) (c : Nat) (f : Shadow → Shadow) : (s.modShadow c f).serial = s.serial := rfl
@[simp] theorem State.modShadow_deadNodes (s : State) (c : Nat) (f : Shadow → Shadow) : (s.modShadow c f).deadNodes = s.deadNodes := rfl
@[simp] theorem State.modShadow_hotLines (s : State) (c : Nat) (f : Shadow → Shadow) : (s.modShadow c f).hotLines = s.hotLines := rfl
@[simp] theorem State.modShadow_queues (s : State) (c : Nat) (f : Shadow → Shadow) : (s.modShadow c f).queues = s.queues := rfl
@[simp] theorem State.modShadow_remotes (s : State) (c : Nat) (f : Shadow → Shadow) : (s.modShadow c f).remotes = s.remotes := rfl
@[simp] theorem State.modShadow_nextId (s : State) (c : Nat) (f : Shadow → Shadow) : (s.modShadow c f).nextId = s.nextId := rfl
@[simp] theorem State.modShadow_lapsed (s : State) (c : Nat) (f : Shadow → Shadow) : (s.modShadow c f).lapsed = s.lapsed := rfl
@[simp] theorem State.modShadow_holdVc4 (s : State) (c : Nat) (f : Shadow → Shadow) : (s.modShadow c f).holdVc4 = s.holdVc4 := rfl
@[simp] theorem State.modShadow_redirects (s : State) (c : Nat) (f : Shadow → Shadow) : (s.modShadow c f).redirects = s.redirects := rfl
@[simp] theorem State.modShadow_items (s : State) (c : Nat) (f : Shadow → Shadow) : (s.modShadow c f).items = s.items := rfl
@[simp] theorem State.modShadow_gradHeld (s : State) (c : Nat) (f : Shadow → Shadow) : (s.modShadow c f).gradHeld = s.gradHeld := rfl
@[simp] theorem State.modShadow_nextItem (s : State) (c : Nat) (f : Shadow → Shadow) : (s.modShadow c f).nextItem = s.nextItem := rfl
@[simp] theorem State.modShadow_wipingPages (s : State) (c : Nat) (f : Shadow → Shadow) : (s.modShadow c f).wipingPages = s.wipingPages := rfl
@[simp] theorem State.modShadow_wipingExtents (s : State) (c : Nat) (f : Shadow → Shadow) : (s.modShadow c f).wipingExtents = s.wipingExtents := rfl
@[simp] theorem State.modShadow_deadPages (s : State) (c : Nat) (f : Shadow → Shadow) : (s.modShadow c f).deadPages = s.deadPages := rfl
@[simp] theorem State.modShadow_deadExtents (s : State) (c : Nat) (f : Shadow → Shadow) : (s.modShadow c f).deadExtents = s.deadExtents := rfl
@[simp] theorem State.modShadow_partnerPages (s : State) (c : Nat) (f : Shadow → Shadow) : (s.modShadow c f).partnerPages = s.partnerPages := rfl
@[simp] theorem State.modShadow_partnerExtents (s : State) (c : Nat) (f : Shadow → Shadow) : (s.modShadow c f).partnerExtents = s.partnerExtents := rfl
@[simp] theorem State.modShadow_beatSeen (s : State) (c : Nat) (f : Shadow → Shadow) : (s.modShadow c f).beatSeen = s.beatSeen := rfl
@[simp] theorem State.modShadow_freqCorr (s : State) (c : Nat) (f : Shadow → Shadow) : (s.modShadow c f).freqCorr = s.freqCorr := rfl
@[simp] theorem State.modShadow_skewRun (s : State) (c : Nat) (f : Shadow → Shadow) : (s.modShadow c f).skewRun = s.skewRun := rfl
@[simp] theorem State.modShadow_holdTo (s : State) (c : Nat) (f : Shadow → Shadow) : (s.modShadow c f).holdTo = s.holdTo := rfl
@[simp] theorem State.modShadow_jumpBy (s : State) (c : Nat) (f : Shadow → Shadow) : (s.modShadow c f).jumpBy = s.jumpBy := rfl
@[simp] theorem State.modShadow_holdStart (s : State) (c : Nat) (f : Shadow → Shadow) : (s.modShadow c f).holdStart = s.holdStart := rfl
@[simp] theorem State.modShadow_lastExtern (s : State) (c : Nat) (f : Shadow → Shadow) : (s.modShadow c f).lastExtern = s.lastExtern := rfl
@[simp] theorem State.modShadow_log (s : State) (c : Nat) (f : Shadow → Shadow) : (s.modShadow c f).log = s.log := rfl
@[simp] theorem State.modShadow_coreStates (s : State) (c : Nat) (f : Shadow → Shadow) : (s.modShadow c f).coreStates = s.coreStates := rfl
@[simp] theorem State.modShadow_coreFaults (s : State) (c : Nat) (f : Shadow → Shadow) : (s.modShadow c f).coreFaults = s.coreFaults := rfl
@[simp] theorem State.modShadow_coreWords (s : State) (c : Nat) (f : Shadow → Shadow) : (s.modShadow c f).coreWords = s.coreWords := rfl
@[simp] theorem State.modShadow_exceeded (s : State) (c : Nat) (f : Shadow → Shadow) : (s.modShadow c f).exceeded = s.exceeded := rfl
@[simp] theorem State.modShadow_scrubLate (s : State) (c : Nat) (f : Shadow → Shadow) : (s.modShadow c f).scrubLate = s.scrubLate := rfl
@[simp] theorem State.modShadow_heldHalf (s : State) (c : Nat) (f : Shadow → Shadow) : (s.modShadow c f).heldHalf = s.heldHalf := rfl
@[simp] theorem State.modShadow_lastHeart (s : State) (c : Nat) (f : Shadow → Shadow) : (s.modShadow c f).lastHeart = s.lastHeart := rfl
@[simp] theorem State.modShadow_heartMissed (s : State) (c : Nat) (f : Shadow → Shadow) : (s.modShadow c f).heartMissed = s.heartMissed := rfl
@[simp] theorem State.modShadow_probing (s : State) (c : Nat) (f : Shadow → Shadow) : (s.modShadow c f).probing = s.probing := rfl
@[simp] theorem State.modShadow_taking (s : State) (c : Nat) (f : Shadow → Shadow) : (s.modShadow c f).taking = s.taking := rfl
@[simp] theorem State.modShadow_mirrorNext (s : State) (c : Nat) (f : Shadow → Shadow) : (s.modShadow c f).mirrorNext = s.mirrorNext := rfl
@[simp] theorem State.modShadow_unacked (s : State) (c : Nat) (f : Shadow → Shadow) : (s.modShadow c f).unacked = s.unacked := rfl
@[simp] theorem State.modShadow_handing (s : State) (c : Nat) (f : Shadow → Shadow) : (s.modShadow c f).handing = s.handing := rfl
@[simp] theorem State.modShadow_takeoverLast (s : State) (c : Nat) (f : Shadow → Shadow) : (s.modShadow c f).takeoverLast = s.takeoverLast := rfl
@[simp] theorem State.modShadow_partnerWords (s : State) (c : Nat) (f : Shadow → Shadow) : (s.modShadow c f).partnerWords = s.partnerWords := rfl
@[simp] theorem State.modShadow_startStep (s : State) (c : Nat) (f : Shadow → Shadow) : (s.modShadow c f).startStep = s.startStep := rfl
@[simp] theorem State.modShadow_attempts (s : State) (c : Nat) (f : Shadow → Shadow) : (s.modShadow c f).attempts = s.attempts := rfl
@[simp] theorem State.modShadow_partnerJournal (s : State) (c : Nat) (f : Shadow → Shadow) : (s.modShadow c f).partnerJournal = s.partnerJournal := rfl
@[simp] theorem State.modShadow_policy (s : State) (c : Nat) (f : Shadow → Shadow) : (s.modShadow c f).policy = s.policy := rfl
@[simp] theorem State.modShadow_ownerKey (s : State) (c : Nat) (f : Shadow → Shadow) : (s.modShadow c f).ownerKey = s.ownerKey := rfl
@[simp] theorem State.modShadow_challenges (s : State) (c : Nat) (f : Shadow → Shadow) : (s.modShadow c f).challenges = s.challenges := rfl
@[simp] theorem State.modShadow_sessions (s : State) (c : Nat) (f : Shadow → Shadow) : (s.modShadow c f).sessions = s.sessions := rfl
@[simp] theorem State.modShadow_debugLocked (s : State) (c : Nat) (f : Shadow → Shadow) : (s.modShadow c f).debugLocked = s.debugLocked := rfl
@[simp] theorem State.modShadow_debugImage (s : State) (c : Nat) (f : Shadow → Shadow) : (s.modShadow c f).debugImage = s.debugImage := rfl
@[simp] theorem State.modShadow_keepSteps (s : State) (c : Nat) (f : Shadow → Shadow) : (s.modShadow c f).keepSteps = s.keepSteps := rfl
@[simp] theorem State.modShadow_hbmStacks (s : State) (c : Nat) (f : Shadow → Shadow) : (s.modShadow c f).hbmStacks = s.hbmStacks := rfl
@[simp] theorem State.modShadow_measured (s : State) (c : Nat) (f : Shadow → Shadow) : (s.modShadow c f).measured = s.measured := rfl
@[simp] theorem State.modShadow_spdmState (s : State) (c : Nat) (f : Shadow → Shadow) : (s.modShadow c f).spdmState = s.spdmState := rfl
@[simp] theorem State.modShadow_ownerRetired (s : State) (c : Nat) (f : Shadow → Shadow) : (s.modShadow c f).ownerRetired = s.ownerRetired := rfl
@[simp] theorem State.modShadow_ckptStates (s : State) (c : Nat) (f : Shadow → Shadow) : (s.modShadow c f).ckptStates = s.ckptStates := rfl
@[simp] theorem State.modShadow_ckptInfo (s : State) (c : Nat) (f : Shadow → Shadow) : (s.modShadow c f).ckptInfo = s.ckptInfo := rfl
@[simp] theorem State.modShadow_ckpt (s : State) (c : Nat) (f : Shadow → Shadow) : (s.modShadow c f).ckpt = s.ckpt := rfl
@[simp] theorem State.modShadow_restoring (s : State) (c : Nat) (f : Shadow → Shadow) : (s.modShadow c f).restoring = s.restoring := rfl
@[simp] theorem State.modShadow_latchDue (s : State) (c : Nat) (f : Shadow → Shadow) : (s.modShadow c f).latchDue = s.latchDue := rfl
@[simp] theorem State.modShadow_latched (s : State) (c : Nat) (f : Shadow → Shadow) : (s.modShadow c f).latched = s.latched := rfl
@[simp] theorem State.modShadow_tempRegion (s : State) (c : Nat) (f : Shadow → Shadow) : (s.modShadow c f).tempRegion = s.tempRegion := rfl
@[simp] theorem State.modShadow_resetN (s : State) (c : Nat) (f : Shadow → Shadow) : (s.modShadow c f).resetN = s.resetN := rfl
@[simp] theorem State.modShadow_corePg (s : State) (c : Nat) (f : Shadow → Shadow) : (s.modShadow c f).corePg = s.corePg := rfl
@[simp] theorem State.modShadow_pwrAlert (s : State) (c : Nat) (f : Shadow → Shadow) : (s.modShadow c f).pwrAlert = s.pwrAlert := rfl
@[simp] theorem State.modShadow_thermTrip (s : State) (c : Nat) (f : Shadow → Shadow) : (s.modShadow c f).thermTrip = s.thermTrip := rfl
@[simp] theorem State.modShadow_powerSteps (s : State) (c : Nat) (f : Shadow → Shadow) : (s.modShadow c f).powerSteps = s.powerSteps := rfl
@[simp] theorem State.modShadow_powerQuiet (s : State) (c : Nat) (f : Shadow → Shadow) : (s.modShadow c f).powerQuiet = s.powerQuiet := rfl
@[simp] theorem State.modShadow_thermSteps (s : State) (c : Nat) (f : Shadow → Shadow) : (s.modShadow c f).thermSteps = s.thermSteps := rfl
@[simp] theorem State.modShadow_thermBeats (s : State) (c : Nat) (f : Shadow → Shadow) : (s.modShadow c f).thermBeats = s.thermBeats := rfl
@[simp] theorem State.modShadow_thermCool (s : State) (c : Nat) (f : Shadow → Shadow) : (s.modShadow c f).thermCool = s.thermCool := rfl
@[simp] theorem State.modShadow_noticeAt (s : State) (c : Nat) (f : Shadow → Shadow) : (s.modShadow c f).noticeAt = s.noticeAt := rfl
@[simp] theorem State.modShadow_noticeDue (s : State) (c : Nat) (f : Shadow → Shadow) : (s.modShadow c f).noticeDue = s.noticeDue := rfl
@[simp] theorem State.modShadow_deadSent (s : State) (c : Nat) (f : Shadow → Shadow) : (s.modShadow c f).deadSent = s.deadSent := rfl
@[simp] theorem State.modShadow_i3cAddr (s : State) (c : Nat) (f : Shadow → Shadow) : (s.modShadow c f).i3cAddr = s.i3cAddr := rfl
@[simp] theorem State.modShadow_out (s : State) (c : Nat) (f : Shadow → Shadow) : (s.modShadow c f).out = s.out := rfl
@[simp] theorem State.modShadow_freeCtr (s : State) (c : Nat) (f : Shadow → Shadow) : (s.modShadow c f).freeCtr = s.freeCtr := rfl

/-! ### State.emit -/

@[simp] theorem State.emit_pending (s : State) (e : Emit) : (s.emit e).pending = s.pending := rfl
@[simp] theorem State.emit_objs (s : State) (e : Emit) : (s.emit e).objs = s.objs := rfl
@[simp] theorem State.emit_raises (s : State) (e : Emit) : (s.emit e).raises = s.raises := rfl
@[simp] theorem State.emit_gens (s : State) (e : Emit) : (s.emit e).gens = s.gens := rfl
@[simp] theorem State.emit_mem (s : State) (e : Emit) : (s.emit e).mem = s.mem := rfl
@[simp] theorem State.emit_poisoned (s : State) (e : Emit) : (s.emit e).poisoned = s.poisoned := rfl
@[simp] theorem State.emit_ctxs (s : State) (e : Emit) : (s.emit e).ctxs = s.ctxs := rfl
@[simp] theorem State.emit_pools (s : State) (e : Emit) : (s.emit e).pools = s.pools := rfl
@[simp] theorem State.emit_groups (s : State) (e : Emit) : (s.emit e).groups = s.groups := rfl
@[simp] theorem State.emit_tiles (s : State) (e : Emit) : (s.emit e).tiles = s.tiles := rfl
@[simp] theorem State.emit_regs (s : State) (e : Emit) : (s.emit e).regs = s.regs := rfl
@[simp] theorem State.emit_links (s : State) (e : Emit) : (s.emit e).links = s.links := rfl
@[simp] theorem State.emit_mailboxes (s : State) (e : Emit) : (s.emit e).mailboxes = s.mailboxes := rfl
@[simp] theorem State.emit_selectors (s : State) (e : Emit) : (s.emit e).selectors = s.selectors := rfl
@[simp] theorem State.emit_staged (s : State) (e : Emit) : (s.emit e).staged = s.staged := rfl
@[simp] theorem State.emit_hostGrants (s : State) (e : Emit) : (s.emit e).hostGrants = s.hostGrants := rfl
@[simp] theorem State.emit_fabricGrants (s : State) (e : Emit) : (s.emit e).fabricGrants = s.fabricGrants := rfl
@[simp] theorem State.emit_mctpGrant (s : State) (e : Emit) : (s.emit e).mctpGrant = s.mctpGrant := rfl
@[simp] theorem State.emit_mctpLowered (s : State) (e : Emit) : (s.emit e).mctpLowered = s.mctpLowered := rfl
@[simp] theorem State.emit_lastDenied (s : State) (e : Emit) : (s.emit e).lastDenied = s.lastDenied := rfl
@[simp] theorem State.emit_apertures (s : State) (e : Emit) : (s.emit e).apertures = s.apertures := rfl
@[simp] theorem State.emit_haModules (s : State) (e : Emit) : (s.emit e).haModules = s.haModules := rfl
@[simp] theorem State.emit_stackCaps (s : State) (e : Emit) : (s.emit e).stackCaps = s.stackCaps := rfl
@[simp] theorem State.emit_linkGenMax (s : State) (e : Emit) : (s.emit e).linkGenMax = s.linkGenMax := rfl
@[simp] theorem State.emit_vcWeight (s : State) (e : Emit) : (s.emit e).vcWeight = s.vcWeight := rfl
@[simp] theorem State.emit_bypassed (s : State) (e : Emit) : (s.emit e).bypassed = s.bypassed := rfl
@[simp] theorem State.emit_spineDown (s : State) (e : Emit) : (s.emit e).spineDown = s.spineDown := rfl
@[simp] theorem State.emit_announced (s : State) (e : Emit) : (s.emit e).announced = s.announced := rfl
@[simp] theorem State.emit_serial (s : State) (e : Emit) : (s.emit e).serial = s.serial := rfl
@[simp] theorem State.emit_deadNodes (s : State) (e : Emit) : (s.emit e).deadNodes = s.deadNodes := rfl
@[simp] theorem State.emit_hotLines (s : State) (e : Emit) : (s.emit e).hotLines = s.hotLines := rfl
@[simp] theorem State.emit_queues (s : State) (e : Emit) : (s.emit e).queues = s.queues := rfl
@[simp] theorem State.emit_remotes (s : State) (e : Emit) : (s.emit e).remotes = s.remotes := rfl
@[simp] theorem State.emit_nextId (s : State) (e : Emit) : (s.emit e).nextId = s.nextId := rfl
@[simp] theorem State.emit_lapsed (s : State) (e : Emit) : (s.emit e).lapsed = s.lapsed := rfl
@[simp] theorem State.emit_holdVc4 (s : State) (e : Emit) : (s.emit e).holdVc4 = s.holdVc4 := rfl
@[simp] theorem State.emit_redirects (s : State) (e : Emit) : (s.emit e).redirects = s.redirects := rfl
@[simp] theorem State.emit_items (s : State) (e : Emit) : (s.emit e).items = s.items := rfl
@[simp] theorem State.emit_gradHeld (s : State) (e : Emit) : (s.emit e).gradHeld = s.gradHeld := rfl
@[simp] theorem State.emit_nextItem (s : State) (e : Emit) : (s.emit e).nextItem = s.nextItem := rfl
@[simp] theorem State.emit_wipingPages (s : State) (e : Emit) : (s.emit e).wipingPages = s.wipingPages := rfl
@[simp] theorem State.emit_wipingExtents (s : State) (e : Emit) : (s.emit e).wipingExtents = s.wipingExtents := rfl
@[simp] theorem State.emit_deadPages (s : State) (e : Emit) : (s.emit e).deadPages = s.deadPages := rfl
@[simp] theorem State.emit_deadExtents (s : State) (e : Emit) : (s.emit e).deadExtents = s.deadExtents := rfl
@[simp] theorem State.emit_partnerPages (s : State) (e : Emit) : (s.emit e).partnerPages = s.partnerPages := rfl
@[simp] theorem State.emit_partnerExtents (s : State) (e : Emit) : (s.emit e).partnerExtents = s.partnerExtents := rfl
@[simp] theorem State.emit_beatSeen (s : State) (e : Emit) : (s.emit e).beatSeen = s.beatSeen := rfl
@[simp] theorem State.emit_freqCorr (s : State) (e : Emit) : (s.emit e).freqCorr = s.freqCorr := rfl
@[simp] theorem State.emit_skewRun (s : State) (e : Emit) : (s.emit e).skewRun = s.skewRun := rfl
@[simp] theorem State.emit_holdTo (s : State) (e : Emit) : (s.emit e).holdTo = s.holdTo := rfl
@[simp] theorem State.emit_jumpBy (s : State) (e : Emit) : (s.emit e).jumpBy = s.jumpBy := rfl
@[simp] theorem State.emit_holdStart (s : State) (e : Emit) : (s.emit e).holdStart = s.holdStart := rfl
@[simp] theorem State.emit_lastExtern (s : State) (e : Emit) : (s.emit e).lastExtern = s.lastExtern := rfl
@[simp] theorem State.emit_log (s : State) (e : Emit) : (s.emit e).log = s.log := rfl
@[simp] theorem State.emit_coreStates (s : State) (e : Emit) : (s.emit e).coreStates = s.coreStates := rfl
@[simp] theorem State.emit_coreFaults (s : State) (e : Emit) : (s.emit e).coreFaults = s.coreFaults := rfl
@[simp] theorem State.emit_coreWords (s : State) (e : Emit) : (s.emit e).coreWords = s.coreWords := rfl
@[simp] theorem State.emit_exceeded (s : State) (e : Emit) : (s.emit e).exceeded = s.exceeded := rfl
@[simp] theorem State.emit_scrubLate (s : State) (e : Emit) : (s.emit e).scrubLate = s.scrubLate := rfl
@[simp] theorem State.emit_shadows (s : State) (e : Emit) : (s.emit e).shadows = s.shadows := rfl
@[simp] theorem State.emit_heldHalf (s : State) (e : Emit) : (s.emit e).heldHalf = s.heldHalf := rfl
@[simp] theorem State.emit_lastHeart (s : State) (e : Emit) : (s.emit e).lastHeart = s.lastHeart := rfl
@[simp] theorem State.emit_heartMissed (s : State) (e : Emit) : (s.emit e).heartMissed = s.heartMissed := rfl
@[simp] theorem State.emit_probing (s : State) (e : Emit) : (s.emit e).probing = s.probing := rfl
@[simp] theorem State.emit_taking (s : State) (e : Emit) : (s.emit e).taking = s.taking := rfl
@[simp] theorem State.emit_mirrorNext (s : State) (e : Emit) : (s.emit e).mirrorNext = s.mirrorNext := rfl
@[simp] theorem State.emit_unacked (s : State) (e : Emit) : (s.emit e).unacked = s.unacked := rfl
@[simp] theorem State.emit_handing (s : State) (e : Emit) : (s.emit e).handing = s.handing := rfl
@[simp] theorem State.emit_takeoverLast (s : State) (e : Emit) : (s.emit e).takeoverLast = s.takeoverLast := rfl
@[simp] theorem State.emit_partnerWords (s : State) (e : Emit) : (s.emit e).partnerWords = s.partnerWords := rfl
@[simp] theorem State.emit_startStep (s : State) (e : Emit) : (s.emit e).startStep = s.startStep := rfl
@[simp] theorem State.emit_attempts (s : State) (e : Emit) : (s.emit e).attempts = s.attempts := rfl
@[simp] theorem State.emit_partnerJournal (s : State) (e : Emit) : (s.emit e).partnerJournal = s.partnerJournal := rfl
@[simp] theorem State.emit_policy (s : State) (e : Emit) : (s.emit e).policy = s.policy := rfl
@[simp] theorem State.emit_ownerKey (s : State) (e : Emit) : (s.emit e).ownerKey = s.ownerKey := rfl
@[simp] theorem State.emit_challenges (s : State) (e : Emit) : (s.emit e).challenges = s.challenges := rfl
@[simp] theorem State.emit_sessions (s : State) (e : Emit) : (s.emit e).sessions = s.sessions := rfl
@[simp] theorem State.emit_debugLocked (s : State) (e : Emit) : (s.emit e).debugLocked = s.debugLocked := rfl
@[simp] theorem State.emit_debugImage (s : State) (e : Emit) : (s.emit e).debugImage = s.debugImage := rfl
@[simp] theorem State.emit_keepSteps (s : State) (e : Emit) : (s.emit e).keepSteps = s.keepSteps := rfl
@[simp] theorem State.emit_hbmStacks (s : State) (e : Emit) : (s.emit e).hbmStacks = s.hbmStacks := rfl
@[simp] theorem State.emit_measured (s : State) (e : Emit) : (s.emit e).measured = s.measured := rfl
@[simp] theorem State.emit_spdmState (s : State) (e : Emit) : (s.emit e).spdmState = s.spdmState := rfl
@[simp] theorem State.emit_ownerRetired (s : State) (e : Emit) : (s.emit e).ownerRetired = s.ownerRetired := rfl
@[simp] theorem State.emit_ckptStates (s : State) (e : Emit) : (s.emit e).ckptStates = s.ckptStates := rfl
@[simp] theorem State.emit_ckptInfo (s : State) (e : Emit) : (s.emit e).ckptInfo = s.ckptInfo := rfl
@[simp] theorem State.emit_ckpt (s : State) (e : Emit) : (s.emit e).ckpt = s.ckpt := rfl
@[simp] theorem State.emit_restoring (s : State) (e : Emit) : (s.emit e).restoring = s.restoring := rfl
@[simp] theorem State.emit_latchDue (s : State) (e : Emit) : (s.emit e).latchDue = s.latchDue := rfl
@[simp] theorem State.emit_latched (s : State) (e : Emit) : (s.emit e).latched = s.latched := rfl
@[simp] theorem State.emit_tempRegion (s : State) (e : Emit) : (s.emit e).tempRegion = s.tempRegion := rfl
@[simp] theorem State.emit_resetN (s : State) (e : Emit) : (s.emit e).resetN = s.resetN := rfl
@[simp] theorem State.emit_corePg (s : State) (e : Emit) : (s.emit e).corePg = s.corePg := rfl
@[simp] theorem State.emit_pwrAlert (s : State) (e : Emit) : (s.emit e).pwrAlert = s.pwrAlert := rfl
@[simp] theorem State.emit_thermTrip (s : State) (e : Emit) : (s.emit e).thermTrip = s.thermTrip := rfl
@[simp] theorem State.emit_powerSteps (s : State) (e : Emit) : (s.emit e).powerSteps = s.powerSteps := rfl
@[simp] theorem State.emit_powerQuiet (s : State) (e : Emit) : (s.emit e).powerQuiet = s.powerQuiet := rfl
@[simp] theorem State.emit_thermSteps (s : State) (e : Emit) : (s.emit e).thermSteps = s.thermSteps := rfl
@[simp] theorem State.emit_thermBeats (s : State) (e : Emit) : (s.emit e).thermBeats = s.thermBeats := rfl
@[simp] theorem State.emit_thermCool (s : State) (e : Emit) : (s.emit e).thermCool = s.thermCool := rfl
@[simp] theorem State.emit_noticeAt (s : State) (e : Emit) : (s.emit e).noticeAt = s.noticeAt := rfl
@[simp] theorem State.emit_noticeDue (s : State) (e : Emit) : (s.emit e).noticeDue = s.noticeDue := rfl
@[simp] theorem State.emit_deadSent (s : State) (e : Emit) : (s.emit e).deadSent = s.deadSent := rfl
@[simp] theorem State.emit_i3cAddr (s : State) (e : Emit) : (s.emit e).i3cAddr = s.i3cAddr := rfl
@[simp] theorem State.emit_freeCtr (s : State) (e : Emit) : (s.emit e).freeCtr = s.freeCtr := rfl

/-! ### State.drawn -/

@[simp] theorem State.drawn_pending (s : State) : (s.drawn).pending = s.pending := rfl
@[simp] theorem State.drawn_objs (s : State) : (s.drawn).objs = s.objs := rfl
@[simp] theorem State.drawn_raises (s : State) : (s.drawn).raises = s.raises := rfl
@[simp] theorem State.drawn_gens (s : State) : (s.drawn).gens = s.gens := rfl
@[simp] theorem State.drawn_mem (s : State) : (s.drawn).mem = s.mem := rfl
@[simp] theorem State.drawn_poisoned (s : State) : (s.drawn).poisoned = s.poisoned := rfl
@[simp] theorem State.drawn_ctxs (s : State) : (s.drawn).ctxs = s.ctxs := rfl
@[simp] theorem State.drawn_pools (s : State) : (s.drawn).pools = s.pools := rfl
@[simp] theorem State.drawn_groups (s : State) : (s.drawn).groups = s.groups := rfl
@[simp] theorem State.drawn_tiles (s : State) : (s.drawn).tiles = s.tiles := rfl
@[simp] theorem State.drawn_regs (s : State) : (s.drawn).regs = s.regs := rfl
@[simp] theorem State.drawn_links (s : State) : (s.drawn).links = s.links := rfl
@[simp] theorem State.drawn_mailboxes (s : State) : (s.drawn).mailboxes = s.mailboxes := rfl
@[simp] theorem State.drawn_selectors (s : State) : (s.drawn).selectors = s.selectors := rfl
@[simp] theorem State.drawn_staged (s : State) : (s.drawn).staged = s.staged := rfl
@[simp] theorem State.drawn_hostGrants (s : State) : (s.drawn).hostGrants = s.hostGrants := rfl
@[simp] theorem State.drawn_fabricGrants (s : State) : (s.drawn).fabricGrants = s.fabricGrants := rfl
@[simp] theorem State.drawn_mctpGrant (s : State) : (s.drawn).mctpGrant = s.mctpGrant := rfl
@[simp] theorem State.drawn_mctpLowered (s : State) : (s.drawn).mctpLowered = s.mctpLowered := rfl
@[simp] theorem State.drawn_lastDenied (s : State) : (s.drawn).lastDenied = s.lastDenied := rfl
@[simp] theorem State.drawn_apertures (s : State) : (s.drawn).apertures = s.apertures := rfl
@[simp] theorem State.drawn_haModules (s : State) : (s.drawn).haModules = s.haModules := rfl
@[simp] theorem State.drawn_stackCaps (s : State) : (s.drawn).stackCaps = s.stackCaps := rfl
@[simp] theorem State.drawn_linkGenMax (s : State) : (s.drawn).linkGenMax = s.linkGenMax := rfl
@[simp] theorem State.drawn_vcWeight (s : State) : (s.drawn).vcWeight = s.vcWeight := rfl
@[simp] theorem State.drawn_bypassed (s : State) : (s.drawn).bypassed = s.bypassed := rfl
@[simp] theorem State.drawn_spineDown (s : State) : (s.drawn).spineDown = s.spineDown := rfl
@[simp] theorem State.drawn_announced (s : State) : (s.drawn).announced = s.announced := rfl
@[simp] theorem State.drawn_serial (s : State) : (s.drawn).serial = s.serial := rfl
@[simp] theorem State.drawn_deadNodes (s : State) : (s.drawn).deadNodes = s.deadNodes := rfl
@[simp] theorem State.drawn_hotLines (s : State) : (s.drawn).hotLines = s.hotLines := rfl
@[simp] theorem State.drawn_queues (s : State) : (s.drawn).queues = s.queues := rfl
@[simp] theorem State.drawn_remotes (s : State) : (s.drawn).remotes = s.remotes := rfl
@[simp] theorem State.drawn_nextId (s : State) : (s.drawn).nextId = s.nextId := rfl
@[simp] theorem State.drawn_lapsed (s : State) : (s.drawn).lapsed = s.lapsed := rfl
@[simp] theorem State.drawn_holdVc4 (s : State) : (s.drawn).holdVc4 = s.holdVc4 := rfl
@[simp] theorem State.drawn_redirects (s : State) : (s.drawn).redirects = s.redirects := rfl
@[simp] theorem State.drawn_items (s : State) : (s.drawn).items = s.items := rfl
@[simp] theorem State.drawn_gradHeld (s : State) : (s.drawn).gradHeld = s.gradHeld := rfl
@[simp] theorem State.drawn_nextItem (s : State) : (s.drawn).nextItem = s.nextItem := rfl
@[simp] theorem State.drawn_wipingPages (s : State) : (s.drawn).wipingPages = s.wipingPages := rfl
@[simp] theorem State.drawn_wipingExtents (s : State) : (s.drawn).wipingExtents = s.wipingExtents := rfl
@[simp] theorem State.drawn_deadPages (s : State) : (s.drawn).deadPages = s.deadPages := rfl
@[simp] theorem State.drawn_deadExtents (s : State) : (s.drawn).deadExtents = s.deadExtents := rfl
@[simp] theorem State.drawn_partnerPages (s : State) : (s.drawn).partnerPages = s.partnerPages := rfl
@[simp] theorem State.drawn_partnerExtents (s : State) : (s.drawn).partnerExtents = s.partnerExtents := rfl
@[simp] theorem State.drawn_beatSeen (s : State) : (s.drawn).beatSeen = s.beatSeen := rfl
@[simp] theorem State.drawn_freqCorr (s : State) : (s.drawn).freqCorr = s.freqCorr := rfl
@[simp] theorem State.drawn_skewRun (s : State) : (s.drawn).skewRun = s.skewRun := rfl
@[simp] theorem State.drawn_holdTo (s : State) : (s.drawn).holdTo = s.holdTo := rfl
@[simp] theorem State.drawn_jumpBy (s : State) : (s.drawn).jumpBy = s.jumpBy := rfl
@[simp] theorem State.drawn_holdStart (s : State) : (s.drawn).holdStart = s.holdStart := rfl
@[simp] theorem State.drawn_lastExtern (s : State) : (s.drawn).lastExtern = s.lastExtern := rfl
@[simp] theorem State.drawn_log (s : State) : (s.drawn).log = s.log := rfl
@[simp] theorem State.drawn_coreStates (s : State) : (s.drawn).coreStates = s.coreStates := rfl
@[simp] theorem State.drawn_coreFaults (s : State) : (s.drawn).coreFaults = s.coreFaults := rfl
@[simp] theorem State.drawn_coreWords (s : State) : (s.drawn).coreWords = s.coreWords := rfl
@[simp] theorem State.drawn_exceeded (s : State) : (s.drawn).exceeded = s.exceeded := rfl
@[simp] theorem State.drawn_scrubLate (s : State) : (s.drawn).scrubLate = s.scrubLate := rfl
@[simp] theorem State.drawn_shadows (s : State) : (s.drawn).shadows = s.shadows := rfl
@[simp] theorem State.drawn_heldHalf (s : State) : (s.drawn).heldHalf = s.heldHalf := rfl
@[simp] theorem State.drawn_lastHeart (s : State) : (s.drawn).lastHeart = s.lastHeart := rfl
@[simp] theorem State.drawn_heartMissed (s : State) : (s.drawn).heartMissed = s.heartMissed := rfl
@[simp] theorem State.drawn_probing (s : State) : (s.drawn).probing = s.probing := rfl
@[simp] theorem State.drawn_taking (s : State) : (s.drawn).taking = s.taking := rfl
@[simp] theorem State.drawn_mirrorNext (s : State) : (s.drawn).mirrorNext = s.mirrorNext := rfl
@[simp] theorem State.drawn_unacked (s : State) : (s.drawn).unacked = s.unacked := rfl
@[simp] theorem State.drawn_handing (s : State) : (s.drawn).handing = s.handing := rfl
@[simp] theorem State.drawn_takeoverLast (s : State) : (s.drawn).takeoverLast = s.takeoverLast := rfl
@[simp] theorem State.drawn_partnerWords (s : State) : (s.drawn).partnerWords = s.partnerWords := rfl
@[simp] theorem State.drawn_startStep (s : State) : (s.drawn).startStep = s.startStep := rfl
@[simp] theorem State.drawn_attempts (s : State) : (s.drawn).attempts = s.attempts := rfl
@[simp] theorem State.drawn_partnerJournal (s : State) : (s.drawn).partnerJournal = s.partnerJournal := rfl
@[simp] theorem State.drawn_policy (s : State) : (s.drawn).policy = s.policy := rfl
@[simp] theorem State.drawn_ownerKey (s : State) : (s.drawn).ownerKey = s.ownerKey := rfl
@[simp] theorem State.drawn_challenges (s : State) : (s.drawn).challenges = s.challenges := rfl
@[simp] theorem State.drawn_sessions (s : State) : (s.drawn).sessions = s.sessions := rfl
@[simp] theorem State.drawn_debugLocked (s : State) : (s.drawn).debugLocked = s.debugLocked := rfl
@[simp] theorem State.drawn_debugImage (s : State) : (s.drawn).debugImage = s.debugImage := rfl
@[simp] theorem State.drawn_keepSteps (s : State) : (s.drawn).keepSteps = s.keepSteps := rfl
@[simp] theorem State.drawn_hbmStacks (s : State) : (s.drawn).hbmStacks = s.hbmStacks := rfl
@[simp] theorem State.drawn_measured (s : State) : (s.drawn).measured = s.measured := rfl
@[simp] theorem State.drawn_spdmState (s : State) : (s.drawn).spdmState = s.spdmState := rfl
@[simp] theorem State.drawn_ownerRetired (s : State) : (s.drawn).ownerRetired = s.ownerRetired := rfl
@[simp] theorem State.drawn_ckptStates (s : State) : (s.drawn).ckptStates = s.ckptStates := rfl
@[simp] theorem State.drawn_ckptInfo (s : State) : (s.drawn).ckptInfo = s.ckptInfo := rfl
@[simp] theorem State.drawn_ckpt (s : State) : (s.drawn).ckpt = s.ckpt := rfl
@[simp] theorem State.drawn_restoring (s : State) : (s.drawn).restoring = s.restoring := rfl
@[simp] theorem State.drawn_latchDue (s : State) : (s.drawn).latchDue = s.latchDue := rfl
@[simp] theorem State.drawn_latched (s : State) : (s.drawn).latched = s.latched := rfl
@[simp] theorem State.drawn_tempRegion (s : State) : (s.drawn).tempRegion = s.tempRegion := rfl
@[simp] theorem State.drawn_resetN (s : State) : (s.drawn).resetN = s.resetN := rfl
@[simp] theorem State.drawn_corePg (s : State) : (s.drawn).corePg = s.corePg := rfl
@[simp] theorem State.drawn_pwrAlert (s : State) : (s.drawn).pwrAlert = s.pwrAlert := rfl
@[simp] theorem State.drawn_thermTrip (s : State) : (s.drawn).thermTrip = s.thermTrip := rfl
@[simp] theorem State.drawn_powerSteps (s : State) : (s.drawn).powerSteps = s.powerSteps := rfl
@[simp] theorem State.drawn_powerQuiet (s : State) : (s.drawn).powerQuiet = s.powerQuiet := rfl
@[simp] theorem State.drawn_thermSteps (s : State) : (s.drawn).thermSteps = s.thermSteps := rfl
@[simp] theorem State.drawn_thermBeats (s : State) : (s.drawn).thermBeats = s.thermBeats := rfl
@[simp] theorem State.drawn_thermCool (s : State) : (s.drawn).thermCool = s.thermCool := rfl
@[simp] theorem State.drawn_noticeAt (s : State) : (s.drawn).noticeAt = s.noticeAt := rfl
@[simp] theorem State.drawn_noticeDue (s : State) : (s.drawn).noticeDue = s.noticeDue := rfl
@[simp] theorem State.drawn_deadSent (s : State) : (s.drawn).deadSent = s.deadSent := rfl
@[simp] theorem State.drawn_i3cAddr (s : State) : (s.drawn).i3cAddr = s.i3cAddr := rfl
@[simp] theorem State.drawn_out (s : State) : (s.drawn).out = s.out := rfl

end Sys2Proof.Machine
end

