-- ==== Sys2Proof/Laws/Tables.lean ====
section
/-! SUPPORT. Sparse tables and scalar objects: what is read after a write (R412). -/

namespace Sys2Proof.Machine

variable {α : Type}

theorem tblFind_erase_same (t : Tbl α) (q : Nat) : tblFind (tblErase t q) q = none := by
  induction t with
  | nil => rfl
  | cons p r ih =>
    obtain ⟨k, v⟩ := p
    by_cases h : k = q
    · simpa [tblErase, h] using ih
    · simpa [tblErase, h, tblFind] using ih

theorem tblFind_erase_ne (t : Tbl α) {q k : Nat} (h : k ≠ q) : tblFind (tblErase t q) k = tblFind t k := by
  induction t with
  | nil => rfl
  | cons p r ih =>
    obtain ⟨j, v⟩ := p
    by_cases hj : j = q
    · subst hj
      simpa [tblErase, tblFind, Ne.symm h] using ih
    · by_cases hk : j = k
      · subst hk
        simp [tblErase, tblFind, hj]
      · simpa [tblErase, tblFind, hj, hk] using ih

theorem tblFind_insert_same (t : Tbl α) (q : Nat) (v : α) (h : tblFind t q = none) : tblFind (tblInsert q v t) q = some v := by
  induction t with
  | nil => simp [tblInsert, tblFind]
  | cons p r ih =>
    obtain ⟨k, w⟩ := p
    have hk : k ≠ q := by
      intro e
      simp [tblFind, e] at h
    have hr : tblFind r q = none := by simpa [tblFind, hk] using h
    by_cases hq : q < k
    · simp [tblInsert, hq, tblFind]
    · simp [tblInsert, hq, tblFind, hk, ih hr]

theorem tblFind_insert_ne (t : Tbl α) {q k : Nat} (v : α) (h : k ≠ q) : tblFind (tblInsert q v t) k = tblFind t k := by
  induction t with
  | nil => simp [tblInsert, tblFind, Ne.symm h]
  | cons p r ih =>
    obtain ⟨j, w⟩ := p
    by_cases hq : q < j
    · simp [tblInsert, hq, tblFind, Ne.symm h]
    · simp [tblInsert, hq, tblFind, ih]

/-- A table reads at the key written what was written. -/
theorem tblGet_put_same [DecidableEq α] (d : α) (t : Tbl α) (q : Nat) (v : α) : tblGet d (tblPut d t q v) q = v := by
  by_cases h : v = d
  · simp [tblGet, tblPut, h, tblFind_erase_same]
  · simp [tblGet, tblPut, h, tblFind_insert_same _ _ _ (tblFind_erase_same t q)]

/-- At every other key it reads what it read before. -/
theorem tblGet_put_ne [DecidableEq α] (d e : α) (t : Tbl α) {q k : Nat} (v : α) (h : k ≠ q) :
    tblGet e (tblPut d t q v) k = tblGet e t k := by
  by_cases hv : v = d
  · simp [tblGet, tblPut, hv, tblFind_erase_ne t h]
  · simp [tblGet, tblPut, hv, tblFind_insert_ne _ v h, tblFind_erase_ne t h]

/-! ### Scalar objects -/

@[simp] theorem State.get_put_same (s : State) (k v : Nat) : (s.put k v).get k = v := tblGet_put_same _ _ _ _

theorem State.get_put_ne (s : State) {k j : Nat} (v : Nat) (h : j ≠ k) : (s.put k v).get j = s.get j :=
  tblGet_put_ne _ _ _ v h

/-- A state whose objects are those of another reads them alike. -/
theorem State.get_congr {s t : State} (h : t.objs = s.objs) (k : Nat) : t.get k = s.get k := by
  unfold State.get
  rw [h]

theorem State.cget_congr {s t : State} (h : t.objs = s.objs) (c k : Nat) : t.cget c k = s.cget c k :=
  State.get_congr h _

/-- Objects of one context with different keys in context 0 are different objects, whatever the context. -/
theorem ctxKey_ne {c d j k : Nat} (h : j % 4096 ≠ k % 4096) : ctxKey c j ≠ ctxKey d k := by
  unfold ctxKey
  intro e
  have := congrArg (· % 4096) e
  simp [Nat.add_mul_mod_self_right] at this
  exact h this

/-- An object of the engine is no object of a context. -/
theorem engKey_ne {c j k : Nat} (hj : j < 0x800000) (hk : 0x800000 ≤ k) : j ≠ ctxKey c k := by
  unfold ctxKey
  omega

/-! ### Contexts -/

@[simp] theorem State.ctx_setCtx_same (s : State) (c : Nat) (x : Ctx) : (s.setCtx c x).ctx c = x := tblGet_put_same _ _ _ _

theorem State.ctx_setCtx_ne (s : State) {c d : Nat} (x : Ctx) (h : d ≠ c) : (s.setCtx c x).ctx d = s.ctx d :=
  tblGet_put_ne _ _ _ x h

@[simp] theorem State.get_setCtx (s : State) (c : Nat) (x : Ctx) (k : Nat) : (s.setCtx c x).get k = s.get k := rfl
@[simp] theorem State.get_emit (s : State) (e : Emit) (k : Nat) : (s.emit e).get k = s.get k := rfl
@[simp] theorem State.get_genUp (s : State) (j k : Nat) : (s.genUp j).get k = s.get k := rfl
@[simp] theorem State.ctx_put (s : State) (j v c : Nat) : (s.put j v).ctx c = s.ctx c := rfl
@[simp] theorem State.ctx_emit (s : State) (e : Emit) (c : Nat) : (s.emit e).ctx c = s.ctx c := rfl
@[simp] theorem State.ctx_genUp (s : State) (k c : Nat) : (s.genUp k).ctx c = s.ctx c := rfl

end Sys2Proof.Machine
end

