-- ==== Sys2Proof/Laws/Ended.lean ====
section
/-! SUPPORT. What the end of a command can change (R408, R429, R446, R467): of the fields of the state only those of the
notice, the mirror, the generations and the objects, and of the objects only CTX_STATE of a context, MIRROR_BYTES and
NOTICES_SENT. -/

namespace Sys2Proof.Machine

/-! ### The move of a DRAINING context to ARMED -/

/-- A mirror record sent changes objects, the record number, what waits for the partner and what has been sent. -/
theorem State.mirrorAll_shape (s : State) (k : MirrorKind) (c : Nat) (v : List (Nat × Nat)) (n : List Nat)
    (i : List (Nat × Bytes)) (l : Option Ledger) :
    ∃ ob m u e, s.mirrorAll k c v n i l = { s with objs := ob, mirrorNext := m, unacked := u, out := e } := by
  unfold State.mirrorAll
  split
  · exact ⟨_, _, _, _, rfl⟩
  · exact ⟨s.objs, s.mirrorNext, s.unacked, s.out, rfl⟩

/-- So does a move to ARMED. -/
theorem State.armed_shape (s : State) (c : Nat) :
    ∃ ob m u e, s.setCState c 2 0 = { s with objs := ob, mirrorNext := m, unacked := u, out := e } := by
  obtain ⟨ob, m, u, e, h⟩ := (s.cput c O_CTX_STATE 2).mirrorAll_shape .ctxState c
    [(ctxKey c O_SEED, (s.cput c O_CTX_STATE 2).cget c O_SEED)]
    [(s.cput c O_CTX_STATE 2).cstate c, (s.cput c O_CTX_STATE 2).cget c O_STEP, ((s.cput c O_CTX_STATE 2).ctx c).seqNext,
      (s.cput c O_CTX_STATE 2).cget c O_PRIOR_STATE] [] none
  exact ⟨ob, m, u, e, h⟩

/-- And every DRAINING context looked at. -/
theorem State.settle_shape (s : State) :
    ∃ ob m u e, s.settle = { s with objs := ob, mirrorNext := m, unacked := u, out := e } := by
  unfold State.settle
  generalize s.ctxsIn 4 = l
  induction l generalizing s with
  | nil => exact ⟨s.objs, s.mirrorNext, s.unacked, s.out, rfl⟩
  | cons c r ih =>
    rw [List.foldl_cons]
    obtain ⟨ob, m, u, e, h⟩ := ih (s.settleOne c)
    have h1 : ∃ ob m u e, s.settleOne c = { s with objs := ob, mirrorNext := m, unacked := u, out := e } := by
      unfold State.settleOne
      split
      · exact s.armed_shape c
      · exact ⟨s.objs, s.mirrorNext, s.unacked, s.out, rfl⟩
    obtain ⟨ob', m', u', e', h'⟩ := h1
    rw [h, h']
    exact ⟨ob, m, u, e, rfl⟩

/-- A notice sent. -/
theorem State.sendNotice_shape (s : State) :
    ∃ ob e, s.sendNotice = { s with objs := ob, out := e, noticeAt := some s.beat, noticeDue := false } := by
  unfold State.sendNotice
  dsimp only
  split <;> split <;> exact ⟨_, _, rfl⟩

/-- The end of a command: the state it leads to, but for these fields. -/
theorem ended_shape (s t : State) :
    ∃ ob g m u e a d, ended s t =
      { t with pending := s.pending, objs := ob, gens := g, mirrorNext := m, unacked := u, out := e, noticeAt := a,
               noticeDue := d } := by
  obtain ⟨ob, m, u, e, h⟩ := t.settle_shape
  have h2 : ∃ g, State.mapAfter s t.settle = { t.settle with gens := g } := by
    unfold State.mapAfter
    split
    · exact ⟨t.settle.gens, rfl⟩
    · exact ⟨_, rfl⟩
  obtain ⟨g, h2⟩ := h2
  have h3 : ∃ ob e a d, State.noticeAfter s (State.mapAfter s t.settle) =
      { State.mapAfter s t.settle with objs := ob, out := e, noticeAt := a, noticeDue := d } := by
    unfold State.noticeAfter
    split
    · split
      · obtain ⟨ob, e, h⟩ := (State.mapAfter s t.settle).sendNotice_shape
        exact ⟨ob, e, _, _, h⟩
      · exact ⟨_, _, _, true, rfl⟩
    · exact ⟨_, _, _, _, rfl⟩
  obtain ⟨ob', e', a, d, h3⟩ := h3
  unfold ended
  rw [h3, h2, h]
  exact ⟨ob', g, m, u, e', a, d, rfl⟩

/-! ### Field by field -/

@[simp] theorem ended_pending (s t : State) : (ended s t).pending = s.pending := rfl

/-- A command that ends gives a next state. -/
theorem finish_next (s t : State) : finish s t = .next (ended s t) := rfl

@[simp] theorem ended_raises (s t : State) : (ended s t).raises = t.raises := by
  obtain ⟨_, _, _, _, _, _, _, h⟩ := ended_shape s t
  rw [h]

@[simp] theorem ended_mem (s t : State) : (ended s t).mem = t.mem := by
  obtain ⟨_, _, _, _, _, _, _, h⟩ := ended_shape s t
  rw [h]

@[simp] theorem ended_poisoned (s t : State) : (ended s t).poisoned = t.poisoned := by
  obtain ⟨_, _, _, _, _, _, _, h⟩ := ended_shape s t
  rw [h]

@[simp] theorem ended_ctxs (s t : State) : (ended s t).ctxs = t.ctxs := by
  obtain ⟨_, _, _, _, _, _, _, h⟩ := ended_shape s t
  rw [h]

@[simp] theorem ended_pools (s t : State) : (ended s t).pools = t.pools := by
  obtain ⟨_, _, _, _, _, _, _, h⟩ := ended_shape s t
  rw [h]

@[simp] theorem ended_groups (s t : State) : (ended s t).groups = t.groups := by
  obtain ⟨_, _, _, _, _, _, _, h⟩ := ended_shape s t
  rw [h]

@[simp] theorem ended_tiles (s t : State) : (ended s t).tiles = t.tiles := by
  obtain ⟨_, _, _, _, _, _, _, h⟩ := ended_shape s t
  rw [h]

@[simp] theorem ended_regs (s t : State) : (ended s t).regs = t.regs := by
  obtain ⟨_, _, _, _, _, _, _, h⟩ := ended_shape s t
  rw [h]

@[simp] theorem ended_links (s t : State) : (ended s t).links = t.links := by
  obtain ⟨_, _, _, _, _, _, _, h⟩ := ended_shape s t
  rw [h]

@[simp] theorem ended_mailboxes (s t : State) : (ended s t).mailboxes = t.mailboxes := by
  obtain ⟨_, _, _, _, _, _, _, h⟩ := ended_shape s t
  rw [h]

@[simp] theorem ended_selectors (s t : State) : (ended s t).selectors = t.selectors := by
  obtain ⟨_, _, _, _, _, _, _, h⟩ := ended_shape s t
  rw [h]

@[simp] theorem ended_staged (s t : State) : (ended s t).staged = t.staged := by
  obtain ⟨_, _, _, _, _, _, _, h⟩ := ended_shape s t
  rw [h]

@[simp] theorem ended_hostGrants (s t : State) : (ended s t).hostGrants = t.hostGrants := by
  obtain ⟨_, _, _, _, _, _, _, h⟩ := ended_shape s t
  rw [h]

@[simp] theorem ended_fabricGrants (s t : State) : (ended s t).fabricGrants = t.fabricGrants := by
  obtain ⟨_, _, _, _, _, _, _, h⟩ := ended_shape s t
  rw [h]

@[simp] theorem ended_mctpGrant (s t : State) : (ended s t).mctpGrant = t.mctpGrant := by
  obtain ⟨_, _, _, _, _, _, _, h⟩ := ended_shape s t
  rw [h]

@[simp] theorem ended_mctpLowered (s t : State) : (ended s t).mctpLowered = t.mctpLowered := by
  obtain ⟨_, _, _, _, _, _, _, h⟩ := ended_shape s t
  rw [h]

@[simp] theorem ended_lastDenied (s t : State) : (ended s t).lastDenied = t.lastDenied := by
  obtain ⟨_, _, _, _, _, _, _, h⟩ := ended_shape s t
  rw [h]

@[simp] theorem ended_apertures (s t : State) : (ended s t).apertures = t.apertures := by
  obtain ⟨_, _, _, _, _, _, _, h⟩ := ended_shape s t
  rw [h]

@[simp] theorem ended_haModules (s t : State) : (ended s t).haModules = t.haModules := by
  obtain ⟨_, _, _, _, _, _, _, h⟩ := ended_shape s t
  rw [h]

@[simp] theorem ended_stackCaps (s t : State) : (ended s t).stackCaps = t.stackCaps := by
  obtain ⟨_, _, _, _, _, _, _, h⟩ := ended_shape s t
  rw [h]

@[simp] theorem ended_linkGenMax (s t : State) : (ended s t).linkGenMax = t.linkGenMax := by
  obtain ⟨_, _, _, _, _, _, _, h⟩ := ended_shape s t
  rw [h]

@[simp] theorem ended_vcWeight (s t : State) : (ended s t).vcWeight = t.vcWeight := by
  obtain ⟨_, _, _, _, _, _, _, h⟩ := ended_shape s t
  rw [h]

@[simp] theorem ended_bypassed (s t : State) : (ended s t).bypassed = t.bypassed := by
  obtain ⟨_, _, _, _, _, _, _, h⟩ := ended_shape s t
  rw [h]

@[simp] theorem ended_spineDown (s t : State) : (ended s t).spineDown = t.spineDown := by
  obtain ⟨_, _, _, _, _, _, _, h⟩ := ended_shape s t
  rw [h]

@[simp] theorem ended_announced (s t : State) : (ended s t).announced = t.announced := by
  obtain ⟨_, _, _, _, _, _, _, h⟩ := ended_shape s t
  rw [h]

@[simp] theorem ended_serial (s t : State) : (ended s t).serial = t.serial := by
  obtain ⟨_, _, _, _, _, _, _, h⟩ := ended_shape s t
  rw [h]

@[simp] theorem ended_deadNodes (s t : State) : (ended s t).deadNodes = t.deadNodes := by
  obtain ⟨_, _, _, _, _, _, _, h⟩ := ended_shape s t
  rw [h]

@[simp] theorem ended_hotLines (s t : State) : (ended s t).hotLines = t.hotLines := by
  obtain ⟨_, _, _, _, _, _, _, h⟩ := ended_shape s t
  rw [h]

@[simp] theorem ended_queues (s t : State) : (ended s t).queues = t.queues := by
  obtain ⟨_, _, _, _, _, _, _, h⟩ := ended_shape s t
  rw [h]

@[simp] theorem ended_remotes (s t : State) : (ended s t).remotes = t.remotes := by
  obtain ⟨_, _, _, _, _, _, _, h⟩ := ended_shape s t
  rw [h]

@[simp] theorem ended_nextId (s t : State) : (ended s t).nextId = t.nextId := by
  obtain ⟨_, _, _, _, _, _, _, h⟩ := ended_shape s t
  rw [h]

@[simp] theorem ended_lapsed (s t : State) : (ended s t).lapsed = t.lapsed := by
  obtain ⟨_, _, _, _, _, _, _, h⟩ := ended_shape s t
  rw [h]

@[simp] theorem ended_holdVc4 (s t : State) : (ended s t).holdVc4 = t.holdVc4 := by
  obtain ⟨_, _, _, _, _, _, _, h⟩ := ended_shape s t
  rw [h]

@[simp] theorem ended_redirects (s t : State) : (ended s t).redirects = t.redirects := by
  obtain ⟨_, _, _, _, _, _, _, h⟩ := ended_shape s t
  rw [h]

@[simp] theorem ended_items (s t : State) : (ended s t).items = t.items := by
  obtain ⟨_, _, _, _, _, _, _, h⟩ := ended_shape s t
  rw [h]

@[simp] theorem ended_gradHeld (s t : State) : (ended s t).gradHeld = t.gradHeld := by
  obtain ⟨_, _, _, _, _, _, _, h⟩ := ended_shape s t
  rw [h]

@[simp] theorem ended_nextItem (s t : State) : (ended s t).nextItem = t.nextItem := by
  obtain ⟨_, _, _, _, _, _, _, h⟩ := ended_shape s t
  rw [h]

@[simp] theorem ended_wipingPages (s t : State) : (ended s t).wipingPages = t.wipingPages := by
  obtain ⟨_, _, _, _, _, _, _, h⟩ := ended_shape s t
  rw [h]

@[simp] theorem ended_wipingExtents (s t : State) : (ended s t).wipingExtents = t.wipingExtents := by
  obtain ⟨_, _, _, _, _, _, _, h⟩ := ended_shape s t
  rw [h]

@[simp] theorem ended_deadPages (s t : State) : (ended s t).deadPages = t.deadPages := by
  obtain ⟨_, _, _, _, _, _, _, h⟩ := ended_shape s t
  rw [h]

@[simp] theorem ended_deadExtents (s t : State) : (ended s t).deadExtents = t.deadExtents := by
  obtain ⟨_, _, _, _, _, _, _, h⟩ := ended_shape s t
  rw [h]

@[simp] theorem ended_partnerPages (s t : State) : (ended s t).partnerPages = t.partnerPages := by
  obtain ⟨_, _, _, _, _, _, _, h⟩ := ended_shape s t
  rw [h]

@[simp] theorem ended_partnerExtents (s t : State) : (ended s t).partnerExtents = t.partnerExtents := by
  obtain ⟨_, _, _, _, _, _, _, h⟩ := ended_shape s t
  rw [h]

@[simp] theorem ended_beatSeen (s t : State) : (ended s t).beatSeen = t.beatSeen := by
  obtain ⟨_, _, _, _, _, _, _, h⟩ := ended_shape s t
  rw [h]

@[simp] theorem ended_freqCorr (s t : State) : (ended s t).freqCorr = t.freqCorr := by
  obtain ⟨_, _, _, _, _, _, _, h⟩ := ended_shape s t
  rw [h]

@[simp] theorem ended_skewRun (s t : State) : (ended s t).skewRun = t.skewRun := by
  obtain ⟨_, _, _, _, _, _, _, h⟩ := ended_shape s t
  rw [h]

@[simp] theorem ended_holdTo (s t : State) : (ended s t).holdTo = t.holdTo := by
  obtain ⟨_, _, _, _, _, _, _, h⟩ := ended_shape s t
  rw [h]

@[simp] theorem ended_jumpBy (s t : State) : (ended s t).jumpBy = t.jumpBy := by
  obtain ⟨_, _, _, _, _, _, _, h⟩ := ended_shape s t
  rw [h]

@[simp] theorem ended_holdStart (s t : State) : (ended s t).holdStart = t.holdStart := by
  obtain ⟨_, _, _, _, _, _, _, h⟩ := ended_shape s t
  rw [h]

@[simp] theorem ended_lastExtern (s t : State) : (ended s t).lastExtern = t.lastExtern := by
  obtain ⟨_, _, _, _, _, _, _, h⟩ := ended_shape s t
  rw [h]

@[simp] theorem ended_log (s t : State) : (ended s t).log = t.log := by
  obtain ⟨_, _, _, _, _, _, _, h⟩ := ended_shape s t
  rw [h]

@[simp] theorem ended_coreStates (s t : State) : (ended s t).coreStates = t.coreStates := by
  obtain ⟨_, _, _, _, _, _, _, h⟩ := ended_shape s t
  rw [h]

@[simp] theorem ended_coreFaults (s t : State) : (ended s t).coreFaults = t.coreFaults := by
  obtain ⟨_, _, _, _, _, _, _, h⟩ := ended_shape s t
  rw [h]

@[simp] theorem ended_coreWords (s t : State) : (ended s t).coreWords = t.coreWords := by
  obtain ⟨_, _, _, _, _, _, _, h⟩ := ended_shape s t
  rw [h]

@[simp] theorem ended_exceeded (s t : State) : (ended s t).exceeded = t.exceeded := by
  obtain ⟨_, _, _, _, _, _, _, h⟩ := ended_shape s t
  rw [h]

@[simp] theorem ended_scrubLate (s t : State) : (ended s t).scrubLate = t.scrubLate := by
  obtain ⟨_, _, _, _, _, _, _, h⟩ := ended_shape s t
  rw [h]

@[simp] theorem ended_shadows (s t : State) : (ended s t).shadows = t.shadows := by
  obtain ⟨_, _, _, _, _, _, _, h⟩ := ended_shape s t
  rw [h]

@[simp] theorem ended_heldHalf (s t : State) : (ended s t).heldHalf = t.heldHalf := by
  obtain ⟨_, _, _, _, _, _, _, h⟩ := ended_shape s t
  rw [h]

@[simp] theorem ended_lastHeart (s t : State) : (ended s t).lastHeart = t.lastHeart := by
  obtain ⟨_, _, _, _, _, _, _, h⟩ := ended_shape s t
  rw [h]

@[simp] theorem ended_heartMissed (s t : State) : (ended s t).heartMissed = t.heartMissed := by
  obtain ⟨_, _, _, _, _, _, _, h⟩ := ended_shape s t
  rw [h]

@[simp] theorem ended_probing (s t : State) : (ended s t).probing = t.probing := by
  obtain ⟨_, _, _, _, _, _, _, h⟩ := ended_shape s t
  rw [h]

@[simp] theorem ended_taking (s t : State) : (ended s t).taking = t.taking := by
  obtain ⟨_, _, _, _, _, _, _, h⟩ := ended_shape s t
  rw [h]

@[simp] theorem ended_handing (s t : State) : (ended s t).handing = t.handing := by
  obtain ⟨_, _, _, _, _, _, _, h⟩ := ended_shape s t
  rw [h]

@[simp] theorem ended_takeoverLast (s t : State) : (ended s t).takeoverLast = t.takeoverLast := by
  obtain ⟨_, _, _, _, _, _, _, h⟩ := ended_shape s t
  rw [h]

@[simp] theorem ended_partnerWords (s t : State) : (ended s t).partnerWords = t.partnerWords := by
  obtain ⟨_, _, _, _, _, _, _, h⟩ := ended_shape s t
  rw [h]

@[simp] theorem ended_startStep (s t : State) : (ended s t).startStep = t.startStep := by
  obtain ⟨_, _, _, _, _, _, _, h⟩ := ended_shape s t
  rw [h]

@[simp] theorem ended_attempts (s t : State) : (ended s t).attempts = t.attempts := by
  obtain ⟨_, _, _, _, _, _, _, h⟩ := ended_shape s t
  rw [h]

@[simp] theorem ended_partnerJournal (s t : State) : (ended s t).partnerJournal = t.partnerJournal := by
  obtain ⟨_, _, _, _, _, _, _, h⟩ := ended_shape s t
  rw [h]

@[simp] theorem ended_policy (s t : State) : (ended s t).policy = t.policy := by
  obtain ⟨_, _, _, _, _, _, _, h⟩ := ended_shape s t
  rw [h]

@[simp] theorem ended_ownerKey (s t : State) : (ended s t).ownerKey = t.ownerKey := by
  obtain ⟨_, _, _, _, _, _, _, h⟩ := ended_shape s t
  rw [h]

@[simp] theorem ended_challenges (s t : State) : (ended s t).challenges = t.challenges := by
  obtain ⟨_, _, _, _, _, _, _, h⟩ := ended_shape s t
  rw [h]

@[simp] theorem ended_sessions (s t : State) : (ended s t).sessions = t.sessions := by
  obtain ⟨_, _, _, _, _, _, _, h⟩ := ended_shape s t
  rw [h]

@[simp] theorem ended_debugLocked (s t : State) : (ended s t).debugLocked = t.debugLocked := by
  obtain ⟨_, _, _, _, _, _, _, h⟩ := ended_shape s t
  rw [h]

@[simp] theorem ended_debugImage (s t : State) : (ended s t).debugImage = t.debugImage := by
  obtain ⟨_, _, _, _, _, _, _, h⟩ := ended_shape s t
  rw [h]

@[simp] theorem ended_keepSteps (s t : State) : (ended s t).keepSteps = t.keepSteps := by
  obtain ⟨_, _, _, _, _, _, _, h⟩ := ended_shape s t
  rw [h]

@[simp] theorem ended_hbmStacks (s t : State) : (ended s t).hbmStacks = t.hbmStacks := by
  obtain ⟨_, _, _, _, _, _, _, h⟩ := ended_shape s t
  rw [h]

@[simp] theorem ended_measured (s t : State) : (ended s t).measured = t.measured := by
  obtain ⟨_, _, _, _, _, _, _, h⟩ := ended_shape s t
  rw [h]

@[simp] theorem ended_spdmState (s t : State) : (ended s t).spdmState = t.spdmState := by
  obtain ⟨_, _, _, _, _, _, _, h⟩ := ended_shape s t
  rw [h]

@[simp] theorem ended_ownerRetired (s t : State) : (ended s t).ownerRetired = t.ownerRetired := by
  obtain ⟨_, _, _, _, _, _, _, h⟩ := ended_shape s t
  rw [h]

@[simp] theorem ended_ckptStates (s t : State) : (ended s t).ckptStates = t.ckptStates := by
  obtain ⟨_, _, _, _, _, _, _, h⟩ := ended_shape s t
  rw [h]

@[simp] theorem ended_ckptInfo (s t : State) : (ended s t).ckptInfo = t.ckptInfo := by
  obtain ⟨_, _, _, _, _, _, _, h⟩ := ended_shape s t
  rw [h]

@[simp] theorem ended_ckpt (s t : State) : (ended s t).ckpt = t.ckpt := by
  obtain ⟨_, _, _, _, _, _, _, h⟩ := ended_shape s t
  rw [h]

@[simp] theorem ended_restoring (s t : State) : (ended s t).restoring = t.restoring := by
  obtain ⟨_, _, _, _, _, _, _, h⟩ := ended_shape s t
  rw [h]

@[simp] theorem ended_latchDue (s t : State) : (ended s t).latchDue = t.latchDue := by
  obtain ⟨_, _, _, _, _, _, _, h⟩ := ended_shape s t
  rw [h]

@[simp] theorem ended_latched (s t : State) : (ended s t).latched = t.latched := by
  obtain ⟨_, _, _, _, _, _, _, h⟩ := ended_shape s t
  rw [h]

@[simp] theorem ended_tempRegion (s t : State) : (ended s t).tempRegion = t.tempRegion := by
  obtain ⟨_, _, _, _, _, _, _, h⟩ := ended_shape s t
  rw [h]

@[simp] theorem ended_resetN (s t : State) : (ended s t).resetN = t.resetN := by
  obtain ⟨_, _, _, _, _, _, _, h⟩ := ended_shape s t
  rw [h]

@[simp] theorem ended_corePg (s t : State) : (ended s t).corePg = t.corePg := by
  obtain ⟨_, _, _, _, _, _, _, h⟩ := ended_shape s t
  rw [h]

@[simp] theorem ended_pwrAlert (s t : State) : (ended s t).pwrAlert = t.pwrAlert := by
  obtain ⟨_, _, _, _, _, _, _, h⟩ := ended_shape s t
  rw [h]

@[simp] theorem ended_thermTrip (s t : State) : (ended s t).thermTrip = t.thermTrip := by
  obtain ⟨_, _, _, _, _, _, _, h⟩ := ended_shape s t
  rw [h]

@[simp] theorem ended_powerSteps (s t : State) : (ended s t).powerSteps = t.powerSteps := by
  obtain ⟨_, _, _, _, _, _, _, h⟩ := ended_shape s t
  rw [h]

@[simp] theorem ended_powerQuiet (s t : State) : (ended s t).powerQuiet = t.powerQuiet := by
  obtain ⟨_, _, _, _, _, _, _, h⟩ := ended_shape s t
  rw [h]

@[simp] theorem ended_thermSteps (s t : State) : (ended s t).thermSteps = t.thermSteps := by
  obtain ⟨_, _, _, _, _, _, _, h⟩ := ended_shape s t
  rw [h]

@[simp] theorem ended_thermBeats (s t : State) : (ended s t).thermBeats = t.thermBeats := by
  obtain ⟨_, _, _, _, _, _, _, h⟩ := ended_shape s t
  rw [h]

@[simp] theorem ended_thermCool (s t : State) : (ended s t).thermCool = t.thermCool := by
  obtain ⟨_, _, _, _, _, _, _, h⟩ := ended_shape s t
  rw [h]

@[simp] theorem ended_deadSent (s t : State) : (ended s t).deadSent = t.deadSent := by
  obtain ⟨_, _, _, _, _, _, _, h⟩ := ended_shape s t
  rw [h]

@[simp] theorem ended_i3cAddr (s t : State) : (ended s t).i3cAddr = t.i3cAddr := by
  obtain ⟨_, _, _, _, _, _, _, h⟩ := ended_shape s t
  rw [h]

@[simp] theorem ended_freeCtr (s t : State) : (ended s t).freeCtr = t.freeCtr := by
  obtain ⟨_, _, _, _, _, _, _, h⟩ := ended_shape s t
  rw [h]

@[simp] theorem ended_ctx (s t : State) (c : Nat) : (ended s t).ctx c = t.ctx c := by
  unfold State.ctx
  rw [ended_ctxs]

/-! ### Objects -/

/-- A change of context state to ARMED: the objects it leaves alone. -/
theorem State.get_armed (s : State) (c : Nat) {k : Nat} (h1 : k ≠ ctxKey c O_CTX_STATE) (h2 : k ≠ O_MIRROR_BYTES) :
    (s.setCState c 2 0).get k = s.get k := by
  have h : ∀ (u : State) (v : List (Nat × Nat)) (n : List Nat), (u.mirrorAll .ctxState c v n [] none).get k = u.get k := by
    intro u v n
    unfold State.mirrorAll
    split
    · unfold State.bump
      rw [State.get_put_ne _ _ h2]
      rfl
    · rfl
  have e : (s.setCState c 2 0).get k = (s.cput c O_CTX_STATE 2).get k := h _ _ _
  rw [e]
  exact State.get_put_ne s 2 h1

/-- The objects that looking at the DRAINING contexts leaves alone. -/
theorem State.get_settle (s : State) {k : Nat} (h1 : ∀ c, k ≠ ctxKey c O_CTX_STATE) (h2 : k ≠ O_MIRROR_BYTES) :
    s.settle.get k = s.get k := by
  unfold State.settle
  generalize s.ctxsIn 4 = l
  induction l generalizing s with
  | nil => rfl
  | cons c r ih =>
    rw [List.foldl_cons, ih]
    unfold State.settleOne
    split
    · exact s.get_armed c (h1 c) h2
    · rfl

/-- The objects that a notice leaves alone. -/
theorem State.get_sendNotice (s : State) {k : Nat} (h : k ≠ O_NOTICES_SENT) : s.sendNotice.get k = s.get k := by
  unfold State.sendNotice State.bump
  rw [State.get_put_ne _ _ h]
  split <;> split <;> rfl

/-- The objects that the end of a command leaves alone. -/
theorem ended_get (s t : State) {k : Nat} (h1 : ∀ c, k ≠ ctxKey c O_CTX_STATE) (h2 : k ≠ O_MIRROR_BYTES)
    (h3 : k ≠ O_NOTICES_SENT) : (ended s t).get k = t.get k := by
  have hm : (State.mapAfter s t.settle).get k = t.settle.get k := by
    unfold State.mapAfter
    split <;> rfl
  rw [← t.get_settle h1 h2, ← hm]
  show (State.noticeAfter s (State.mapAfter s t.settle)).get k = _
  unfold State.noticeAfter
  split
  · split
    · exact State.get_sendNotice _ h3
    · rfl
  · rfl

/-- An object of the engine, MIRROR_BYTES and NOTICES_SENT apart. -/
theorem ended_get_engine (s t : State) {k : Nat} (hk : k < 0x800000) (h2 : k ≠ O_MIRROR_BYTES) (h3 : k ≠ O_NOTICES_SENT) :
    (ended s t).get k = t.get k :=
  ended_get s t (fun _ => engKey_ne hk (by decide)) h2 h3

/-- An object of a context other than CTX_STATE. -/
theorem ended_cget (s t : State) (c : Nat) {k : Nat} (hk : 0x800000 ≤ k) (h : k % 4096 ≠ O_CTX_STATE % 4096) :
    (ended s t).cget c k = t.cget c k := by
  refine ended_get s t (fun d => ctxKey_ne h) ?_ ?_
  · unfold ctxKey O_MIRROR_BYTES
    omega
  · unfold ctxKey O_NOTICES_SENT
    omega

end Sys2Proof.Machine
end

