-- ==== Sys2Proof/Laws/Dict.lean ====
section
/-! SUPPORT. The dictionary: how a request comes to its object, and what an accepted write ends in. -/

namespace Sys2Proof.Machine

open Sys2Proof

/-- A request taken up by the path is served (R419, R428). -/
theorem State.dictRequest_up {s : State} {p : Path} {r : DictReq} (a : Around) (h1 : s.reqWaits p r.index = false)
    (h2 : ∀ n, p = .vc0 n → s.heldVc0 < 64) : s.dictRequest p r a = s.serve p r a := by
  unfold State.dictRequest
  rw [h1]
  cases p with
  | vc0 n => simp [Nat.not_le.mpr (h2 n rfl)]
  | _ => rfl

/-- A request that waits changes nothing (R419). -/
theorem State.dictRequest_waits {s : State} {p : Path} {r : DictReq} (a : Around) (h : s.reqWaits p r.index = true) :
    s.dictRequest p r a = s := by
  unfold State.dictRequest
  rw [h]
  rfl

/-- A request that reaches its object is carried out there (R426). -/
theorem State.dictRequest_reaches {s : State} {p : Path} {r : DictReq} {i : ObjInfo} (a : Around) (h : Reaches s p r i)
    (h5 : r.op ≠ 5) (h8 : r.op ≠ 8) : s.dictRequest p r a = s.serveObj p r i a := by
  obtain ⟨h1, h2, h3, h4⟩ := h
  rw [State.dictRequest_up a h1 h2]
  simp [State.serve, h3, h4, h5, h8]

/-- A request of an operation on one object that fails a check of orders 1 to 5 is refused with its code (R426). -/
theorem State.dictRequest_refused {s : State} {p : Path} {r : DictReq} {code : Nat} (a : Around)
    (h1 : s.reqWaits p r.index = false) (h2 : ∀ n, p = .vc0 n → s.heldVc0 < 64) (h3 : s.reachCheck p r = some code)
    (h5 : r.op ≠ 5) (h8 : r.op ≠ 8) : s.dictRequest p r a = s.refuseReq p r code := by
  rw [State.dictRequest_up a h1 h2]
  simp [State.serve, h3, h5, h8]

/-- The key of a whole write is the one it was made from. -/
theorem keyReq_key (k : Nat) (d : Bytes) : (keyReq k d).key = k := by
  show k / 256 * 256 + k % 256 = k
  exact Nat.div_add_mod' _ _

/-- An accepted write of an object by its key (R424, R426). -/
theorem State.writeKey_accepted {s t : State} {p : Path} {k : Nat} {d : Bytes} {a : Around} {i : ObjInfo}
    (h : Accepted s p k d a i t) : s.writeKey p k d a = s.wrote t p (keyReq k d) i := by
  obtain ⟨hr, hw⟩ := h
  show s.dictRequest p (keyReq k d) a = _
  rw [State.dictRequest_reaches a hr (by show (2 : Nat) ≠ 5; decide) (by show (2 : Nat) ≠ 8; decide)]
  have hd : (keyReq k d).data = d := rfl
  show s.serveWrite p (keyReq k d) i a = _
  unfold State.serveWrite
  rw [keyReq_key, hd, hw]

/-- A write that reaches its object and fails there is refused with the code of its failure (R426, R536). -/
theorem State.writeKey_failed {s : State} {p : Path} {k : Nat} {d : Bytes} {a : Around} {i : ObjInfo} {code : Nat}
    (hr : Reaches s p (keyReq k d) i) (hw : s.writeObj p k i d a = .error code) :
    s.writeKey p k d a = (s.writeFlags k code).refuseReq p (keyReq k d) code := by
  show s.dictRequest p (keyReq k d) a = _
  rw [State.dictRequest_reaches a hr (by show (2 : Nat) ≠ 5; decide) (by show (2 : Nat) ≠ 8; decide)]
  have hd : (keyReq k d).data = d := rfl
  show s.serveWrite p (keyReq k d) i a = _
  unfold State.serveWrite
  rw [keyReq_key, hd, hw]

/-! ### The rows of the tables that describe objects of contexts and pools -/

/-- An object of any context is described by the row of context 0 (R433). -/
theorem normKey_ctx {c k : Nat} (hc : c < 1024) (hk : 0x800000 ≤ k) (hk' : k < 0x801000) : normKey (ctxKey c k) = k := by
  have h1 : ctxKey c k / 256 = k / 256 + c * 16 := by unfold ctxKey; omega
  have h2 : ctxKey c k % 256 = k % 256 := by unfold ctxKey; omega
  unfold normKey normIndex
  rw [h1, h2, if_pos (by simp only [Bool.and_eq_true, decide_eq_true_eq]; omega)]
  omega

/-- An object of any pool is described by the row of pool 0. -/
theorem normKey_pool {u k : Nat} (hu : u < 256) (hk : 0x240000 ≤ k) (hk' : k < 0x240100) : normKey (unitKey u k) = k := by
  have h1 : unitKey u k / 256 = k / 256 + u := by unfold unitKey; omega
  have h2 : unitKey u k % 256 = k % 256 := by unfold unitKey; omega
  unfold normKey normIndex
  rw [h1, h2, if_neg (by simp only [Bool.and_eq_true, decide_eq_true_eq]; omega),
    if_pos (by simp only [Bool.and_eq_true, decide_eq_true_eq]; omega)]
  omega

/-- The row found for an object of a context is that of context 0. -/
theorem objAt_ctx {c k : Nat} (hc : c < 1024) (hk : 0x800000 ≤ k) (hk' : k < 0x801000) :
    objAt (ctxKey c k / 256) (ctxKey c k % 256) = objAt (k / 256) (k % 256) := by
  have h1 : ctxKey c k / 256 * 256 + ctxKey c k % 256 = ctxKey c k := Nat.div_add_mod' _ _
  have h2 : k / 256 * 256 + k % 256 = k := Nat.div_add_mod' _ _
  have n1 := normKey_ctx hc hk hk'
  have n2 : normKey k = k := by
    have h := normKey_ctx (c := 0) (by decide) hk hk'
    have e : ctxKey 0 k = k := by unfold ctxKey; omega
    rwa [e] at h
  have g1 : (ctxKey c k / 256 < 65536 && ctxKey c k % 256 < 256) = true := by
    unfold ctxKey
    simp only [Bool.and_eq_true, decide_eq_true_eq]
    omega
  have g2 : (k / 256 < 65536 && k % 256 < 256) = true := by
    simp only [Bool.and_eq_true, decide_eq_true_eq]
    omega
  unfold objAt
  rw [h1, h2, if_pos g1, if_pos g2]
  unfold objInfo
  have m : ctxKey c k % 256 = k % 256 := by unfold ctxKey; omega
  have d1 : normIndex (ctxKey c k / 256) = normIndex (k / 256) := by
    unfold normKey at n1 n2
    omega
  rw [n1, n2, m, d1]

/-- The parts of the key of a context's object. -/
theorem keyCtx_ctxKey {c k : Nat} (hk : 0x800000 ≤ k) (hk' : k < 0x801000) : keyCtx (ctxKey c k) = c := by
  unfold keyCtx ctxKey
  omega

theorem keyBase_ctxKey {c k : Nat} (hk : 0x800000 ≤ k) (hk' : k < 0x801000) : keyBase (ctxKey c k) = k := by
  unfold keyBase ctxKey
  omega

theorem isCtxObj_ctxKey {c k : Nat} (hc : c < 1024) (hk : 0x800000 ≤ k) (hk' : k < 0x801000) : isCtxObj (ctxKey c k) = true := by
  unfold isCtxObj ctxKey
  simp only [Bool.and_eq_true, decide_eq_true_eq]
  omega

/-- A write of a scalar object of a context, past the checks of its type, is the object's own write. -/
theorem State.writeObj_ctx {s : State} {p : Path} {c k : Nat} {i : ObjInfo} {d : Bytes} (a : Around) (hc : c < 1024)
    (hk : 0x800000 ≤ k) (hk' : k < 0x801000) (hw : s.writeCheck p (ctxKey c k) i d = none) (hl : i.ty.len ≠ 0) :
    s.writeObj p (ctxKey c k) i d a = s.writeCtxObj c k (keptValue i (leNat d)) d i := by
  have hl' : (i.ty.len == 0) = false := by simpa using hl
  simp only [State.writeObj, hw, isCtxObj_ctxKey hc hk hk', keyCtx_ctxKey hk hk', keyBase_ctxKey hk hk', hl']
  cases s.writeCtxObj c k (keptValue i (leNat d)) d i <;> rfl

end Sys2Proof.Machine
end

