-- ==== Sys2Proof/Laws/Flags.lean ====
section
/-! SUPPORT. Flags: what raising and clearing a bit does to the bits, the counts and everything else. -/

namespace Sys2Proof.Machine

open Sys2Proof

/-! ### Bits of a number -/

theorem bit_iff (n k : Nat) : n / 2 ^ k % 2 = 1 ↔ n.testBit k = true := by
  rw [Nat.testBit_eq_decide_div_mod_eq, decide_eq_true_iff]

theorem bit_toNat (n k : Nat) : n / 2 ^ k % 2 = (n.testBit k).toNat := by
  rw [Nat.testBit_eq_decide_div_mod_eq]
  have : n / 2 ^ k % 2 < 2 := Nat.mod_lt _ (by decide)
  by_cases h : n / 2 ^ k % 2 = 1
  · simp [h]
  · simp [h]; omega

/-- A bit that is set reads 1. -/
theorem bit_or_same (n k : Nat) : (n ||| 2 ^ k) / 2 ^ k % 2 = 1 := by
  rw [bit_iff, Nat.testBit_or, Nat.testBit_two_pow_self, Bool.or_true]

/-- Every other bit reads as before. -/
theorem bit_or_ne (n : Nat) {k j : Nat} (h : j ≠ k) : (n ||| 2 ^ k) / 2 ^ j % 2 = n / 2 ^ j % 2 := by
  rw [bit_toNat, bit_toNat, Nat.testBit_or, Nat.testBit_two_pow_of_ne (Ne.symm h), Bool.or_false]

/-- The bits of a number under a mask and those outside it add up to the number. -/
theorem xor_and_add (v m : Nat) : (v ^^^ (v &&& m)) + (v &&& m) = v := by
  induction v using Nat.strongRecOn generalizing m with
  | _ v ih =>
    by_cases h0 : v = 0
    · simp [h0]
    · have ih := ih (v / 2) (by omega) (m / 2)
      have a1 : (v &&& m) / 2 = (v / 2) &&& (m / 2) := Nat.and_div_two
      have a2 : (v ^^^ (v &&& m)) / 2 = (v / 2) ^^^ ((v &&& m) / 2) := Nat.xor_div_two
      have t0 (a b : Nat) : (a &&& b) % 2 = (a.testBit 0 && b.testBit 0).toNat := by
        rw [← Nat.testBit_and, Nat.testBit_zero]
        have := Nat.mod_two_eq_zero_or_one (a &&& b)
        rcases this with h | h <;> simp [h]
      have t1 (a b : Nat) : (a ^^^ b) % 2 = (a.testBit 0 ^^ b.testBit 0).toNat := by
        rw [← Nat.testBit_xor, Nat.testBit_zero]
        have := Nat.mod_two_eq_zero_or_one (a ^^^ b)
        rcases this with h | h <;> simp [h]
      have m1 := t0 v m
      have m2 := t1 v (v &&& m)
      have hv : v % 2 = (v.testBit 0).toNat := by
        rw [Nat.testBit_zero]
        have := Nat.mod_two_eq_zero_or_one v
        rcases this with h | h <;> simp [h]
      rw [Nat.testBit_and] at m2
      rw [a1] at a2
      rw [← a1] at ih a2
      have key : (v ^^^ (v &&& m)) % 2 + (v &&& m) % 2 = v % 2 := by
        rw [m1, m2, hv]
        cases v.testBit 0 <;> cases m.testBit 0 <;> rfl
      omega

/-- A number without the bits of a mask. -/
theorem sub_and_eq (v m : Nat) : v - (v &&& m) = v ^^^ (v &&& m) := by
  have := xor_and_add v m
  omega

/-- A bit after a clear: 0 under the mask, as before elsewhere. -/
theorem bit_clear (v m b : Nat) : (v - (v &&& m)) / 2 ^ b % 2 = if m / 2 ^ b % 2 = 1 then 0 else v / 2 ^ b % 2 := by
  rw [sub_and_eq, bit_toNat, bit_toNat m, bit_toNat v, Nat.testBit_xor, Nat.testBit_and]
  cases v.testBit b <;> cases m.testBit b <;> rfl

/-! ### Raising a bit -/

theorem State.get_raise_same (s : State) (k b : Nat) : (s.raise k b).get k = s.get k ||| 2 ^ b :=
  s.get_put_same k _

theorem State.get_raise_ne (s : State) {k j : Nat} (b : Nat) (h : j ≠ k) : (s.raise k b).get j = s.get j :=
  s.get_put_ne _ h

theorem State.raise_bit (s : State) (k b : Nat) : (s.raise k b).get k / 2 ^ b % 2 = 1 := by
  rw [s.get_raise_same]
  exact bit_or_same _ _

theorem State.raise_bit_ne (s : State) (k : Nat) {b j : Nat} (h : j ≠ b) :
    (s.raise k b).get k / 2 ^ j % 2 = s.get k / 2 ^ j % 2 := by
  rw [s.get_raise_same]
  exact bit_or_ne _ h

/-- A bit that is set stays set when any bit of any object is raised. -/
theorem State.raise_keeps_bit (s : State) (k b : Nat) {j i : Nat} (h : s.get j / 2 ^ i % 2 = 1) :
    (s.raise k b).get j / 2 ^ i % 2 = 1 := by
  by_cases hj : j = k
  · subst hj
    by_cases hi : i = b
    · subst hi; exact s.raise_bit j i
    · rw [s.raise_bit_ne j hi]; exact h
  · rw [s.get_raise_ne b hj]; exact h

theorem State.raiseCount_raise_same (s : State) (k b : Nat) : (s.raise k b).raiseCount k b = (s.raiseCount k b + 1) % 2 ^ 32 :=
  tblGet_put_same _ _ _ _

theorem raiseKey_inj {k b j i : Nat} (hb : b < 32) (hi : i < 32) (h : raiseKey j i = raiseKey k b) : j = k ∧ i = b := by
  unfold raiseKey at h
  omega

theorem State.raiseCount_raise_ne (s : State) {k b j i : Nat} (hb : b < 32) (hi : i < 32) (h : (j, i) ≠ (k, b)) :
    (s.raise k b).raiseCount j i = s.raiseCount j i :=
  tblGet_put_ne _ _ _ _ fun e => h (by rw [(raiseKey_inj hb hi e).1, (raiseKey_inj hb hi e).2])

/-! ### Clearing bits -/

theorem State.get_clearBits_ne (s : State) {k j : Nat} (m : Nat) (h : j ≠ k) : (s.clearBits k m).get j = s.get j :=
  s.get_put_ne _ h

theorem State.clearBits_bit (s : State) (k m b : Nat) :
    (s.clearBits k m).get k / 2 ^ b % 2 = if m / 2 ^ b % 2 = 1 then 0 else s.get k / 2 ^ b % 2 := by
  show (s.put k (s.get k - (s.get k &&& m))).get k / 2 ^ b % 2 = _
  rw [s.get_put_same]
  exact bit_clear _ _ _

theorem State.clearBits_raises (s : State) (k m : Nat) : (s.clearBits k m).raises = s.raises := rfl

/-! ### Counters -/

theorem State.get_bump_same (s : State) (k n : Nat) : (s.bump k n).get k = (s.get k + n) % 2 ^ 64 := s.get_put_same k _

theorem State.get_bump_ne (s : State) {k j : Nat} (n : Nat) (h : j ≠ k) : (s.bump k n).get j = s.get j := s.get_put_ne _ h

end Sys2Proof.Machine
end

