-- ==== Sys2Proof/Laws/Memory.lean ====
section
/-! SUPPORT. Memory: a read after a write, what a write leaves alone, and the canonical form, which every operation on memory
keeps (R272, R277, R319). -/

namespace Sys2Proof.Machine

open Sys2Proof

/-! ### One byte -/

theorem memByte_find (m : List Host.Cell) (q : Nat) : memByte m q = (tblFind m q).getD 0 := by
  induction m with
  | nil => rfl
  | cons p r ih =>
    obtain ⟨k, v⟩ := p
    by_cases h : k = q <;> simp [memByte, tblFind, h, ih]

theorem memByte_set_same (m : List Host.Cell) (q : Nat) (b : Byte) : memByte (memSet m q b) q = b := by
  rw [memByte_find]
  by_cases h : b = 0
  · simp [memSet, h, tblFind_erase_same]
  · rw [memSet, if_neg h, tblFind_insert_same _ _ _ (tblFind_erase_same m q), Option.getD_some]

theorem memByte_set_ne (m : List Host.Cell) {q k : Nat} (b : Byte) (h : k ≠ q) : memByte (memSet m q b) k = memByte m k := by
  rw [memByte_find, memByte_find]
  by_cases hb : b = 0
  · simp [memSet, hb, tblFind_erase_ne m h]
  · rw [memSet, if_neg hb, tblFind_insert_ne _ b h, tblFind_erase_ne m h]

/-! ### Runs of bytes -/

/-- A write of a run leaves every byte outside the run alone. -/
theorem memByte_sets_out (m : List Host.Cell) (q : Nat) (bs : Bytes) {k : Nat} (h : k < q ∨ q + bs.length ≤ k) :
    memByte (memSets m q bs) k = memByte m k := by
  induction bs generalizing m q with
  | nil => rfl
  | cons b r ih =>
    simp only [List.length_cons] at h
    rw [memSets, ih _ _ (by omega), memByte_set_ne _ _ (by omega)]

/-- Within the run it reads as written. -/
theorem memByte_sets_in (m : List Host.Cell) (q : Nat) (bs : Bytes) {i : Nat} (h : i < bs.length) :
    memByte (memSets m q bs) (q + i) = bs[i] := by
  induction bs generalizing m q i with
  | nil => simp at h
  | cons b r ih =>
    cases i with
    | zero =>
      rw [memSets, memByte_sets_out _ _ _ (by omega)]
      simpa using memByte_set_same m q b
    | succ i =>
      have := ih (memSet m q b) (q + 1) (i := i) (by simpa using h)
      rw [memSets, show q + (i + 1) = q + 1 + i by omega, this]
      simp

/-- Bytes read where they were just written are those bytes. -/
theorem memGets_sets (m : List Host.Cell) (q : Nat) (bs : Bytes) : memGets (memSets m q bs) q bs.length = bs := by
  have gen : ∀ (n : Nat) (m' : List Host.Cell) (p : Nat),
      (memGets m' p n).length = n ∧ ∀ i, i < n → (memGets m' p n)[i]? = some (memByte m' (p + i)) := by
    intro n
    induction n with
    | zero => intro m' p; simp [memGets]
    | succ n ih =>
      intro m' p
      obtain ⟨h1, h2⟩ := ih m' (p + 1)
      refine ⟨by simp [memGets, h1], fun i hi => ?_⟩
      cases i with
      | zero => simp [memGets]
      | succ i =>
        have := h2 i (by omega)
        simp only [memGets, List.getElem?_cons_succ, this]
        rw [show p + 1 + i = p + (i + 1) by omega]
  obtain ⟨h1, h2⟩ := gen bs.length (memSets m q bs) q
  apply List.ext_getElem?
  intro i
  by_cases hi : i < bs.length
  · rw [h2 i hi, memByte_sets_in m q bs hi, List.getElem?_eq_getElem hi]
  · rw [List.getElem?_eq_none (by omega), List.getElem?_eq_none (by omega)]

/-! ### The canonical form -/

theorem wf_iff (m : List Host.Cell) :
    Memory.wf m = true ↔ m.Pairwise (fun a b => a.1 < b.1) ∧ ∀ p ∈ m, p.2 ≠ 0 := by
  have rise : ∀ l : List Host.Cell, keysRise l = true ↔ l.Pairwise (fun a b => a.1 < b.1) := by
    intro l
    induction l with
    | nil => simp [keysRise]
    | cons a r ih =>
      cases r with
      | nil => simp [keysRise]
      | cons b r =>
        simp only [keysRise, Bool.and_eq_true, decide_eq_true_eq, ih]
        constructor
        · rintro ⟨h1, h2⟩
          rw [List.pairwise_cons]
          refine ⟨fun x hx => ?_, h2⟩
          rcases List.mem_cons.1 hx with rfl | hx
          · exact h1
          · exact Nat.lt_trans h1 ((List.pairwise_cons.1 h2).1 x hx)
        · intro h
          exact ⟨(List.pairwise_cons.1 h).1 b (by simp), (List.pairwise_cons.1 h).2⟩
  simp [Memory.wf, rise]

/-- Memory with some bytes taken away stays canonical. -/
theorem wf_filter (m : List Host.Cell) (f : Host.Cell → Bool) (h : Memory.wf m = true) : Memory.wf (m.filter f) = true := by
  rw [wf_iff] at h ⊢
  exact ⟨h.1.filter f, fun p hp => h.2 p (List.mem_filter.1 hp).1⟩

theorem mem_tblInsert (q : Nat) (b : Byte) (m : List Host.Cell) (p : Host.Cell) :
    p ∈ (tblInsert q b m : List Host.Cell) → p = (q, b) ∨ p ∈ m := by
  induction m with
  | nil => simp [tblInsert]
  | cons a r ih =>
    obtain ⟨k, w⟩ := a
    by_cases h : q < k
    · simp only [tblInsert, h, if_true, List.mem_cons]
      exact id
    · simp only [tblInsert, h, if_false, List.mem_cons]
      rintro (rfl | hp)
      · simp
      · rcases ih hp with h | h
        · exact .inl h
        · exact .inr (.inr h)

theorem pairwise_tblInsert (q : Nat) (b : Byte) (m : List Host.Cell) (h : m.Pairwise (fun a b => a.1 < b.1))
    (hq : ∀ p ∈ m, p.1 ≠ q) : List.Pairwise (fun a b : Host.Cell => a.1 < b.1) (tblInsert q b m) := by
  induction m with
  | nil => simp [tblInsert]
  | cons a r ih =>
    obtain ⟨k, w⟩ := a
    rw [List.pairwise_cons] at h
    by_cases hk : q < k
    · simp only [tblInsert, hk, if_true]
      refine List.pairwise_cons.2 ⟨fun p hp => ?_, List.pairwise_cons.2 h⟩
      rcases List.mem_cons.1 hp with rfl | hp
      · exact hk
      · exact Nat.lt_trans hk (h.1 p hp)
    · simp only [tblInsert, hk, if_false]
      refine List.pairwise_cons.2 ⟨fun p hp => ?_, ih h.2 fun p hp => hq p (by simp [hp])⟩
      rcases mem_tblInsert q b r p hp with rfl | hp
      · have := hq (k, w) (by simp)
        simp only at this ⊢
        omega
      · exact h.1 p hp

/-- A byte written keeps the canonical form. -/
theorem wf_memSet (m : List Host.Cell) (q : Nat) (b : Byte) (h : Memory.wf m = true) : Memory.wf (memSet m q b) = true := by
  by_cases hb : b = 0
  · simpa [memSet, hb, tblErase] using wf_filter m (fun p => p.1 != q) h
  · have he := wf_filter m (fun p => p.1 != q) h
    rw [wf_iff] at he ⊢
    rw [memSet, if_neg hb]
    refine ⟨pairwise_tblInsert q b _ he.1 fun p hp => ?_, fun p hp => ?_⟩
    · simpa [tblErase] using (List.mem_filter.1 hp).2
    · rcases mem_tblInsert q b _ p hp with rfl | hp
      · exact hb
      · exact he.2 p hp

/-- A run written keeps it. -/
theorem wf_memSets (m : List Host.Cell) (q : Nat) (bs : Bytes) (h : Memory.wf m = true) : Memory.wf (memSets m q bs) = true := by
  induction bs generalizing m q with
  | nil => exact h
  | cons b r ih => exact ih _ _ (wf_memSet m q b h)

/-- A span set to 0 keeps it. -/
theorem wf_memZero (m : List Host.Cell) (q n : Nat) (h : Memory.wf m = true) : Memory.wf (memZero m q n) = true :=
  wf_filter m _ h

/-- A span copied keeps it. -/
theorem wf_memCopy (m : List Host.Cell) (a b n : Nat) (h : Memory.wf m = true) : Memory.wf (memCopy m a b n) = true := by
  unfold memCopy
  generalize memSpan m a n = l
  have := wf_memZero m b n h
  generalize memZero m b n = z at this
  induction l generalizing z with
  | nil => exact this
  | cons p r ih => exact ih _ (wf_memSet _ _ _ this)

/-! ### The state's memory -/

theorem State.wf_copyChunk (s : State) (j : CkptJob) (ch : Nat × Nat) (h : Memory.wf s.mem = true) :
    Memory.wf (s.copyChunk j ch).mem = true := by
  unfold State.copyChunk
  split
  · exact h
  · exact wf_memCopy _ _ _ _ h

theorem State.wf_cow (s : State) (q n : Nat) (h : Memory.wf s.mem = true) : Memory.wf (s.cow q n).mem = true := by
  unfold State.cow
  split
  · exact h
  · split
    · exact h
    · rename_i j hj _
      clear hj
      generalize (j.chunks.filter _) = l
      induction l generalizing s with
      | nil => exact h
      | cons ch r ih =>
        refine ih _ ?_
        dsimp only
        split
        · simpa [State.bump] using s.wf_copyChunk _ ch h
        · exact h

/-- A write through the state keeps the canonical form. -/
theorem State.wf_wr (s : State) (a : Nat) (bs : Bytes) (h : Memory.wf s.mem = true) : Memory.wf (s.wr a bs).mem = true :=
  wf_memSets _ _ _ (s.wf_cow _ _ h)

theorem State.wf_wrNat (s : State) (a n v : Nat) (h : Memory.wf s.mem = true) : Memory.wf (s.wrNat a n v).mem = true :=
  s.wf_wr _ _ h

/-- So does a wipe. -/
theorem State.wf_wipeSpan (s : State) (q n : Nat) (h : Memory.wf s.mem = true) : Memory.wf (s.wipeSpan q n).mem = true :=
  wf_memZero _ _ _ (s.wf_cow _ _ h)

/-- With no checkpoint under way a write changes nothing but its bytes and their poison (R500). -/
theorem State.wr_mem (s : State) (a : Nat) (bs : Bytes) (h : s.ckpt = none) :
    (s.wr a bs).mem = memSets s.mem (addrKey a) bs := by
  simp [State.wr, State.cow, h, State.unpoison]

/-- What was written reads back (R427). -/
theorem State.rd_wr (s : State) (a : Nat) (bs : Bytes) : (s.wr a bs).rd a bs.length = bs := memGets_sets _ _ _

end Sys2Proof.Machine
end

