-- ==== Sys2Proof/WellFormed.lean ====
section
/-! DEFINITION. Which commands are well formed: every operand lies in the range that the manual gives its field. -/

namespace Sys2Proof

/-- A path names an HA module 0 to 7 or a node of 15 bits (R417). -/
def Path.wf : Path → Bool
  | .mctp => true
  | .host m => m < 8
  | .vc0 n => n < 2 ^ 15

/-- The fields of a record header fit their widths, and it holds at most five copy entries (R107, R109, R110). -/
def RecHeader.wf (h : RecHeader) : Bool :=
  h.tag < 2 ^ 32 && h.srcNode < 2 ^ 16 && h.srcCtx < 2 ^ 16 && h.token < 2 ^ 16 && h.format < 256 && h.flags < 256
    && h.tscale < 2 ^ 32 && h.copies.length ≤ 5 && h.copies.all fun e => e.replica < 4 && e.slot < 64 && e.expert < 2 ^ 16

/-- A record: its header is well formed and its payload fits the largest record (R112). -/
def Record.wf (r : Record) : Bool := r.hdr.wf && r.payload.length ≤ 65536

/-- The fields of a marker fit their widths (R132). -/
def Marker.wf (k : Marker) : Bool :=
  k.tag < 2 ^ 32 && k.srcNode < 2 ^ 15 && k.srcCtx < 1024 && k.count < 2 ^ 32 && (k.kind == 1 || k.kind == 2)
    && k.relayNode < 2 ^ 16

/-- The fields of a remote request fit their widths; a copy chunk has at most 1 MiB, every other access at most 64 bytes
(R331, R339). -/
def RemoteReq.wf (r : RemoteReq) : Bool :=
  r.addr < 2 ^ 64 && r.srcNode < 2 ^ 15 && r.srcCtx < 1024
    && (if r.op == .copyChunk || r.op == .copyGet then r.size ≤ 2 ^ 20 else r.size ≤ 64)

/-- Is a command well formed? -/
def Instr.wf : Instr → Bool
  | .nop c => c < 1024
  | .layerFwd c => c < 1024
  | .layerBwd c => c < 1024
  | .groupedOp c => c < 1024
  | .copy c => c < 1024
  | .copyGather c => c < 1024
  | .copyScatter c => c < 1024
  | .copyExpand1d c => c < 1024
  | .copyExpand2d c => c < 1024
  | .layout c => c < 1024
  | .fabricCopy c => c < 1024
  | .allReduce c => c < 1024
  | .reduceScatter c => c < 1024
  | .allGather c => c < 1024
  | .broadcast c => c < 1024
  | .barrier c => c < 1024
  | .collectiveEntry c => c < 1024
  | .weightIntakeGateUp c _ _ => c < 1024
  | .weightIntakeDown c _ => c < 1024
  | .weightIntakeRouter c _ => c < 1024
  | .weightIntakePack c _ => c < 1024
  | .intakeComplete c idx => c < 1024 && idx < 2 ^ 32
  | .slotSwitch c => c < 1024
  | .slotSwitchEffect c => c < 1024
  | .gradExport c => c < 1024
  | .stepMark c => c < 1024
  | .stepMarkEffect c => c < 1024
  | .waitBeatAbsolute c => c < 1024
  | .waitBeatRelative c => c < 1024
  | .waitBeatRelease c => c < 1024
  | .launchAt c => c < 1024
  | .launchAtRelease c => c < 1024
  | .loopMem c => c < 1024
  | .endLoop c => c < 1024
  | .fence c => c < 1024
  | .fenceRelease c => c < 1024
  | .cancelBatch c => c < 1024
  | .checkpoint c => c < 1024
  | .checkpointCut c => c < 1024
  | .checkpointStage1End c => c < 1024
  | .backgroundChunkCopy c => c < 1024
  | .checkpointSeal c => c < 1024
  | .checkpointDrain c _ => c < 1024
  | .checkpointAbort slot => slot < 2
  | .digestSnap c => c < 1024
  | .digestSnapCapture c => c < 1024
  | .heldCommandIssue c => c < 1024
  | .ringPoll c tick => c < 1024 && tick < 256
  | .claim p c => p.wf && c < 1024
  | .arm p c => p.wf && c < 1024
  | .disarm p c => p.wf && c < 1024
  | .drain p c => p.wf && c < 1024
  | .halt p c => p.wf && c < 1024
  | .resume p c => p.wf && c < 1024
  | .release p c => p.wf && c < 1024
  | .ringContinue p c => p.wf && c < 1024
  | .ringSkip p c => p.wf && c < 1024
  | .ringFlush p c => p.wf && c < 1024
  | .poolCreate p pool => p.wf && pool < 256
  | .poolActive pool => pool < 256
  | .poolDelete p pool => p.wf && pool < 256
  | .groupCreate p => p.wf
  | .groupDelete p => p.wf
  | .pair p _ => p.wf
  | .pairingComplete => true
  | .unpair p _ => p.wf
  | .handback p => p.wf
  | .handbackTransfer => true
  | .unitQuarantine p => p.wf
  | .unitReturn p => p.wf
  | .unitReturned unit _ => (unit < 320 || (1024 ≤ unit && unit < 1029))
  | .unitSleep p => p.wf
  | .slotDiscard p slot => p.wf && slot < 2
  | .slotVerify p slot => p.wf && slot < 2
  | .restore p _ => p.wf
  | .restoreFinish => true
  | .debugClose p => p.wf
  | .warmReset p => p.wf
  | .engineQuarantine p => p.wf
  | .latchCtrl p => p.wf
  | .latchCapture => true
  | .descWrite p c data => p.wf && c < 1024 && data.length ≤ 2 ^ 24
  | .slotEntryWrite p c data => p.wf && c < 1024 && data.length ≤ 2 ^ 24
  | .debugRequest p data => p.wf && data.length ≤ 2 ^ 24
  | .debugResponse p data => p.wf && data.length ≤ 2 ^ 24
  | .debugChallengeExpiry p => p.wf
  | .debugTimeout p => p.wf
  | .expertMap p c data => p.wf && c < 1024 && data.length ≤ 2 ^ 24
  | .expertCount p c data => p.wf && c < 1024 && data.length ≤ 2 ^ 24
  | .bias p c data => p.wf && c < 1024 && data.length ≤ 2 ^ 24
  | .modelWidthWrite p c _ data => p.wf && c < 1024 && data.length ≤ 2 ^ 24
  | .lsPages p c _ data => p.wf && c < 1024 && data.length ≤ 2 ^ 24
  | .regions p c data => p.wf && c < 1024 && data.length ≤ 2 ^ 24
  | .descArea p c data => p.wf && c < 1024 && data.length ≤ 2 ^ 24
  | .srcWindows p c data => p.wf && c < 1024 && data.length ≤ 2 ^ 24
  | .detLevel p c data => p.wf && c < 1024 && data.length ≤ 2 ^ 24
  | .deadlineBeats p c data => p.wf && c < 1024 && data.length ≤ 2 ^ 24
  | .beatRole p data => p.wf && data.length ≤ 2 ^ 24
  | .fabricEnable p data => p.wf && data.length ≤ 2 ^ 24
  | .mctpGrant p data => p.wf && data.length ≤ 2 ^ 24
  | .apertures p data => p.wf && data.length ≤ 2 ^ 24
  | .startPolicy p data => p.wf && data.length ≤ 2 ^ 24
  | .ownerKeyHash p data => p.wf && data.length ≤ 2 ^ 24
  | .flagWriteClear p index sub data => p.wf && index < 2 ^ 16 && sub < 256 && data.length ≤ 2 ^ 24
  | .read p ver index sub => p.wf && (ver == 1 || ver == 2) && index < 2 ^ 16 && sub < 256
  | .write p ver index sub data => p.wf && (ver == 1 || ver == 2) && index < 2 ^ 16 && sub < 256 && data.length ≤ 2 ^ 24
  | .readSeg p ver index sub off len => p.wf && (ver == 1 || ver == 2) && index < 2 ^ 16 && sub < 256 && off < 2 ^ 32 && len < 2 ^ 32
  | .writeSeg p ver index sub off _ data => p.wf && (ver == 1 || ver == 2) && index < 2 ^ 16 && sub < 256 && off < 2 ^ 32 && data.length ≤ 2 ^ 24
  | .dictSegmentAbandoned index sub => index < 2 ^ 16 && sub < 256
  | .enumerate p ver index off => p.wf && (ver == 1 || ver == 2) && index < 2 ^ 16 && off < 2 ^ 32
  | .flagCounts p ver index sub => p.wf && (ver == 1 || ver == 2) && index < 2 ^ 16 && sub < 256
  | .flagClear p ver index sub mask => p.wf && (ver == 1 || ver == 2) && index < 2 ^ 16 && sub < 256 && mask < 2 ^ 32
  | .readBatch p ver entries => p.wf && (ver == 1 || ver == 2) && entries.length ≤ 16 && entries.all fun e => e.1 < 2 ^ 16 && e.2 < 256
  | .mailboxPoll m => m < 8
  | .entdaa addr => addr < 128
  | .setEndpointId _ eid => eid < 256
  | .getEndpointId _ => true
  | .getMctpVersionSupport _ => true
  | .getMessageTypeSupport _ => true
  | .getVendorDefinedMessageSupport _ => true
  | .getVersion => true
  | .getCapabilities => true
  | .negotiateAlgorithms => true
  | .getDigests => true
  | .getCertificate slot off len => slot < 8 && off < 2 ^ 16 && len < 2 ^ 16
  | .challenge slot nonce => slot < 8 && nonce.length == 32
  | .getMeasurements index _ nonce => index < 256 && nonce.length ≤ 32
  | .windowLaunch c tag => c < 1024 && tag < 2 ^ 32
  | .admissionRetry c tag => c < 1024 && tag < 2 ^ 32
  | .stagingFillDone c set _ => c < 1024 && set < 4
  | .score c tag _ => c < 1024 && tag < 2 ^ 32
  | .select c tag _ => c < 1024 && tag < 2 ^ 32
  | .sortAndPack c tag => c < 1024 && tag < 2 ^ 32
  | .bufferGrant pool => pool < 256
  | .send c tag => c < 1024 && tag < 2 ^ 32
  | .landingCreditGrant c node flits => c < 1024 && node < 2 ^ 15 && flits < 2 ^ 16
  | .dispatchRecord rec sender => rec.wf && sender < 2 ^ 15
  | .relayRecord rec sender => rec.wf && sender < 2 ^ 15
  | .forwardedMarker c tag src => c < 1024 && tag < 2 ^ 32 && src < 2 ^ 15
  | .endOfSendMarkerRx mk => mk.wf
  | .remoteRefused c tag node => c < 1024 && tag < 2 ^ 32 && node < 2 ^ 15
  | .closeNotice c tag src _ => c < 1024 && tag < 2 ^ 32 && src < 2 ^ 15
  | .horizon c tag => c < 1024 && tag < 2 ^ 32
  | .workItemStart tile => tile < 320
  | .workItemCommit tile => tile < 320
  | .weightGradAdd c _ => c < 1024
  | .returnRecord rec => rec.wf
  | .windowOutputDelivered c tag => c < 1024 && tag < 2 ^ 32
  | .deadlineBeat c tag _ => c < 1024 && tag < 2 ^ 32
  | .combineTail c tag => c < 1024 && tag < 2 ^ 32
  | .caramelUpdate c => c < 1024
  | .counterPublication c => c < 1024
  | .collEntryMessage c rank _ => c < 1024 && rank < 2 ^ 16
  | .collData c rank data => c < 1024 && rank < 2 ^ 16 && data.length ≤ 2 ^ 24
  | .collDoneReport c rank => c < 1024 && rank < 2 ^ 16
  | .collectiveComplete c => c < 1024
  | .abortNotice c rank code seq _ => c < 1024 && rank < 2 ^ 16 && code < 256 && seq < 2 ^ 32
  | .collTimeout c => c < 1024
  | .abortSettle c => c < 1024
  | .load req => req.wf
  | .store req => req.wf
  | .flaggedStore c addr data => c < 1024 && addr < 2 ^ 64 && data.length ≤ 2 ^ 24
  | .flaggedStoreRelease c _ => c < 1024
  | .add req _ => req.wf
  | .min req => req.wf
  | .max req => req.wf
  | .cas req => req.wf
  | .copyChunk req => req.wf
  | .lineQueueService line => line < 2 ^ 64
  | .remoteResponse _ _ data => data.length ≤ 2 ^ 24
  | .hostApertureAccess m off _ size data => m < 8 && data.length ≤ 64 && size ≤ 64 && off < 2 ^ 46
  | .remoteTimeout _ => true
  | .deadNodeNotice node => node < 2 ^ 15
  | .routeBlocked _ => true
  | .transitForward link tag flit src => link < 12 && tag < 2 ^ 64 && flit.length == 240 && src < 2 ^ 15
  | .bypassFrame link tag flit src => link < 12 && tag < 2 ^ 64 && flit.length == 240 && src < 2 ^ 15
  | .frameRx link _ _ tag flit => link < 12 && tag < 2 ^ 64 && flit.length == 240
  | .ctrlFrame link _ => link < 12
  | .laneFailed link lane => link < 12 && lane < 8
  | .linkRetrain link => link < 12
  | .linkTrained link gen peer delayPs => link < 12 && 1 ≤ gen && gen ≤ 3 && peer < 2 ^ 16 && delayPs < 2 ^ 32
  | .linkDelayMeasure link delayPs => link < 12 && delayPs < 2 ^ 32
  | .bypassAnnouncement _ => true
  | .returnAnnouncement node => node < 2 ^ 15
  | .takeoverAnnouncement lost serving => lost < 2 ^ 15 && serving < 2 ^ 15
  | .beatBoundary => true
  | .beatFlit link _ => link < 12
  | .beatLost => true
  | .holdoverLimitPassed => true
  | .beatSkew _ => true
  | .beatInFrame _ _ _ => true
  | .heartbeat beat words => beat < 2 ^ 64 && words.length == 4
  | .heartbeatLoss => true
  | .probe node => node < 2 ^ 15
  | .probeTimeout => true
  | .yieldMessage => true
  | .takeoverComplete => true
  | .mirrorRecord _ => true
  | .mirrorLag => true
  | .cellFault tile cell _ => tile < 320 && cell < 264
  | .scrubPass _ _ _ => true
  | .wipeComplete extent unit _ => (if extent then unit < 16384 else unit < 8192)
  | .sqCoreFault core => core < 4
  | .progressWordAlarm core => core < 4
  | .sqCoreRestart core => core < 4
  | .profileChange => true
  | .noticeIntervalEnd => true
  | .crumbExpiry c tag => c < 1024 && tag < 2 ^ 32
  | .vaonPowerOn => true
  | .resetNLow => true
  | .resetNHigh => true
  | .corePgFall => true
  | .pwrAlertNLow => true
  | .pwrAlertNRelease => true
  | .powerControl _ _ => true
  | .thermalControl temps => temps.length == 5
  | .startStep _ => true
  | .corePgRise => true
  | .probeAnswer => true
  | .mirrorAcknowledgement seq => seq < 2 ^ 32
  | .tensorMoverDone c idx => c < 1024 && idx < 2 ^ 32
  | .slotVerifyEnd => true

end Sys2Proof
end

