-- ==== Sys2Proof/Laws/PerInstr.lean ====
section
/-! SUPPORT. A law of every command: the context and the link that a well-formed command names exist. -/

namespace Sys2Proof.Laws.Operands

open Sys2Proof

/-- The context that a command names as an operand of its own. -/
def context : Instr → Option Nat
  | .nop c => some c
  | .layerFwd c => some c
  | .layerBwd c => some c
  | .groupedOp c => some c
  | .copy c => some c
  | .copyGather c => some c
  | .copyScatter c => some c
  | .copyExpand1d c => some c
  | .copyExpand2d c => some c
  | .layout c => some c
  | .fabricCopy c => some c
  | .allReduce c => some c
  | .reduceScatter c => some c
  | .allGather c => some c
  | .broadcast c => some c
  | .barrier c => some c
  | .collectiveEntry c => some c
  | .weightIntakeGateUp c _ _ => some c
  | .weightIntakeDown c _ => some c
  | .weightIntakeRouter c _ => some c
  | .weightIntakePack c _ => some c
  | .intakeComplete c _ => some c
  | .slotSwitch c => some c
  | .slotSwitchEffect c => some c
  | .gradExport c => some c
  | .stepMark c => some c
  | .stepMarkEffect c => some c
  | .waitBeatAbsolute c => some c
  | .waitBeatRelative c => some c
  | .waitBeatRelease c => some c
  | .launchAt c => some c
  | .launchAtRelease c => some c
  | .loopMem c => some c
  | .endLoop c => some c
  | .fence c => some c
  | .fenceRelease c => some c
  | .cancelBatch c => some c
  | .checkpoint c => some c
  | .checkpointCut c => some c
  | .checkpointStage1End c => some c
  | .backgroundChunkCopy c => some c
  | .checkpointSeal c => some c
  | .checkpointDrain c _ => some c
  | .digestSnap c => some c
  | .digestSnapCapture c => some c
  | .heldCommandIssue c => some c
  | .ringPoll c _ => some c
  | .claim _ c => some c
  | .arm _ c => some c
  | .disarm _ c => some c
  | .drain _ c => some c
  | .halt _ c => some c
  | .resume _ c => some c
  | .release _ c => some c
  | .ringContinue _ c => some c
  | .ringSkip _ c => some c
  | .ringFlush _ c => some c
  | .descWrite _ c _ => some c
  | .slotEntryWrite _ c _ => some c
  | .expertMap _ c _ => some c
  | .expertCount _ c _ => some c
  | .bias _ c _ => some c
  | .modelWidthWrite _ c _ _ => some c
  | .lsPages _ c _ _ => some c
  | .regions _ c _ => some c
  | .descArea _ c _ => some c
  | .srcWindows _ c _ => some c
  | .detLevel _ c _ => some c
  | .deadlineBeats _ c _ => some c
  | .windowLaunch c _ => some c
  | .admissionRetry c _ => some c
  | .stagingFillDone c _ _ => some c
  | .score c _ _ => some c
  | .select c _ _ => some c
  | .sortAndPack c _ => some c
  | .send c _ => some c
  | .landingCreditGrant c _ _ => some c
  | .forwardedMarker c _ _ => some c
  | .remoteRefused c _ _ => some c
  | .closeNotice c _ _ _ => some c
  | .horizon c _ => some c
  | .weightGradAdd c _ => some c
  | .windowOutputDelivered c _ => some c
  | .deadlineBeat c _ _ => some c
  | .combineTail c _ => some c
  | .caramelUpdate c => some c
  | .counterPublication c => some c
  | .collEntryMessage c _ _ => some c
  | .collData c _ _ => some c
  | .collDoneReport c _ => some c
  | .collectiveComplete c => some c
  | .abortNotice c _ _ _ _ => some c
  | .collTimeout c => some c
  | .abortSettle c => some c
  | .flaggedStore c _ _ => some c
  | .flaggedStoreRelease c _ => some c
  | .crumbExpiry c _ => some c
  | .tensorMoverDone c _ => some c
  | _ => none

/-- The link at which a command happens. -/
def link : Instr → Option Nat
  | .transitForward l _ _ _ => some l
  | .bypassFrame l _ _ _ => some l
  | .frameRx l _ _ _ _ => some l
  | .ctrlFrame l _ => some l
  | .laneFailed l _ => some l
  | .linkRetrain l => some l
  | .linkTrained l _ _ _ => some l
  | .linkDelayMeasure l _ => some l
  | .beatFlit l _ => some l
  | _ => none

/-- A well-formed command names a context below 1,024 (R9) and a link below 12 (R310). -/
def Statement (i : Instr) : Prop :=
  i.wf = true → (∀ c, context i = some c → c < 1024) ∧ ∀ l, link i = some l → l < 12

theorem and_left {a b : Bool} (h : (a && b) = true) : a = true := (Bool.and_eq_true a b ▸ h).1

theorem and_right {a b : Bool} (h : (a && b) = true) : b = true := (Bool.and_eq_true a b ▸ h).2

theorem statement_of_none {i : Instr} (hc : context i = none) (hl : link i = none) : Statement i :=
  fun _ => ⟨fun c h => by simp [hc] at h, fun l h => by simp [hl] at h⟩

theorem statement_of_context {i : Instr} {c : Nat} (hw : i.wf = true → c < 1024) (hc : context i = some c)
    (hl : link i = none) : Statement i :=
  fun h => ⟨fun v e => by rw [hc] at e; cases e; exact hw h, fun l e => by simp [hl] at e⟩

theorem statement_of_link {i : Instr} {l : Nat} (hw : i.wf = true → l < 12) (hc : context i = none)
    (hl : link i = some l) : Statement i :=
  fun h => ⟨fun c e => by simp [hc] at e, fun v e => by rw [hl] at e; cases e; exact hw h⟩

theorem nop (c : Nat) : Statement (.nop c) := statement_of_context (fun h => of_decide_eq_true h) rfl rfl
theorem layerFwd (c : Nat) : Statement (.layerFwd c) := statement_of_context (fun h => of_decide_eq_true h) rfl rfl
theorem layerBwd (c : Nat) : Statement (.layerBwd c) := statement_of_context (fun h => of_decide_eq_true h) rfl rfl
theorem groupedOp (c : Nat) : Statement (.groupedOp c) := statement_of_context (fun h => of_decide_eq_true h) rfl rfl
theorem copy (c : Nat) : Statement (.copy c) := statement_of_context (fun h => of_decide_eq_true h) rfl rfl
theorem copyGather (c : Nat) : Statement (.copyGather c) := statement_of_context (fun h => of_decide_eq_true h) rfl rfl
theorem copyScatter (c : Nat) : Statement (.copyScatter c) := statement_of_context (fun h => of_decide_eq_true h) rfl rfl
theorem copyExpand1d (c : Nat) : Statement (.copyExpand1d c) := statement_of_context (fun h => of_decide_eq_true h) rfl rfl
theorem copyExpand2d (c : Nat) : Statement (.copyExpand2d c) := statement_of_context (fun h => of_decide_eq_true h) rfl rfl
theorem layout (c : Nat) : Statement (.layout c) := statement_of_context (fun h => of_decide_eq_true h) rfl rfl
theorem fabricCopy (c : Nat) : Statement (.fabricCopy c) := statement_of_context (fun h => of_decide_eq_true h) rfl rfl
theorem allReduce (c : Nat) : Statement (.allReduce c) := statement_of_context (fun h => of_decide_eq_true h) rfl rfl
theorem reduceScatter (c : Nat) : Statement (.reduceScatter c) := statement_of_context (fun h => of_decide_eq_true h) rfl rfl
theorem allGather (c : Nat) : Statement (.allGather c) := statement_of_context (fun h => of_decide_eq_true h) rfl rfl
theorem broadcast (c : Nat) : Statement (.broadcast c) := statement_of_context (fun h => of_decide_eq_true h) rfl rfl
theorem barrier (c : Nat) : Statement (.barrier c) := statement_of_context (fun h => of_decide_eq_true h) rfl rfl
theorem collectiveEntry (c : Nat) : Statement (.collectiveEntry c) :=
  statement_of_context (fun h => of_decide_eq_true h) rfl rfl
theorem weightIntakeGateUp (c : Nat) (src : Bytes) (src2 : Bytes) : Statement (.weightIntakeGateUp c src src2) :=
  statement_of_context (fun h => of_decide_eq_true h) rfl rfl
theorem weightIntakeDown (c : Nat) (src : Bytes) : Statement (.weightIntakeDown c src) :=
  statement_of_context (fun h => of_decide_eq_true h) rfl rfl
theorem weightIntakeRouter (c : Nat) (src : Bytes) : Statement (.weightIntakeRouter c src) :=
  statement_of_context (fun h => of_decide_eq_true h) rfl rfl
theorem weightIntakePack (c : Nat) (src : Bytes) : Statement (.weightIntakePack c src) :=
  statement_of_context (fun h => of_decide_eq_true h) rfl rfl
theorem intakeComplete (c : Nat) (idx : Nat) : Statement (.intakeComplete c idx) :=
  statement_of_context (fun h => of_decide_eq_true (and_left h)) rfl rfl
theorem slotSwitch (c : Nat) : Statement (.slotSwitch c) := statement_of_context (fun h => of_decide_eq_true h) rfl rfl
theorem slotSwitchEffect (c : Nat) : Statement (.slotSwitchEffect c) :=
  statement_of_context (fun h => of_decide_eq_true h) rfl rfl
theorem gradExport (c : Nat) : Statement (.gradExport c) := statement_of_context (fun h => of_decide_eq_true h) rfl rfl
theorem stepMark (c : Nat) : Statement (.stepMark c) := statement_of_context (fun h => of_decide_eq_true h) rfl rfl
theorem stepMarkEffect (c : Nat) : Statement (.stepMarkEffect c) :=
  statement_of_context (fun h => of_decide_eq_true h) rfl rfl
theorem waitBeatAbsolute (c : Nat) : Statement (.waitBeatAbsolute c) :=
  statement_of_context (fun h => of_decide_eq_true h) rfl rfl
theorem waitBeatRelative (c : Nat) : Statement (.waitBeatRelative c) :=
  statement_of_context (fun h => of_decide_eq_true h) rfl rfl
theorem waitBeatRelease (c : Nat) : Statement (.waitBeatRelease c) :=
  statement_of_context (fun h => of_decide_eq_true h) rfl rfl
theorem launchAt (c : Nat) : Statement (.launchAt c) := statement_of_context (fun h => of_decide_eq_true h) rfl rfl
theorem launchAtRelease (c : Nat) : Statement (.launchAtRelease c) :=
  statement_of_context (fun h => of_decide_eq_true h) rfl rfl
theorem loopMem (c : Nat) : Statement (.loopMem c) := statement_of_context (fun h => of_decide_eq_true h) rfl rfl
theorem endLoop (c : Nat) : Statement (.endLoop c) := statement_of_context (fun h => of_decide_eq_true h) rfl rfl
theorem fence (c : Nat) : Statement (.fence c) := statement_of_context (fun h => of_decide_eq_true h) rfl rfl
theorem fenceRelease (c : Nat) : Statement (.fenceRelease c) := statement_of_context (fun h => of_decide_eq_true h) rfl rfl
theorem cancelBatch (c : Nat) : Statement (.cancelBatch c) := statement_of_context (fun h => of_decide_eq_true h) rfl rfl
theorem checkpoint (c : Nat) : Statement (.checkpoint c) := statement_of_context (fun h => of_decide_eq_true h) rfl rfl
theorem checkpointCut (c : Nat) : Statement (.checkpointCut c) := statement_of_context (fun h => of_decide_eq_true h) rfl rfl
theorem checkpointStage1End (c : Nat) : Statement (.checkpointStage1End c) :=
  statement_of_context (fun h => of_decide_eq_true h) rfl rfl
theorem backgroundChunkCopy (c : Nat) : Statement (.backgroundChunkCopy c) :=
  statement_of_context (fun h => of_decide_eq_true h) rfl rfl
theorem checkpointSeal (c : Nat) : Statement (.checkpointSeal c) :=
  statement_of_context (fun h => of_decide_eq_true h) rfl rfl
theorem checkpointDrain (c : Nat) (delivered : Bool) : Statement (.checkpointDrain c delivered) :=
  statement_of_context (fun h => of_decide_eq_true h) rfl rfl
theorem checkpointAbort (slot : Nat) : Statement (.checkpointAbort slot) := statement_of_none rfl rfl
theorem digestSnap (c : Nat) : Statement (.digestSnap c) := statement_of_context (fun h => of_decide_eq_true h) rfl rfl
theorem digestSnapCapture (c : Nat) : Statement (.digestSnapCapture c) :=
  statement_of_context (fun h => of_decide_eq_true h) rfl rfl
theorem heldCommandIssue (c : Nat) : Statement (.heldCommandIssue c) :=
  statement_of_context (fun h => of_decide_eq_true h) rfl rfl
theorem ringPoll (c : Nat) (tick : Nat) : Statement (.ringPoll c tick) :=
  statement_of_context (fun h => of_decide_eq_true (and_left h)) rfl rfl
theorem claim (p : Path) (c : Nat) : Statement (.claim p c) :=
  statement_of_context (fun h => of_decide_eq_true (and_right h)) rfl rfl
theorem arm (p : Path) (c : Nat) : Statement (.arm p c) :=
  statement_of_context (fun h => of_decide_eq_true (and_right h)) rfl rfl
theorem disarm (p : Path) (c : Nat) : Statement (.disarm p c) :=
  statement_of_context (fun h => of_decide_eq_true (and_right h)) rfl rfl
theorem drain (p : Path) (c : Nat) : Statement (.drain p c) :=
  statement_of_context (fun h => of_decide_eq_true (and_right h)) rfl rfl
theorem halt (p : Path) (c : Nat) : Statement (.halt p c) :=
  statement_of_context (fun h => of_decide_eq_true (and_right h)) rfl rfl
theorem resume (p : Path) (c : Nat) : Statement (.resume p c) :=
  statement_of_context (fun h => of_decide_eq_true (and_right h)) rfl rfl
theorem release (p : Path) (c : Nat) : Statement (.release p c) :=
  statement_of_context (fun h => of_decide_eq_true (and_right h)) rfl rfl
theorem ringContinue (p : Path) (c : Nat) : Statement (.ringContinue p c) :=
  statement_of_context (fun h => of_decide_eq_true (and_right h)) rfl rfl
theorem ringSkip (p : Path) (c : Nat) : Statement (.ringSkip p c) :=
  statement_of_context (fun h => of_decide_eq_true (and_right h)) rfl rfl
theorem ringFlush (p : Path) (c : Nat) : Statement (.ringFlush p c) :=
  statement_of_context (fun h => of_decide_eq_true (and_right h)) rfl rfl
theorem poolCreate (p : Path) (pool : Nat) : Statement (.poolCreate p pool) := statement_of_none rfl rfl
theorem poolActive (pool : Nat) : Statement (.poolActive pool) := statement_of_none rfl rfl
theorem poolDelete (p : Path) (pool : Nat) : Statement (.poolDelete p pool) := statement_of_none rfl rfl
theorem groupCreate (p : Path) : Statement (.groupCreate p) := statement_of_none rfl rfl
theorem groupDelete (p : Path) : Statement (.groupDelete p) := statement_of_none rfl rfl
theorem pair (p : Path) (info : PartnerInfo) : Statement (.pair p info) := statement_of_none rfl rfl
theorem pairingComplete : Statement (.pairingComplete) := statement_of_none rfl rfl
theorem unpair (p : Path) (info : PartnerInfo) : Statement (.unpair p info) := statement_of_none rfl rfl
theorem handback (p : Path) : Statement (.handback p) := statement_of_none rfl rfl
theorem handbackTransfer : Statement (.handbackTransfer) := statement_of_none rfl rfl
theorem unitQuarantine (p : Path) : Statement (.unitQuarantine p) := statement_of_none rfl rfl
theorem unitReturn (p : Path) : Statement (.unitReturn p) := statement_of_none rfl rfl
theorem unitReturned (unit : Nat) (passed : Bool) : Statement (.unitReturned unit passed) := statement_of_none rfl rfl
theorem unitSleep (p : Path) : Statement (.unitSleep p) := statement_of_none rfl rfl
theorem slotDiscard (p : Path) (slot : Nat) : Statement (.slotDiscard p slot) := statement_of_none rfl rfl
theorem slotVerify (p : Path) (slot : Nat) : Statement (.slotVerify p slot) := statement_of_none rfl rfl
theorem restore (p : Path) (image : Bytes) : Statement (.restore p image) := statement_of_none rfl rfl
theorem restoreFinish : Statement (.restoreFinish) := statement_of_none rfl rfl
theorem debugClose (p : Path) : Statement (.debugClose p) := statement_of_none rfl rfl
theorem warmReset (p : Path) : Statement (.warmReset p) := statement_of_none rfl rfl
theorem engineQuarantine (p : Path) : Statement (.engineQuarantine p) := statement_of_none rfl rfl
theorem latchCtrl (p : Path) : Statement (.latchCtrl p) := statement_of_none rfl rfl
theorem latchCapture : Statement (.latchCapture) := statement_of_none rfl rfl
theorem descWrite (p : Path) (c : Nat) (data : Bytes) : Statement (.descWrite p c data) :=
  statement_of_context (fun h => of_decide_eq_true (and_right (and_left h))) rfl rfl
theorem slotEntryWrite (p : Path) (c : Nat) (data : Bytes) : Statement (.slotEntryWrite p c data) :=
  statement_of_context (fun h => of_decide_eq_true (and_right (and_left h))) rfl rfl
theorem debugRequest (p : Path) (data : Bytes) : Statement (.debugRequest p data) := statement_of_none rfl rfl
theorem debugResponse (p : Path) (data : Bytes) : Statement (.debugResponse p data) := statement_of_none rfl rfl
theorem debugChallengeExpiry (p : Path) : Statement (.debugChallengeExpiry p) := statement_of_none rfl rfl
theorem debugTimeout (p : Path) : Statement (.debugTimeout p) := statement_of_none rfl rfl
theorem expertMap (p : Path) (c : Nat) (data : Bytes) : Statement (.expertMap p c data) :=
  statement_of_context (fun h => of_decide_eq_true (and_right (and_left h))) rfl rfl
theorem expertCount (p : Path) (c : Nat) (data : Bytes) : Statement (.expertCount p c data) :=
  statement_of_context (fun h => of_decide_eq_true (and_right (and_left h))) rfl rfl
theorem bias (p : Path) (c : Nat) (data : Bytes) : Statement (.bias p c data) :=
  statement_of_context (fun h => of_decide_eq_true (and_right (and_left h))) rfl rfl
theorem modelWidthWrite (p : Path) (c : Nat) (inner : Bool) (data : Bytes) : Statement (.modelWidthWrite p c inner data) :=
  statement_of_context (fun h => of_decide_eq_true (and_right (and_left h))) rfl rfl
theorem lsPages (p : Path) (c : Nat) (extents : Bool) (data : Bytes) : Statement (.lsPages p c extents data) :=
  statement_of_context (fun h => of_decide_eq_true (and_right (and_left h))) rfl rfl
theorem regions (p : Path) (c : Nat) (data : Bytes) : Statement (.regions p c data) :=
  statement_of_context (fun h => of_decide_eq_true (and_right (and_left h))) rfl rfl
theorem descArea (p : Path) (c : Nat) (data : Bytes) : Statement (.descArea p c data) :=
  statement_of_context (fun h => of_decide_eq_true (and_right (and_left h))) rfl rfl
theorem srcWindows (p : Path) (c : Nat) (data : Bytes) : Statement (.srcWindows p c data) :=
  statement_of_context (fun h => of_decide_eq_true (and_right (and_left h))) rfl rfl
theorem detLevel (p : Path) (c : Nat) (data : Bytes) : Statement (.detLevel p c data) :=
  statement_of_context (fun h => of_decide_eq_true (and_right (and_left h))) rfl rfl
theorem deadlineBeats (p : Path) (c : Nat) (data : Bytes) : Statement (.deadlineBeats p c data) :=
  statement_of_context (fun h => of_decide_eq_true (and_right (and_left h))) rfl rfl
theorem beatRole (p : Path) (data : Bytes) : Statement (.beatRole p data) := statement_of_none rfl rfl
theorem fabricEnable (p : Path) (data : Bytes) : Statement (.fabricEnable p data) := statement_of_none rfl rfl
theorem mctpGrant (p : Path) (data : Bytes) : Statement (.mctpGrant p data) := statement_of_none rfl rfl
theorem apertures (p : Path) (data : Bytes) : Statement (.apertures p data) := statement_of_none rfl rfl
theorem startPolicy (p : Path) (data : Bytes) : Statement (.startPolicy p data) := statement_of_none rfl rfl
theorem ownerKeyHash (p : Path) (data : Bytes) : Statement (.ownerKeyHash p data) := statement_of_none rfl rfl
theorem flagWriteClear (p : Path) (index : Nat) (sub : Nat) (data : Bytes) : Statement (.flagWriteClear p index sub data) :=
  statement_of_none rfl rfl
theorem read (p : Path) (ver : Nat) (index : Nat) (sub : Nat) : Statement (.read p ver index sub) :=
  statement_of_none rfl rfl
theorem write (p : Path) (ver : Nat) (index : Nat) (sub : Nat) (data : Bytes) : Statement (.write p ver index sub data) :=
  statement_of_none rfl rfl
theorem readSeg (p : Path) (ver : Nat) (index : Nat) (sub : Nat) (off : Nat) (len : Nat) : Statement (.readSeg p ver index sub off len) :=
  statement_of_none rfl rfl
theorem writeSeg (p : Path) (ver : Nat) (index : Nat) (sub : Nat) (off : Nat) (final : Bool) (data : Bytes) : Statement (.writeSeg p ver index sub off final data) :=
  statement_of_none rfl rfl
theorem dictSegmentAbandoned (index : Nat) (sub : Nat) : Statement (.dictSegmentAbandoned index sub) :=
  statement_of_none rfl rfl
theorem enumerate (p : Path) (ver : Nat) (index : Nat) (off : Nat) : Statement (.enumerate p ver index off) :=
  statement_of_none rfl rfl
theorem flagCounts (p : Path) (ver : Nat) (index : Nat) (sub : Nat) : Statement (.flagCounts p ver index sub) :=
  statement_of_none rfl rfl
theorem flagClear (p : Path) (ver : Nat) (index : Nat) (sub : Nat) (mask : Nat) : Statement (.flagClear p ver index sub mask) :=
  statement_of_none rfl rfl
theorem readBatch (p : Path) (ver : Nat) (entries : List (Nat × Nat)) : Statement (.readBatch p ver entries) :=
  statement_of_none rfl rfl
theorem mailboxPoll (m : Nat) : Statement (.mailboxPoll m) := statement_of_none rfl rfl
theorem entdaa (addr : Nat) : Statement (.entdaa addr) := statement_of_none rfl rfl
theorem setEndpointId (b : Binding) (eid : Nat) : Statement (.setEndpointId b eid) := statement_of_none rfl rfl
theorem getEndpointId (b : Binding) : Statement (.getEndpointId b) := statement_of_none rfl rfl
theorem getMctpVersionSupport (b : Binding) : Statement (.getMctpVersionSupport b) := statement_of_none rfl rfl
theorem getMessageTypeSupport (b : Binding) : Statement (.getMessageTypeSupport b) := statement_of_none rfl rfl
theorem getVendorDefinedMessageSupport (b : Binding) : Statement (.getVendorDefinedMessageSupport b) :=
  statement_of_none rfl rfl
theorem getVersion : Statement (.getVersion) := statement_of_none rfl rfl
theorem getCapabilities : Statement (.getCapabilities) := statement_of_none rfl rfl
theorem negotiateAlgorithms : Statement (.negotiateAlgorithms) := statement_of_none rfl rfl
theorem getDigests : Statement (.getDigests) := statement_of_none rfl rfl
theorem getCertificate (slot : Nat) (off : Nat) (len : Nat) : Statement (.getCertificate slot off len) :=
  statement_of_none rfl rfl
theorem challenge (slot : Nat) (nonce : Bytes) : Statement (.challenge slot nonce) := statement_of_none rfl rfl
theorem getMeasurements (index : Nat) (signed : Bool) (nonce : Bytes) : Statement (.getMeasurements index signed nonce) :=
  statement_of_none rfl rfl
theorem windowLaunch (c : Nat) (tag : Nat) : Statement (.windowLaunch c tag) :=
  statement_of_context (fun h => of_decide_eq_true (and_left h)) rfl rfl
theorem admissionRetry (c : Nat) (tag : Nat) : Statement (.admissionRetry c tag) :=
  statement_of_context (fun h => of_decide_eq_true (and_left h)) rfl rfl
theorem stagingFillDone (c : Nat) (set : Nat) (cold : Bytes) : Statement (.stagingFillDone c set cold) :=
  statement_of_context (fun h => of_decide_eq_true (and_left h)) rfl rfl
theorem score (c : Nat) (tag : Nat) (rows : Bytes) : Statement (.score c tag rows) :=
  statement_of_context (fun h => of_decide_eq_true (and_left h)) rfl rfl
theorem select (c : Nat) (tag : Nat) (mask : Bytes) : Statement (.select c tag mask) :=
  statement_of_context (fun h => of_decide_eq_true (and_left h)) rfl rfl
theorem sortAndPack (c : Nat) (tag : Nat) : Statement (.sortAndPack c tag) :=
  statement_of_context (fun h => of_decide_eq_true (and_left h)) rfl rfl
theorem bufferGrant (pool : Nat) : Statement (.bufferGrant pool) := statement_of_none rfl rfl
theorem send (c : Nat) (tag : Nat) : Statement (.send c tag) :=
  statement_of_context (fun h => of_decide_eq_true (and_left h)) rfl rfl
theorem landingCreditGrant (c : Nat) (node : Nat) (flits : Nat) : Statement (.landingCreditGrant c node flits) :=
  statement_of_context (fun h => of_decide_eq_true (and_left (and_left h))) rfl rfl
theorem dispatchRecord (rec : Record) (sender : Nat) : Statement (.dispatchRecord rec sender) := statement_of_none rfl rfl
theorem relayRecord (rec : Record) (sender : Nat) : Statement (.relayRecord rec sender) := statement_of_none rfl rfl
theorem forwardedMarker (c : Nat) (tag : Nat) (src : Nat) : Statement (.forwardedMarker c tag src) :=
  statement_of_context (fun h => of_decide_eq_true (and_left (and_left h))) rfl rfl
theorem endOfSendMarkerRx (mk : Marker) : Statement (.endOfSendMarkerRx mk) := statement_of_none rfl rfl
theorem remoteRefused (c : Nat) (tag : Nat) (node : Nat) : Statement (.remoteRefused c tag node) :=
  statement_of_context (fun h => of_decide_eq_true (and_left (and_left h))) rfl rfl
theorem closeNotice (c : Nat) (tag : Nat) (src : Nat) (toRelay : Bool) : Statement (.closeNotice c tag src toRelay) :=
  statement_of_context (fun h => of_decide_eq_true (and_left (and_left h))) rfl rfl
theorem horizon (c : Nat) (tag : Nat) : Statement (.horizon c tag) :=
  statement_of_context (fun h => of_decide_eq_true (and_left h)) rfl rfl
theorem workItemStart (tile : Nat) : Statement (.workItemStart tile) := statement_of_none rfl rfl
theorem workItemCommit (tile : Nat) : Statement (.workItemCommit tile) := statement_of_none rfl rfl
theorem weightGradAdd (c : Nat) (item : Nat) : Statement (.weightGradAdd c item) :=
  statement_of_context (fun h => of_decide_eq_true h) rfl rfl
theorem returnRecord (rec : Record) : Statement (.returnRecord rec) := statement_of_none rfl rfl
theorem windowOutputDelivered (c : Nat) (tag : Nat) : Statement (.windowOutputDelivered c tag) :=
  statement_of_context (fun h => of_decide_eq_true (and_left h)) rfl rfl
theorem deadlineBeat (c : Nat) (tag : Nat) (rows : Bytes) : Statement (.deadlineBeat c tag rows) :=
  statement_of_context (fun h => of_decide_eq_true (and_left h)) rfl rfl
theorem combineTail (c : Nat) (tag : Nat) : Statement (.combineTail c tag) :=
  statement_of_context (fun h => of_decide_eq_true (and_left h)) rfl rfl
theorem caramelUpdate (c : Nat) : Statement (.caramelUpdate c) := statement_of_context (fun h => of_decide_eq_true h) rfl rfl
theorem counterPublication (c : Nat) : Statement (.counterPublication c) :=
  statement_of_context (fun h => of_decide_eq_true h) rfl rfl
theorem collEntryMessage (c : Nat) (rank : Nat) (entry : CollEntry) : Statement (.collEntryMessage c rank entry) :=
  statement_of_context (fun h => of_decide_eq_true (and_left h)) rfl rfl
theorem collData (c : Nat) (rank : Nat) (data : Bytes) : Statement (.collData c rank data) :=
  statement_of_context (fun h => of_decide_eq_true (and_left (and_left h))) rfl rfl
theorem collDoneReport (c : Nat) (rank : Nat) : Statement (.collDoneReport c rank) :=
  statement_of_context (fun h => of_decide_eq_true (and_left h)) rfl rfl
theorem collectiveComplete (c : Nat) : Statement (.collectiveComplete c) :=
  statement_of_context (fun h => of_decide_eq_true h) rfl rfl
theorem abortNotice (c : Nat) (rank : Nat) (code : Nat) (seq : Nat) (candidate : Nat) : Statement (.abortNotice c rank code seq candidate) :=
  statement_of_context (fun h => of_decide_eq_true (and_left (and_left (and_left h)))) rfl rfl
theorem collTimeout (c : Nat) : Statement (.collTimeout c) := statement_of_context (fun h => of_decide_eq_true h) rfl rfl
theorem abortSettle (c : Nat) : Statement (.abortSettle c) := statement_of_context (fun h => of_decide_eq_true h) rfl rfl
theorem load (req : RemoteReq) : Statement (.load req) := statement_of_none rfl rfl
theorem store (req : RemoteReq) : Statement (.store req) := statement_of_none rfl rfl
theorem flaggedStore (c : Nat) (addr : Nat) (data : Bytes) : Statement (.flaggedStore c addr data) :=
  statement_of_context (fun h => of_decide_eq_true (and_left (and_left h))) rfl rfl
theorem flaggedStoreRelease (c : Nat) (id : Nat) : Statement (.flaggedStoreRelease c id) :=
  statement_of_context (fun h => of_decide_eq_true h) rfl rfl
theorem add (req : RemoteReq) (recent : Bool) : Statement (.add req recent) := statement_of_none rfl rfl
theorem min (req : RemoteReq) : Statement (.min req) := statement_of_none rfl rfl
theorem max (req : RemoteReq) : Statement (.max req) := statement_of_none rfl rfl
theorem cas (req : RemoteReq) : Statement (.cas req) := statement_of_none rfl rfl
theorem copyChunk (req : RemoteReq) : Statement (.copyChunk req) := statement_of_none rfl rfl
theorem lineQueueService (line : Nat) : Statement (.lineQueueService line) := statement_of_none rfl rfl
theorem remoteResponse (id : Nat) (status : Nat) (data : Bytes) : Statement (.remoteResponse id status data) :=
  statement_of_none rfl rfl
theorem hostApertureAccess (m : Nat) (off : Nat) (write : Bool) (size : Nat) (data : Bytes) : Statement (.hostApertureAccess m off write size data) :=
  statement_of_none rfl rfl
theorem remoteTimeout (id : Nat) : Statement (.remoteTimeout id) := statement_of_none rfl rfl
theorem deadNodeNotice (node : Nat) : Statement (.deadNodeNotice node) := statement_of_none rfl rfl
theorem routeBlocked (id : Nat) : Statement (.routeBlocked id) := statement_of_none rfl rfl
theorem transitForward (link : Nat) (tag : Nat) (flit : Bytes) (src : Nat) : Statement (.transitForward link tag flit src) :=
  statement_of_link (fun h => of_decide_eq_true (and_left (and_left (and_left h)))) rfl rfl
theorem bypassFrame (link : Nat) (tag : Nat) (flit : Bytes) (src : Nat) : Statement (.bypassFrame link tag flit src) :=
  statement_of_link (fun h => of_decide_eq_true (and_left (and_left (and_left h)))) rfl rfl
theorem frameRx (link : Nat) (fecOk : Bool) (corrected : Nat) (tag : Nat) (flit : Bytes) : Statement (.frameRx link fecOk corrected tag flit) :=
  statement_of_link (fun h => of_decide_eq_true (and_left (and_left h))) rfl rfl
theorem ctrlFrame (link : Nat) (frame : CtrlFrame) : Statement (.ctrlFrame link frame) :=
  statement_of_link (fun h => of_decide_eq_true h) rfl rfl
theorem laneFailed (link : Nat) (lane : Nat) : Statement (.laneFailed link lane) :=
  statement_of_link (fun h => of_decide_eq_true (and_left h)) rfl rfl
theorem linkRetrain (link : Nat) : Statement (.linkRetrain link) := statement_of_link (fun h => of_decide_eq_true h) rfl rfl
theorem linkTrained (link : Nat) (gen : Nat) (peer : Nat) (delayPs : Nat) : Statement (.linkTrained link gen peer delayPs) :=
  statement_of_link (fun h => of_decide_eq_true (and_left (and_left (and_left (and_left h))))) rfl rfl
theorem linkDelayMeasure (link : Nat) (delayPs : Nat) : Statement (.linkDelayMeasure link delayPs) :=
  statement_of_link (fun h => of_decide_eq_true (and_left h)) rfl rfl
theorem bypassAnnouncement (a : Announcement) : Statement (.bypassAnnouncement a) := statement_of_none rfl rfl
theorem returnAnnouncement (node : Nat) : Statement (.returnAnnouncement node) := statement_of_none rfl rfl
theorem takeoverAnnouncement (lost : Nat) (serving : Nat) : Statement (.takeoverAnnouncement lost serving) :=
  statement_of_none rfl rfl
theorem beatBoundary : Statement (.beatBoundary) := statement_of_none rfl rfl
theorem beatFlit (link : Nat) (flit : BeatFlit) : Statement (.beatFlit link flit) :=
  statement_of_link (fun h => of_decide_eq_true h) rfl rfl
theorem beatLost : Statement (.beatLost) := statement_of_none rfl rfl
theorem holdoverLimitPassed : Statement (.holdoverLimitPassed) := statement_of_none rfl rfl
theorem beatSkew (errorPs : Int) : Statement (.beatSkew errorPs) := statement_of_none rfl rfl
theorem beatInFrame (count : Nat) (crc : Nat) (errorPs : Int) : Statement (.beatInFrame count crc errorPs) :=
  statement_of_none rfl rfl
theorem heartbeat (beat : Nat) (words : List Nat) : Statement (.heartbeat beat words) := statement_of_none rfl rfl
theorem heartbeatLoss : Statement (.heartbeatLoss) := statement_of_none rfl rfl
theorem probe (node : Nat) : Statement (.probe node) := statement_of_none rfl rfl
theorem probeTimeout : Statement (.probeTimeout) := statement_of_none rfl rfl
theorem yieldMessage : Statement (.yieldMessage) := statement_of_none rfl rfl
theorem takeoverComplete : Statement (.takeoverComplete) := statement_of_none rfl rfl
theorem mirrorRecord (rec : MirrorRec) : Statement (.mirrorRecord rec) := statement_of_none rfl rfl
theorem mirrorLag : Statement (.mirrorLag) := statement_of_none rfl rfl
theorem cellFault (tile : Nat) (cell : Nat) (kind : CellFaultKind) : Statement (.cellFault tile cell kind) :=
  statement_of_none rfl rfl
theorem scrubPass (hbm : Bool) (ms : Nat) (findings : List ScrubFinding) : Statement (.scrubPass hbm ms findings) :=
  statement_of_none rfl rfl
theorem wipeComplete (extent : Bool) (unit : Nat) (ok : Bool) : Statement (.wipeComplete extent unit ok) :=
  statement_of_none rfl rfl
theorem sqCoreFault (core : Nat) : Statement (.sqCoreFault core) := statement_of_none rfl rfl
theorem progressWordAlarm (core : Nat) : Statement (.progressWordAlarm core) := statement_of_none rfl rfl
theorem sqCoreRestart (core : Nat) : Statement (.sqCoreRestart core) := statement_of_none rfl rfl
theorem profileChange : Statement (.profileChange) := statement_of_none rfl rfl
theorem noticeIntervalEnd : Statement (.noticeIntervalEnd) := statement_of_none rfl rfl
theorem crumbExpiry (c : Nat) (tag : Nat) : Statement (.crumbExpiry c tag) :=
  statement_of_context (fun h => of_decide_eq_true (and_left h)) rfl rfl
theorem vaonPowerOn : Statement (.vaonPowerOn) := statement_of_none rfl rfl
theorem resetNLow : Statement (.resetNLow) := statement_of_none rfl rfl
theorem resetNHigh : Statement (.resetNHigh) := statement_of_none rfl rfl
theorem corePgFall : Statement (.corePgFall) := statement_of_none rfl rfl
theorem pwrAlertNLow : Statement (.pwrAlertNLow) := statement_of_none rfl rfl
theorem pwrAlertNRelease : Statement (.pwrAlertNRelease) := statement_of_none rfl rfl
theorem powerControl (beatMw : Nat) (meanMw : Nat) : Statement (.powerControl beatMw meanMw) := statement_of_none rfl rfl
theorem thermalControl (temps : List Int) : Statement (.thermalControl temps) := statement_of_none rfl rfl
theorem startStep (result : StepResult) : Statement (.startStep result) := statement_of_none rfl rfl
theorem corePgRise : Statement (.corePgRise) := statement_of_none rfl rfl
theorem probeAnswer : Statement (.probeAnswer) := statement_of_none rfl rfl
theorem mirrorAcknowledgement (seq : Nat) : Statement (.mirrorAcknowledgement seq) := statement_of_none rfl rfl
theorem tensorMoverDone (c : Nat) (idx : Nat) : Statement (.tensorMoverDone c idx) :=
  statement_of_context (fun h => of_decide_eq_true (and_left h)) rfl rfl
theorem slotVerifyEnd : Statement (.slotVerifyEnd) := statement_of_none rfl rfl

end Sys2Proof.Laws.Operands
end

