-- ==== Sys2Proof/Laws/Ring.lean ====
section
/-! SUPPORT. What taking the descriptor at the front of a ring can do: run, be refused, or leave everything as it is. -/

namespace Sys2Proof.Machine

open Sys2Proof

/-- A list of checks passes when its two parts pass. -/
theorem firstCode_append (a b : List (Option Nat)) : firstCode (a ++ b) = none ↔ firstCode a = none ∧ firstCode b = none := by
  simp only [firstCode, List.filterMap_append, List.head?_append]
  cases (List.filterMap id a).head? <;> simp

/-- A list of checks passes when the first passes and the rest do. -/
theorem firstCode_cons (a : Option Nat) (b : List (Option Nat)) : firstCode (a :: b) = none ↔ a = none ∧ firstCode b = none := by
  cases a <;> simp [firstCode]

/-- A condition that a check needs holds when the check passes. -/
theorem need_none (b : Bool) (code : Nat) : need b code = none ↔ b = true := by
  cases b <;> simp [need]

/-- Nothing at the front: nothing happens. -/
theorem State.takeFront_none {s : State} {c : Nat} (mine : Bytes → Bool) (go : Nat → Bytes → State)
    (h : s.front c = none) : s.takeFront c mine go = s := by
  simp [State.takeFront, h]

/-- A front descriptor with an opcode that no command has is refused (R400). -/
theorem State.takeFront_unknown {s : State} {c i : Nat} {d : Bytes} (mine : Bytes → Bool) (go : Nat → Bytes → State)
    (h : s.front c = some (i, d)) (ho : opcodes.contains (fld d 0 1) = false) :
    s.takeFront c mine go = s.refuseCmd c i d 0x13 := by
  simp only [State.takeFront, h, ho]; rfl

/-- A front descriptor of the command asked for runs. -/
theorem State.takeFront_mine {s : State} {c i : Nat} {d : Bytes} {mine : Bytes → Bool} (go : Nat → Bytes → State)
    (h : s.front c = some (i, d)) (ho : opcodes.contains (fld d 0 1) = true) (hm : mine d = true) :
    s.takeFront c mine go = go i d := by
  simp only [State.takeFront, h, ho, hm]; rfl

/-- A front descriptor of another command stays. -/
theorem State.takeFront_other {s : State} {c i : Nat} {d : Bytes} {mine : Bytes → Bool} (go : Nat → Bytes → State)
    (h : s.front c = some (i, d)) (ho : opcodes.contains (fld d 0 1) = true) (hm : mine d = false) :
    s.takeFront c mine go = s := by
  simp only [State.takeFront, h, ho, hm]; rfl

/-- Everything that taking a front descriptor can do. -/
theorem State.takeFront_cases (s : State) (c : Nat) (mine : Bytes → Bool) (go : Nat → Bytes → State) :
    s.takeFront c mine go = s ∨
      ∃ i d, s.front c = some (i, d) ∧ (s.takeFront c mine go = s.refuseCmd c i d 0x13 ∨ s.takeFront c mine go = go i d) := by
  cases h : s.front c with
  | none => exact .inl (s.takeFront_none mine go h)
  | some p =>
    obtain ⟨i, d⟩ := p
    cases ho : opcodes.contains (fld d 0 1) with
    | false => exact .inr ⟨i, d, rfl, .inl (s.takeFront_unknown mine go h ho)⟩
    | true =>
      cases hm : mine d with
      | false => exact .inl (s.takeFront_other go h ho hm)
      | true => exact .inr ⟨i, d, rfl, .inr (s.takeFront_mine go h ho hm)⟩

/-- A command whose checks all pass is accepted and runs (R400). -/
theorem State.issueDesc_pass {s : State} {c i : Nat} {d : Bytes} {checks : List (Option Nat)} (run : State → State)
    (ho : opcodes.contains (fld d 0 1) = true) (hc : firstCode checks = none) :
    s.issueDesc c i d checks run = run (s.accept c i d) := by
  simp only [State.issueDesc, ho, hc]; rfl

/-- A command that fails a check is refused with the code of the first that fails (R400). -/
theorem State.issueDesc_fail {s : State} {c i : Nat} {d : Bytes} {checks : List (Option Nat)} (run : State → State)
    {code : Nat} (ho : opcodes.contains (fld d 0 1) = true) (hc : firstCode checks = some code) :
    s.issueDesc c i d checks run = s.refuseCmd c i d code := by
  simp only [State.issueDesc, ho, hc]; rfl

/-- Everything that issuing a descriptor can do: refuse it, or accept it and run. -/
theorem State.issueDesc_cases (s : State) (c i : Nat) (d : Bytes) (checks : List (Option Nat)) (run : State → State) :
    (∃ code, s.issueDesc c i d checks run = s.refuseCmd c i d code) ∨
      (firstCode checks = none ∧ s.issueDesc c i d checks run = run (s.accept c i d)) := by
  cases ho : opcodes.contains (fld d 0 1) with
  | false => exact .inl ⟨0x13, by simp only [State.issueDesc, ho]; rfl⟩
  | true =>
    cases hc : firstCode checks with
    | none => exact .inr ⟨rfl, s.issueDesc_pass run ho hc⟩
    | some code => exact .inl ⟨code, s.issueDesc_fail run ho hc⟩

end Sys2Proof.Machine
end

