-- ==== Sys2Proof/Tests/Slice0.lean ====
section
/-! SUPPORT. Tests: ill-formed commands that WellFormed refuses; for every statement with hypotheses, states and operands that
meet them, clause by clause; and numbers worked out from the manual. -/

namespace Sys2Proof.Tests

open Sys2Proof Sys2Proof.Machine

set_option Elab.async false
set_option linter.unusedVariables false

/-! ### Small states -/

/-- Objects set. -/
def withObjs (s : State) (l : List (Nat × Nat)) : State := l.foldl (fun s e => s.put e.1 e.2) s

/-- The engine in service, as node 5 of the torus, with one HBM stack of 32 GiB and a host behind module 0. -/
def up : State :=
  withObjs { State.reset with startStep := none, stackCaps := [32, 0, 0, 0], haModules := [1, 0, 0, 0, 0, 0, 0, 0] }
    [(O_ENGINE_STATE, 1), (O_NODE_ID, 5), (O_HBM_PORTS_UP, 1)]

/-- Context 0 in a state, with a small model of 8 experts: an ENGINE region for descriptors, a LINEAR one, and an ENGINE region
for the slot table. -/
def inState (st : Nat) (f : Ctx → Ctx) : State :=
  (withObjs up [(O_CTX_STATE, st), (O_EXPERT_COUNT, 8), (O_HIDDEN_WIDTH, 128), (O_INNER_WIDTH, 128), (O_BIND_INPUT + 1, 0), (O_BIND_INPUT + 7, 7),
    (O_DESC_AREA, 0), (O_SLOT_TABLE_AREA, 2)]).setCtx 0
      (f { Ctx.init with regions := [⟨5 * 2 ^ 49 + 0x10000, 0x10000, 2⟩, ⟨5 * 2 ^ 49 + 0x200000, 0x100000, 0⟩,
        ⟨5 * 2 ^ 49 + 0x400000, 0x10000, 2⟩] })

/-- An image of 64 bytes: fields as first byte, length and value. -/
def image (fs : List (Nat × Nat × Nat)) : Bytes :=
  (List.range 64).map fun i =>
    match fs.find? fun f => f.1 ≤ i && i < f.1 + f.2.1 with
    | some f => BitVec.ofNat 8 (f.2.2 / 256 ^ (i - f.1))
    | none => 0

/-- A command descriptor. -/
def desc (op : Nat) (fs : List (Nat × Nat × Nat)) : Bytes := image ((0, 1, op) :: fs)

/-- A ring with a descriptor in front, at index 0, of which PRODUCER covers 16. -/
def ringOf (d : Bytes) : Ring := { Ring.init with fetched := [(0, d)], producer := 16 }

/-- Context 0 in a state with a descriptor in front of its ring. -/
def front (st : Nat) (d : Bytes) (f : Ctx → Ctx) : State := inState st fun x => f { x with ring := ringOf d }

/-- The address of data in the engine's own memory. -/
def data : Nat := 5 * 2 ^ 49 + 0x200000

/-- A state with the images of handles 0 and 1 in place: 4 rows of 16 FP32 codes, 64 bytes apart. -/
def handled (s : State) : State :=
  let t : Bytes := image [(0, 8, data), (8, 1, 0x70), (9, 1, 2), (16, 4, 16), (20, 4, 4), (24, 4, 1), (28, 4, 1),
    (32, 4, 1), (36, 4, 64)]
  ((s.modCtx 0 fun x => { x with handles := [0, 1] }).wr (5 * 2 ^ 49 + 0x10000) t).wr (5 * 2 ^ 49 + 0x10040) t

/-- A slot entry in the table, at position `pos`. -/
def entry (s : State) (pos : Nat) (fs : List (Nat × Nat × Nat)) : State :=
  (s.wr (5 * 2 ^ 49 + 0x400000 + 64 * pos) (image fs)).modCtx 0 fun x =>
    { x with slotMarks := x.slotMarks ++ [⟨pos, true, true⟩] }

/-- A window of 4 tokens of context 0, its sequence 0, half A. -/
def win : Window :=
  { tag := 0, bwd := false, idx := 0, layerSlot := 0, mb := 0, step := 0, mark := 0, tokens := 4, inAddr := data,
    outAddr := data, statsAddr := 0, maskAddr := 0, summaryAddr := 0, dzAddr := 0, scoreAddr := data, hostmap := 0,
    issuedBeat := 0, readyBeat := 0, launchAt := none, dueBeat := 0, launched := none, deadline := 0, deferred := false,
    phase := .issued, slot := 0, map := [], dark := [], enable := 0, sprinkle := 0, bias := none, rows := [], logits := [],
    quant := none, spillPasses := 0, ledger := none, headers := [], nodeTable := [], flows := [], ret := [], outRows := [],
    statRows := [], dzRows := [], closedShort := false }

/-- The copy of a token, sent to expert 0 here and not yet answered. -/
def copy0 : LedgerCopy := ⟨0, 5, 1, false, false, 0, 0, 0, 0, 0⟩

/-- A routing ledger of one token with one copy. -/
def led : Ledger :=
  { tag := 0, layerSlot := 0, mb := 0, step := 0, tokens := 1, topK := 1, slot := 0, closed := false, bwdDone := false,
    toks := [⟨1, 1, false, false, [copy0]⟩] }

/-- A collective of context 0 on group 1. -/
def coll (op phase : Nat) : Coll :=
  ⟨0, 1, op, 0, 0, 0, 4, 0, 1, 7, phase, 0, [], [], [], false, [], 0, 0, [], 0, false⟩

/-- Context 0 RUNNING in a collective; group 1 has nodes 5 and 6, the engine first or, when `last`, second. -/
def collective (last : Bool) (k : Coll) : State :=
  handled { inState 3 (fun x => { x with coll := some k }) with
    groups := [(1, ⟨0, if last then leBytes 2 6 ++ leBytes 2 5 else leBytes 2 5 ++ leBytes 2 6, true, 0⟩)] }

/-- A remote request from node 6 on a line of this engine's Local Store. -/
def req (op : RemoteOp) (size : Nat) : RemoteReq :=
  ⟨0, 6, 0, op, 5 * 2 ^ 49, size, .int32, false, List.replicate size 1, List.replicate size 0, 0⟩

/-- A manifest without shards. -/
def sealedEmpty : Bytes :=
  let h := leBytes 4 0x464D4B43 ++ leBytes 4 1 ++ List.replicate 48 0
  h ++ ckSeal h []

/-- Context 0 RUNNING with a window, in a phase, launched at beat 0 and with its deadline at beat `dl`. -/
def withWin (dl : Nat) (f : Window → Window) : State :=
  inState 3 fun x => { x with windows := [f { win with launched := some 0, deadline := dl, phase := .launched }] }

/-- That window. -/
def winAt (dl : Nat) (f : Window → Window) : Window := f { win with launched := some 0, deadline := dl, phase := .launched }

/-- Context 0 RUNNING in exchange group 1 of nodes 5 and 6. -/
def grouped (f : Ctx → Ctx) : State := { (inState 3 f).put O_EXCHANGE_GROUP 1 with groups := [(1, ⟨0, leBytes 2 5 ++ leBytes 2 6, true, 0⟩)] }

/-- A record of batch tag 0 from node 6. -/
def rcd (flags node : Nat) : Record := ⟨⟨0, node, 0, 0, 0x30, flags, 0, [⟨0, 5, 0⟩]⟩, List.replicate 256 0⟩

/-- Something found by a search, with what holds of it. -/
theorem ex_some {α : Type} {o : Option α} {P : α → Prop} [DecidablePred P] (h : o.any (fun a => decide (P a)) = true) :
    ∃ a, o = some a ∧ P a := by
  cases o with
  | none => simp at h
  | some a => exact ⟨a, rfl, by simpa using h⟩

/-- A work item, a result held back, a remote operation. -/
def item (kind : Nat) (tile : Option Nat) : Item :=
  ⟨0, 0, 0, kind, 0, 0, 0, 0, 1, 1, 1, 0, 1, 1, [], 0, none, tile, 0, 0, 0, 0⟩

def pend (held : Bool) : Pending := ⟨{ req .store 8 with srcNode := 5, addr := 6 * 2 ^ 49 }, 6, held, 0, false, none, none⟩

/-- Link 0 trained, with all its lanes. -/
def linked (st : Nat) : State := withObjs up [(unitKey 0 O_LINK_STATE, st), (unitKey 0 O_LANES_UP, 255)]

/-- The beat follower in a state, at beat 2^40. -/
def beating (st role : Nat) : State := withObjs up [(O_BEAT_STATE, st), (O_BEAT_ROLE, role), (O_BEAT_COUNT, 2 ^ 40)]

/-- The twin in a state, at beat 2^40. -/
def twin (st : Nat) : State := withObjs up [(O_TWIN_STATE, st), (O_BEAT_COUNT, 2 ^ 40), (O_PARTNER_NODE, 6)]

/-- A write of an action object, sent over MCTP, that reaches its action. -/
def actsOk (s : State) (k v : Nat) (act : Eff) : Bool :=
  !s.reqWaits .mctp (k / 256) && (s.reachCheck .mctp (keyReq k (leBytes 1 v))).isNone
    && ((objAt (k / 256) (k % 256)).any fun i => (s.writeCheck .mctp k i (leBytes 1 v)).isNone) && act.isOk

theorem acts_of {s : State} {k v : Nat} {act : Eff} (h : actsOk s k v act = true) : ∃ i t, Acts s .mctp k v i act t := by
  simp only [actsOk, Bool.and_eq_true, Bool.not_eq_true', Option.isNone_iff_eq_none] at h
  obtain ⟨⟨⟨h1, h2⟩, h3⟩, h4⟩ := h
  cases ho : objAt (k / 256) (k % 256) with
  | none => simp [ho] at h3
  | some i =>
    cases ha : act with
    | error e => simp [ha, Except.isOk, Except.toBool] at h4
    | ok t => exact ⟨i, t, ⟨h1, nofun, h2, ho⟩, by simpa [ho] using h3, rfl⟩

theorem acts_in {P : Prop} {s : State} {k v : Nat} {act : Eff} (hp : P) (h : actsOk s k v act = true) :
    ∃ i t, P ∧ Acts s .mctp k v i act t :=
  let ⟨i, t, h⟩ := acts_of h
  ⟨i, t, hp, h⟩

/-- A write over MCTP that is accepted. -/
def writeOk (s : State) (k : Nat) (d : Bytes) : Bool :=
  !s.reqWaits .mctp (k / 256) && (s.reachCheck .mctp (keyReq k d)).isNone
    && ((objAt (k / 256) (k % 256)).any fun i => (s.writeObj .mctp k i d Around.none).isOk)

theorem accepted_of {s : State} {k : Nat} {d : Bytes} (h : writeOk s k d = true) :
    ∃ i t, Accepted s .mctp k d Around.none i t := by
  simp only [writeOk, Bool.and_eq_true, Bool.not_eq_true', Option.isNone_iff_eq_none] at h
  obtain ⟨⟨h1, h2⟩, h3⟩ := h
  cases ho : objAt (k / 256) (k % 256) with
  | none => simp [ho] at h3
  | some i =>
    cases ha : s.writeObj .mctp k i d Around.none with
    | error e => simp [ho, ha, Except.isOk, Except.toBool] at h3
    | ok t => exact ⟨i, t, ⟨h1, nofun, h2, ho⟩, ha⟩

/-- A request over MCTP that reaches its object. -/
def reachesOk (s : State) (r : DictReq) : Bool :=
  !s.reqWaits .mctp r.index && (s.reachCheck .mctp r).isNone && (objAt r.index r.sub).isSome

theorem reaches_of {s : State} {r : DictReq} (h : reachesOk s r = true) : ∃ i, Reaches s .mctp r i := by
  simp only [reachesOk, Bool.and_eq_true, Bool.not_eq_true', Option.isNone_iff_eq_none, Option.isSome_iff_exists] at h
  obtain ⟨⟨h1, h2⟩, i, h3⟩ := h
  exact ⟨i, h1, nofun, h2, h3⟩

/-- A context that ARM takes: model, group, pools and a complete slot. -/
def armable : State :=
  entry { withObjs (inState 1 fun x => { x with slotStates := [2, 0] })
      ([(O_EXCHANGE_GROUP, 1), (O_RESERVE_CHECK, 0), (O_STAGE_SETS, 0)] ++ (List.range 8).map fun r => (O_BIND_INPUT + r, 7)) with
    groups := [(1, ⟨0, leBytes 2 5, true, 0⟩)] } 0 [(0, 2, 0xFFFF)]

/-- A pool that CREATE takes. -/
def poolable : State :=
  withObjs (inState 1 fun x => { x with regions := [⟨data, 0x100000, 0⟩, ⟨5 * 2 ^ 49 + 2 ^ 46, 0x100000, 2⟩] })
    [(unitKey 0 O_OWNER_CONTEXT, 0), (unitKey 0 O_BASE, data), (unitKey 0 O_LENGTH, 0x10000),
     (unitKey 0 O_META_BASE, 5 * 2 ^ 49 + 2 ^ 46), (unitKey 0 O_BUF_SIZE_LOG2, 16)]

/-- What a partner reports that PAIR accepts. -/
def partner : PartnerInfo :=
  ⟨true, 5, 0x204, up.current .mctp O_FIRMWARE_RELEASE, 1, false, [], [], [], [], []⟩

theorem pair_ok : actsOk up O_TWIN_CTRL 1 (ctlPair up partner) = true := by
  have h : up.pairRefused partner = false := by
    simp only [State.pairRefused, partner, bne_self_eq_false]
    decide +kernel
  have g : (ctlPair up partner).isOk = true := by
    simp only [ctlPair, h]
    decide +kernel
  simp only [actsOk, g, Bool.and_true]
  decide +kernel

theorem flagWrite_of {s : State} {k : Nat} {d : Bytes} (hf : ((objAt (k / 256) (k % 256)).any fun i => i.isFlags) = true)
    (h : writeOk s k d = true) : ∃ i t, i.isFlags = true ∧ Accepted s .mctp k d Around.none i t := by
  obtain ⟨i, t, h⟩ := accepted_of h
  have ho : objAt (k / 256) (k % 256) = some i := h.1.2.2.2
  exact ⟨i, t, by simpa [ho] using hf, h⟩

/-- A WRITE over MCTP that is accepted, as a request on the path. -/
theorem write_of {s : State} {r : DictReq} {k : Nat} {d : Bytes} (hr : reachesOk s r = true)
    (h : ((objAt r.index r.sub).any fun i => (s.writeObj .mctp k i d Around.none).isOk) = true) :
    ∃ i t, Reaches s .mctp r i ∧ s.writeObj .mctp k i d Around.none = .ok t := by
  obtain ⟨i, hi⟩ := reaches_of hr
  simp only [hi.2.2.2, Option.any_some] at h
  cases ha : s.writeObj .mctp k i d Around.none with
  | error e => simp [ha, Except.isOk, Except.toBool] at h
  | ok t => exact ⟨i, t, hi, ha⟩

/-- A segment that is staged, and the last one, which writes. -/
theorem segment_of {s : State} {r : DictReq} {e : Option Staged} {d : Bytes} (hr : reachesOk s r = true)
    (h : (match stageBytes e .mctp 0 d with | .ok bs => decide (bs.length ≤ stagedMax) | .error _ => false) = true) :
    ∃ i bs, Reaches s .mctp r i ∧ stageBytes e .mctp 0 d = .ok bs ∧ bs.length ≤ stagedMax := by
  obtain ⟨i, hi⟩ := reaches_of hr
  cases hs : stageBytes e .mctp 0 d with
  | error c => simp [hs] at h
  | ok bs => exact ⟨i, bs, hi, rfl, by simpa [hs] using h⟩

theorem final_of {s : State} {r : DictReq} {e : Option Staged} {k : Nat} {d : Bytes} (hr : reachesOk s r = true)
    (h : (match stageBytes e .mctp 0 d with
      | .ok bs => decide (bs.length ≤ stagedMax) && ((objAt r.index r.sub).any fun i =>
          s.mayWrite .mctp k i.access bs && (s.writeObj .mctp k i bs Around.none).isOk)
      | .error _ => false) = true) :
    ∃ i bs t, Reaches s .mctp r i ∧ stageBytes e .mctp 0 d = .ok bs ∧ bs.length ≤ stagedMax ∧
      s.mayWrite .mctp k i.access bs = true ∧ s.writeObj .mctp k i bs Around.none = .ok t := by
  obtain ⟨i, hi⟩ := reaches_of hr
  cases hs : stageBytes e .mctp 0 d with
  | error c => simp [hs] at h
  | ok bs =>
    simp only [hs, hi.2.2.2, Option.any_some, Bool.and_eq_true, decide_eq_true_eq] at h
    cases ha : s.writeObj .mctp k i bs Around.none with
    | error c => simp [ha, Except.isOk, Except.toBool] at h
    | ok t => exact ⟨i, bs, t, hi, rfl, h.1, h.2.1, ha⟩

theorem clear_of {s : State} {r : DictReq} {k v : Nat} (hr : reachesOk s r = true)
    (h : ((objAt r.index r.sub).any fun i => s.writableNow .mctp k i v) = true) :
    ∃ i, Reaches s .mctp r i ∧ s.writableNow .mctp k i v = true := by
  obtain ⟨i, hi⟩ := reaches_of hr
  exact ⟨i, hi, by simpa [hi.2.2.2] using h⟩

/-- An object with what a predicate says of it. -/
theorem object_of {k : Nat} {P : ObjInfo → Bool} {Q : Prop} (h : ((objAt (k / 256) (k % 256)).any P) = true) (hq : Q) :
    ∃ i, objAt (k / 256) (k % 256) = some i ∧ P i = true ∧ Q := by
  cases ho : objAt (k / 256) (k % 256) with
  | none => simp [ho] at h
  | some i => exact ⟨i, rfl, by simpa [ho] using h, hq⟩

theorem transition_of {s : State} {k v : Nat} {Q : Prop} (hr : reachesOk s (keyReq k (leBytes 1 v)) = true)
    (h : ((objAt (k / 256) (k % 256)).any fun i => (s.writeCheck .mctp k i (leBytes 1 v)).isNone) = true) (hq : Q) :
    ∃ i, Reaches s .mctp (keyReq k (leBytes 1 v)) i ∧ s.writeCheck .mctp k i (leBytes 1 v) = none ∧ Q := by
  obtain ⟨i, hi⟩ := reaches_of hr
  have ho : objAt (k / 256) (k % 256) = some i := hi.2.2.2
  exact ⟨i, hi, by simpa [ho] using h, hq⟩

/-- An object of which a write passes every check before its value's. -/
theorem checked_of {s : State} {k : Nat} {d : Bytes} {Q : Prop}
    (h : ((objAt (k / 256) (k % 256)).any fun i => (s.writeCheck .mctp k i d).isNone) = true) (hq : Q) :
    ∃ i, objAt (k / 256) (k % 256) = some i ∧ s.writeCheck .mctp k i d = none ∧ Q := by
  cases ho : objAt (k / 256) (k % 256) with
  | none => simp [ho] at h
  | some i => exact ⟨i, rfl, by simpa [ho] using h, hq⟩

theorem settled_up : Settled up := by
  intro c hc h
  have ho : tblFind up.objs (ctxKey c O_CTX_STATE) = none := by
    have e : up.objs = [(1179650, 1), (2097153, 1), (2293763, 1), (2424833, 5)] := by decide +kernel
    rw [e]
    have g (n : Nat) (hn : n < 0x800000) : (n == ctxKey c O_CTX_STATE) = false := by
      unfold ctxKey O_CTX_STATE
      simp only [beq_eq_false_iff_ne]
      omega
    simp [tblFind, g]
  have hd : objDefault (ctxKey c O_CTX_STATE) = 0 := by
    unfold objDefault
    rw [normKey_ctx hc (by decide) (by decide)]
    decide +kernel
  simp [State.cstate, State.cget, State.get, tblGet, ho, hd] at h

/-- 64 contexts at D2, and context 0 CONFIGURED at D0. -/
def manyD2 : State :=
  withObjs up ([(O_CTX_STATE, 1), (O_DET_LEVEL, 0)] ++ (List.range 64).flatMap fun c =>
    [(ctxKey (c + 1) O_CTX_STATE, 1), (ctxKey (c + 1) O_DET_LEVEL, 2)])

/-! ### Ill-formed commands are refused -/

/-- Contexts, indices and ticks out of range. -/
theorem test_wf_context : (Instr.nop 1024).wf = false ∧ (Instr.intakeComplete 0 (2 ^ 32)).wf = false ∧
    (Instr.ringPoll 0 256).wf = false ∧ (Instr.claim .mctp 1024).wf = false := by decide

/-- Paths: HA module 8 and node 8000h. -/
theorem test_wf_path : (Instr.groupCreate (.host 8)).wf = false ∧ (Instr.read (.vc0 (2 ^ 15)) 1 0 0).wf = false := by decide

/-- Versions, indices, sub-indices, offsets and masks of dictionary requests; 17 entries of a batch. -/
theorem test_wf_dictionary : (Instr.read .mctp 3 0 0).wf = false ∧ (Instr.flagCounts .mctp 1 (2 ^ 16) 0).wf = false ∧
    (Instr.write .mctp 1 0 256 []).wf = false ∧ (Instr.readSeg .mctp 1 0 0 (2 ^ 32) 0).wf = false ∧
    (Instr.flagClear .mctp 2 0 0 (2 ^ 32)).wf = false ∧
    (Instr.readBatch .mctp 2 (List.replicate 17 (0, 0))).wf = false := by decide

/-- Data longer than any object. -/
theorem test_wf_data (d : Bytes) (h : 2 ^ 24 < d.length) : (Instr.beatRole .mctp d).wf = false := by
  show (true && decide (d.length ≤ 2 ^ 24)) = false
  simp
  omega

/-- Units: pool 256, tile 320, cell 264, core 4, link 12, lane 8, page 8,192, slot 2, staging set 4, start of no unit. -/
theorem test_wf_units : (Instr.poolActive 256).wf = false ∧ (Instr.workItemStart 320).wf = false ∧
    (Instr.cellFault 0 264 .residue).wf = false ∧ (Instr.sqCoreFault 4).wf = false ∧ (Instr.linkRetrain 12).wf = false ∧
    (Instr.laneFailed 0 8).wf = false ∧ (Instr.wipeComplete false 8192 true).wf = false ∧
    (Instr.checkpointAbort 2).wf = false ∧ (Instr.stagingFillDone 0 4 []).wf = false ∧
    (Instr.unitReturned 320 true).wf = false := by decide

/-- Messages: a record of node FFFFh + 1, one with six copies, a marker of kind 0, a request of 65 bytes, a flit of 239. -/
theorem test_wf_messages : (Instr.returnRecord (rcd 0 (2 ^ 16))).wf = false ∧
    (Instr.dispatchRecord ⟨⟨0, 5, 0, 0, 0, 0, 0, List.replicate 6 ⟨0, 0, 0⟩⟩, []⟩ 0).wf = false ∧
    (Instr.endOfSendMarkerRx ⟨0, 0, 0, 0, 0, 0, 0⟩).wf = false ∧ (Instr.load (req .load 65)).wf = false ∧
    (Instr.transitForward 0 0 (List.replicate 239 0) 0).wf = false := by
  decide +kernel

/-- Tags, ranks, nodes, link generations, temperatures, nonces, endpoint addresses. -/
theorem test_wf_fields : (Instr.send 0 (2 ^ 32)).wf = false ∧ (Instr.collDoneReport 0 (2 ^ 16)).wf = false ∧
    (Instr.deadNodeNotice (2 ^ 15)).wf = false ∧ (Instr.linkTrained 0 4 0 0).wf = false ∧
    (Instr.thermalControl [0, 0, 0, 0]).wf = false ∧ (Instr.challenge 0 []).wf = false ∧ (Instr.entdaa 128).wf = false ∧
    (Instr.setEndpointId .i3c 256).wf = false ∧ (Instr.mailboxPoll 8).wf = false ∧ (Instr.heartbeat 0 []).wf = false := by
  decide

/-! ### What meets the hypotheses of each statement -/

theorem meets_StepRunsFrontCommand :
    ∃ (s : State) (c : Instr) (rest : List Instr), s.pending = c :: rest := by
  refine ⟨{ up with pending := [.nop 0, .getVersion] }, .nop 0, [.getVersion], rfl⟩

theorem meets_StepIdlesOnEmptyQueue :
    ∃ s : State, s.pending = [] := by
  refine ⟨up, rfl⟩

theorem meets_SequencerCommandsComplete :
    (∃ (s : State) (c : _) (i : _) (d : Bytes), AtFront s c i d 0x00 (bareChecks s c d)) ∧
    (∃ (s : State) (c : _) (i : _) (d : Bytes), AtFront s c i d 0x35 (bareChecks s c d)) ∧
    (∃ (s : State) (c : _) (i : _) (d : Bytes), AtFront s c i d 0x31 (waitChecks s c d) ∧ fld d 24 1 = 0) ∧
    (∃ (s : State) (c : _) (i : _) (d : Bytes), AtFront s c i d 0x31 (waitChecks s c d) ∧ fld d 24 1 = 1) ∧
    (∃ (s : State) (c : _) (i : _) (d : Bytes), AtFront s c i d 0x33 (loopChecks s c i d) ∧ fld d 24 2 ≤ idxDiff (s.ctx
      c).ring.producer i ∧ (s.ctx c).writing = false ∧ s.isPoisoned (fld d 16 8) 4 = false) ∧
    (∃ (s : State) (c : _) (i : _) (d : Bytes) (l : _), AtFront s c i d 0x34 (endLoopChecks s c i d) ∧ (s.ctx
      c).ring.loops.head? = some l) ∧
    (∃ (s : State) (c : _) (i : _) (d : Bytes) (w : _), AtFront s c i d 0x40 (cancelChecks s c d) ∧ ((s.accept c i d).ctx
      c).findOpen (fld d 16 4) = some w ∧ w.deadlineDue (s.accept c i d).beat = false) ∧
    (∃ (s : State) (c : _) (i : _) (d : Bytes), AtFront s c i d 0x30 (markChecks s c d)) ∧
    (∃ (s : State) (c : _) (i : _) (d : Bytes), AtFront s c i d 0x32 (launchChecks s c i d) ∧ (s.accept c i d).beat < fld
      d 16 8) := by
  refine ⟨⟨front 2 (desc 0x00 []) id, 0, 0, desc 0x00 [], ?_⟩, ⟨front 3 (desc 0x35 []) id, 0, 0, desc 0x35 [], ?_⟩, ⟨front 3
    (desc 0x31 [(16, 8, 2 ^ 64 - 1)]) id, 0, 0, desc 0x31 [(16, 8, 2 ^ 64 - 1)], ?_⟩, ⟨front 3 (desc 0x31 [(16, 8, 2 ^ 32),
    (24, 1, 1)]) id, 0, 0, desc 0x31 [(16, 8, 2 ^ 32), (24, 1, 1)], ?_⟩, ⟨(front 3 (desc 0x33 [(16, 8, data), (24, 2, 2)])
    id).wr 128 [0x34], 0, 0, desc 0x33 [(16, 8, data), (24, 2, 2)], ?_⟩, ⟨front 3 (desc 0x34 []) (fun x =>
    { x with ring := { x.ring with loops := [⟨2 ^ 32 - 1, 0, 0, 1⟩] } }), 0, 0, desc 0x34 [], ⟨2 ^ 32 - 1, 0, 0, 1⟩, ?_⟩,
    ⟨front 3 (desc 0x40 []) (fun x => { x with windows := [win] }), 0, 0, desc 0x40 [], win, ?_⟩, ⟨front 3 (desc 0x30 [(16,
    8, 1)]) id, 0, 0, desc 0x30 [(16, 8, 1)], ?_⟩, ⟨front 3 (desc 0x32 [(16, 8, 2 ^ 32)]) id, 0, 0, desc 0x32 [(16, 8, 2 ^
    32)], ?_⟩⟩
  all_goals unfold AtFront; decide +kernel

theorem meets_LayerCommandsComplete :
    (∃ (s : State) (c : _) (i : _) (d : Bytes), AtFront s c i d 0x01 (s.fwdChecks c d) ∧ s.atWindowLimit c = false) ∧
    (∃ (s : State) (c : _) (i : _) (d : Bytes), AtFront s c i d 0x02 (s.bwdChecks c d) ∧ s.atWindowLimit c = false) ∧
    (∃ (s : State) (c : _) (i : _) (d : Bytes), AtFront s c i d 0x03 (groupedChecks s c d)) ∧
    (∃ (s : State) (c : _) (i : _) (j : _) (d : Bytes), (s.ctx c).ring.limited = some i ∧ s.atWindowLimit c = false ∧
      AtFront (s.modRing c fun r => r.unhold i) c j d 0x01 ((s.modRing c fun r => r.unhold i).fwdChecks c d) ∧ (s.modRing
      c fun r => r.unhold i).atWindowLimit c = false) ∧
    (∃ (s : State) (c : _) (i : _) (j : _) (d : Bytes), (s.ctx c).ring.limited = some i ∧ s.atWindowLimit c = false ∧
      AtFront (s.modRing c fun r => r.unhold i) c j d 0x02 ((s.modRing c fun r => r.unhold i).bwdChecks c d) ∧ (s.modRing
      c fun r => r.unhold i).atWindowLimit c = false) := by
  refine ⟨⟨front 2 (desc 0x01 [(16, 8, data), (24, 8, data), (40, 8, data), (56, 4, 4096)]) id, 0, 0, desc 0x01 [(16, 8,
    data), (24, 8, data), (40, 8, data), (56, 4, 4096)], ?_⟩, ⟨front 3 (desc 0x02 [(24, 8, data), (32, 8, data)]) (fun x =>
    { x with ledgers := [led] }), 0, 0, desc 0x02 [(24, 8, data), (32, 8, data)], ?_⟩, ⟨front 3 (desc 0x03 [(16, 8, data),
    (24, 2, 8192)]) id, 0, 0, desc 0x03 [(16, 8, data), (24, 2, 8192)], ?_⟩, ⟨front 3 (desc 0x01 [(16, 8, data), (24, 8,
    data), (40, 8, data), (56, 4, 4096)]) fun x => { x with ring := { x.ring with holds := [.windowLimit 0] } }, 0, 0, 0,
    desc 0x01 [(16, 8, data), (24, 8, data), (40, 8, data), (56, 4, 4096)], ?_⟩, ⟨front 3 (desc 0x02 [(24, 8, data), (32, 8,
    data)]) fun x => { x with ledgers := [led], ring := { x.ring with holds := [.windowLimit 0] } }, 0, 0, 0, desc 0x02
    [(24, 8, data), (32, 8, data)], ?_⟩⟩
  all_goals unfold AtFront; decide +kernel

theorem meets_CopyCommandsComplete :
    (∃ (s : State) (c : _) (i : _) (d : Bytes), AtFront s c i d 0x10 (copyModeChecks s c d) ∧ fld d 22 1 = 0) ∧
    (∃ (s : State) (c : _) (i : _) (d : Bytes), AtFront s c i d 0x10 (copyModeChecks s c d) ∧ fld d 22 1 = 1) ∧
    (∃ (s : State) (c : _) (i : _) (d : Bytes), AtFront s c i d 0x10 (copyModeChecks s c d) ∧ fld d 22 1 = 2) ∧
    (∃ (s : State) (c : _) (i : _) (d : Bytes), AtFront s c i d 0x10 (copyModeChecks s c d) ∧ fld d 22 1 = 3) ∧
    (∃ (s : State) (c : _) (i : _) (d : Bytes), AtFront s c i d 0x10 (copyModeChecks s c d) ∧ fld d 22 1 = 4) ∧
    (∃ (s : State) (c : _) (i : _) (d : Bytes), AtFront s c i d 0x11 (layoutChecks s c d)) ∧
    (∃ (s : State) (c : _) (i : _) (d : Bytes), AtFront s c i d 0x12 (fabCopyChecks s c d)) ∧
    (∃ (s : State) (c : _) (idx : _) (a : _), s.coreUp = true ∧ a ∈ (s.ctx c).ring.active ∧ a.idx = idx ∧ (a.op = 0x10 ∨
      a.op = 0x11)) := by
  refine ⟨⟨handled (front 3 (desc 0x10 [(18, 2, 1)]) id), 0, 0, desc 0x10 [(18, 2, 1)], ?_⟩, ⟨handled (front 1 (desc 0x10
    [(18, 2, 1), (22, 1, 1)]) id), 0, 0, desc 0x10 [(18, 2, 1), (22, 1, 1)], ?_⟩, ⟨handled (front 5 (desc 0x10 [(18, 2, 1),
    (22, 1, 2)]) id), 0, 0, desc 0x10 [(18, 2, 1), (22, 1, 2)], ?_⟩, ⟨handled (front 3 (desc 0x10 [(18, 2, 1), (22, 1, 3)])
    id), 0, 0, desc 0x10 [(18, 2, 1), (22, 1, 3)], ?_⟩, ⟨handled (front 3 (desc 0x10 [(18, 2, 1), (22, 1, 4)]) id), 0, 0,
    desc 0x10 [(18, 2, 1), (22, 1, 4)], ?_⟩, ⟨handled (front 3 (desc 0x11 [(18, 2, 1)]) id), 0, 0, desc 0x11 [(18, 2, 1)],
    ?_⟩, ⟨front 3 (desc 0x12 [(16, 8, data), (24, 8, 6 * 2 ^ 49), (32, 8, 2 ^ 20), (48, 1, 12)]) id, 0, 0, desc 0x12 [(16,
    8, data), (24, 8, 6 * 2 ^ 49), (32, 8, 2 ^ 20), (48, 1, 12)], ?_⟩, ⟨inState 3 (fun x =>
    { x with ring := { Ring.init with active := [⟨0, 0x11, false⟩] } }), 0, 0, ⟨0, 0x11, false⟩, ?_⟩⟩
  all_goals first | decide +kernel | (unfold AtFront; decide +kernel)

theorem meets_CollectivesComplete :
    (∃ (s : State) (c : _) (i : _) (d : Bytes), AtFront s c i d 0x20 (s.collChecks c d) ∧ (s.ctx c).coll = none ∧ fld d 18
      1 = 1) ∧
    (∃ (s : State) (c : _) (i : _) (d : Bytes), AtFront s c i d 0x20 (s.collChecks c d) ∧ (s.ctx c).coll = none ∧ fld d 18
      1 = 2) ∧
    (∃ (s : State) (c : _) (i : _) (d : Bytes), AtFront s c i d 0x20 (s.collChecks c d) ∧ (s.ctx c).coll = none ∧ fld d 18
      1 = 3) ∧
    (∃ (s : State) (c : _) (i : _) (d : Bytes), AtFront s c i d 0x20 (s.collChecks c d) ∧ (s.ctx c).coll = none ∧ fld d 18
      1 = 4) ∧
    (∃ (s : State) (c : _) (i : _) (d : Bytes), AtFront s c i d 0x20 (s.collChecks c d) ∧ (s.ctx c).coll = none ∧ fld d 18
      1 = 5) ∧
    (∃ (s : State) (c : _) (k : _) (own : _), s.coreUp = true ∧ (s.ctx c).coll = some k ∧ k.caramel = false ∧ k.phase = 0
      ∧ (∀ w ∈ (s.ctx c).windows, w.isOpen = false) ∧ s.waits c (2 ^ 33) 7 = false ∧ s.collSource c k = (own, false)) ∧
    (∃ (s : State) (c : _) (rank : Nat) (entry : CollEntry) (k : _), s.coreUp = true ∧ s.cstate c ≠ 0 ∧ (s.ctx c).coll =
      some k ∧ k.phase = 1 ∧ rank ≠ s.collRank k ∧ rank < (s.collNodes k).length ∧ (∀ e ∈ k.entries, e.1 ≠ rank)) ∧
    (∃ (s : State) (c : _) (rank : Nat) (data : Bytes) (k : _), s.coreUp = true ∧ (s.ctx c).coll = some k ∧ (k.phase = 1 ∨
      k.phase = 2) ∧ rank ∈ s.collNeeds k ∧ data.length = k.inLen ∧ (∀ p ∈ k.data, p.1 ≠ rank)) ∧
    (∃ (s : State) (c : _) (rank : Nat) (k : _), s.coreUp = true ∧ (s.ctx c).coll = some k ∧ s.collRank k = 0 ∧ (k.phase =
      2 ∨ k.phase = 3) ∧ rank < (s.collNodes k).length ∧ rank ≠ 0 ∧ rank ∉ k.dones) ∧
    (∃ (s : State) (c : _) (k : _), s.coreUp = true ∧ (s.ctx c).coll = some k ∧ k.phase = 3 ∧ s.collRank k ≠ 0) ∧
    (∃ (s : State) (c : _) (rank code seq candidate : Nat) (k : _), s.coreUp = true ∧ (s.ctx c).coll = some k ∧ k.seq =
      seq ∧ k.phase ≠ 4) ∧
    (∃ (s : State) (c : _) (k : _), s.coreUp = true ∧ (s.ctx c).coll = some k ∧ 1 ≤ k.phase ∧ k.phase ≤ 3 ∧ k.entered +
      s.cget c O_COLL_TIMEOUT_BEATS ≤ s.beat) ∧
    (∃ (s : State) (c : _) (k : _), s.coreUp = true ∧ (s.ctx c).coll = some k ∧ k.phase = 4 ∧ k.abortBeat + 64 ≤ s.beat) := by
  refine
    ⟨⟨{ handled (front 3 (desc 0x20 [(16, 2, 1), (18, 1, 1), (22, 2, 0), (24, 4, 4), (28, 2, 0), (30, 2, 1)]) id) with groups := [(1, ⟨0, leBytes 2 5 ++ leBytes 2 6, true, 0⟩)] },
    0, 0, desc 0x20 [(16, 2, 1), (18, 1, 1), (22, 2, 0), (24, 4, 4), (28, 2, 0), (30, 2, 1)], ?_⟩,
    ⟨{ handled (front 3 (desc 0x20 [(16, 2, 1), (18, 1, 2), (22, 2, 0), (24, 4, 4), (28, 2, 0), (30, 2, 1)]) id) with groups := [(1, ⟨0, leBytes 2 5 ++ leBytes 2 6, true, 0⟩)] },
    0, 0, desc 0x20 [(16, 2, 1), (18, 1, 2), (22, 2, 0), (24, 4, 4), (28, 2, 0), (30, 2, 1)], ?_⟩,
    ⟨{ handled (front 3 (desc 0x20 [(16, 2, 1), (18, 1, 3), (22, 2, 0), (24, 4, 4), (28, 2, 0), (30, 2, 1)]) id) with groups := [(1, ⟨0, leBytes 2 5 ++ leBytes 2 6, true, 0⟩)] },
    0, 0, desc 0x20 [(16, 2, 1), (18, 1, 3), (22, 2, 0), (24, 4, 4), (28, 2, 0), (30, 2, 1)], ?_⟩,
    ⟨{ handled (front 3 (desc 0x20 [(16, 2, 1), (18, 1, 4), (22, 2, 0), (24, 4, 4), (28, 2, 0), (30, 2, 1)]) id) with groups := [(1, ⟨0, leBytes 2 5 ++ leBytes 2 6, true, 0⟩)] },
    0, 0, desc 0x20 [(16, 2, 1), (18, 1, 4), (22, 2, 0), (24, 4, 4), (28, 2, 0), (30, 2, 1)], ?_⟩,
    ⟨{ handled (front 3 (desc 0x20 [(16, 2, 1), (18, 1, 5), (22, 2, 0), (24, 4, 4), (28, 2, 0), (30, 2, 1)]) id) with groups := [(1, ⟨0, leBytes 2 5 ++ leBytes 2 6, true, 0⟩)] },
    0, 0, desc 0x20 [(16, 2, 1), (18, 1, 5), (22, 2, 0), (24, 4, 4), (28, 2, 0), (30, 2, 1)], ?_⟩, ⟨collective false (coll 1
    0), 0, (coll 1 0), List.replicate 16 0, ?_⟩, ⟨collective false (coll 1 1), 0, 1, ⟨0, 0, 0, 0, 0, 0, 0⟩, (coll 1 1), ?_⟩,
    ⟨collective false { coll 4 2 with root := 1 }, 0, 1, List.replicate 16 0, { coll 4 2 with root := 1 }, ?_⟩, ⟨collective
    false (coll 5 2), 0, 1, (coll 5 2), ?_⟩, ⟨collective true (coll 5 3), 0, (coll 5 3), ?_⟩, ⟨collective true (coll 5 0),
    0, 0, 0x44, 7, 1, (coll 5 0), ?_⟩, ⟨(collective false (coll 1 3)).put O_BEAT_COUNT (2 ^ 40), 0, (coll 1 3), ?_⟩,
    ⟨(collective false (coll 1 4)).put O_BEAT_COUNT 64, 0, (coll 1 4), ?_⟩⟩
  all_goals first | decide +kernel | (unfold AtFront; decide +kernel)

theorem meets_WeightCommandsComplete :
    (∃ (s : State) (c : _) (i : _) (d src src2 : Bytes), AtFront s c i d 0x21 (intakeChecks s c d) ∧ fld d 49 1 ≠ 3 ∧ fld
      d 48 1 = 0) ∧
    (∃ (s : State) (c : _) (i : _) (d src : Bytes), AtFront s c i d 0x21 (intakeChecks s c d) ∧ fld d 49 1 ≠ 3 ∧ fld d 48
      1 = 1) ∧
    (∃ (s : State) (c : _) (i : _) (d src : Bytes), AtFront s c i d 0x21 (intakeChecks s c d) ∧ fld d 49 1 ≠ 3 ∧ fld d 48
      1 = 2) ∧
    (∃ (s : State) (c : _) (i : _) (d src : Bytes), AtFront s c i d 0x21 (intakeChecks s c d) ∧ fld d 49 1 = 3) ∧
    (∃ (s : State) (c : _) (idx : _) (k : _), s.coreUp = true ∧ (s.ctx c).intakes.find? (·.idx == idx) = some k ∧
      k.waiting = false) ∧
    (∃ (s : State) (c : _) (i : _) (d : Bytes), AtFront s c i d 0x22 (switchChecks s c d)) ∧
    (∃ (s : State) (c : _) (w : _), s.coreUp = true ∧ (s.ctx c).switch = some w ∧ w.effective = false ∧ w.beat ≤ s.beat ∧
      s.dueBelow 5 w.beat = false) ∧
    (∃ (s : State) (c : _) (i : _) (d : Bytes) (p : _), AtFront s c i d 0x23 (exportChecks s c d) ∧ (s.accept c i
      d).gradBuffer c d = some p) := by
  refine ⟨⟨front 3 (desc 0x21 [(16, 8, data), (24, 8, data)]) id, 0, 0, desc 0x21 [(16, 8, data), (24, 8, data)], [], [],
    ?_⟩, ⟨front 3 (desc 0x21 [(16, 8, 6 * 2 ^ 49), (48, 1, 1), (50, 1, 0)]) id, 0, 0, desc 0x21 [(16, 8, 6 * 2 ^ 49), (48,
    1, 1), (50, 1, 0)], [], ?_⟩, ⟨front 3 (desc 0x21 [(48, 1, 2), (50, 1, 1)]) id, 0, 0, desc 0x21 [(48, 1, 2), (50, 1, 1)],
    [], ?_⟩, ⟨front 3 (desc 0x21 [(16, 8, data), (32, 8, 2 ^ 20), (49, 1, 3)]) id, 0, 0, desc 0x21 [(16, 8, data), (32, 8, 2
    ^ 20), (49, 1, 3)], [], ?_⟩, ⟨inState 3 (fun x => { x with intakes := [⟨0, 0, 0, 0, [], [], 0, false, 0, false⟩] }), 0,
    0, ⟨0, 0, 0, 0, [], [], 0, false, 0, false⟩, ?_⟩, ⟨entry (front 2 (desc 0x22 [(16, 4, 2 ^ 32 - 1)]) (fun x =>
    { x with slotStates := [3, 2] })) 0 [(0, 2, 0xFFFF), (4, 1, 1)], 0, 0, desc 0x22 [(16, 4, 2 ^ 32 - 1)], ?_⟩, ⟨inState 3
    (fun x => { x with switch := some ⟨0, 0, 0, false, 0⟩ }), 0, ⟨0, 0, 0, false, 0⟩, ?_⟩, ⟨entry (front 3 (desc 0x23 [(30,
    1, 0x30), (31, 1, 2)]) id) 0 [(40, 8, 2 ^ 33)], 0, 0, desc 0x23 [(30, 1, 0x30), (31, 1, 2)], 2 ^ 33, ?_⟩⟩
  all_goals first | decide +kernel | (unfold AtFront; decide +kernel)

theorem meets_CheckpointCommandsComplete :
    (∃ (s : State) (c : _) (i : _) (d : Bytes), AtFront s c i d 0x41 (s.ckChecks c d)) ∧
    (∃ (s : State) (c : _) (i : _) (b : _) (j : _), s.coreUp = true ∧ (s.ctx c).ring.cutting = some (i, b) ∧ s.ckpt = some
      j ∧ j.ctx = c ∧ j.idx = i ∧ b ≤ s.beat ∧ s.dueBelow 3 b = false ∧ (s.ctx c).cutBusy = false ∧ (s.cstate c = 2 ∨
      s.cstate c = 3 ∨ s.cstate c = 5)) ∧
    (∃ (s : State) (c : _) (j : _), s.coreUp = true ∧ s.ckpt = some j ∧ j.ctx = c ∧ j.phase = 2) ∧
    (∃ (s : State) (c : _) (j : _) (ch : _) (rest : _) (src : _) (dst : _) (n : _), s.coreUp = true ∧ s.ckpt = some j ∧
      j.ctx = c ∧ j.phase = 3 ∧ j.chunks = ch :: rest ∧ j.chunkSpan ch = some (src, dst, n) ∧ s.isPoisoned src n = false) ∧
    (∃ (s : State) (c : _) (j : _), s.coreUp = true ∧ s.ckpt = some j ∧ j.ctx = c ∧ j.phase = 3 ∧ j.chunks = [] ∧ j.flags
      % 2 = 0) ∧
    (∃ (s : State) (c : _) (j : _), s.coreUp = true ∧ s.ckpt = some j ∧ j.ctx = c ∧ j.phase = 4 ∧ j.flags / 4 % 2 = 1 ∧
      s.hostMods ≠ [] ∧ (∀ sh ∈ j.shards, s.isPoisoned sh.place sh.length = false)) ∧
    (∃ (s : State) (slot : _) (j : _), s.coreUp = true ∧ s.ckpt = some j ∧ j.slot = slot ∧ j.phase < 4) ∧
    (∃ (s : State) (j : _) (m : _), s.coreUp = true ∧ s.restoring = some j ∧ j.verify = true ∧ readManifest (s.restoreRead
      j) = some m) ∧
    (∃ (s : State) (j : _) (m : _) (u : _), s.coreUp = true ∧ s.restoring = some j ∧ j.verify = false ∧ readManifest
      (s.restoreRead j) = some m ∧ s.cstate j.ctx = 1 ∧ s.restoreShards j m.2 = (u, none) ∧ (m.2.all fun e => e.kind != 0
      || shardDigest (u.shardBytes j e) == e.digest) = true) ∧
    (∃ (s : State) (c : _) (i : _) (d : Bytes), AtFront s c i d 0x42 (snapChecks s c d)) ∧
    (∃ (s : State) (c : _) (i : _) (b : _), s.coreUp = true ∧ ((s.ctx c).ring.pendingSnaps.find? fun p => p.2 ≤ s.beat) =
      some (i, b) ∧ s.dueBelow 1 b = false) := by
  refine ⟨⟨(front 2 (desc 0x41 [(16, 8, 1), (28, 4, 1)]) id).put O_NEWEST_SLOT 0xFF, 0, 0, desc 0x41 [(16, 8, 1), (28, 4,
    1)], ?_⟩,
    ⟨{ inState 2 (fun x => { x with ring := { Ring.init with holds := [.checkpoint 0 0] } }) with ckpt := some ⟨0, 0, 0, 0, 0, 1, 0, 0, 1, 0, 0, [], []⟩ },
    0, 0, 0, ⟨0, 0, 0, 0, 0, 1, 0, 0, 1, 0, 0, [], []⟩, ?_⟩,
    ⟨{ inState 7 id with ckpt := some ⟨0, 0, 0, 0, 0, 1, 0, 0, 2, 0, 0, [], []⟩ }, 0, ⟨0, 0, 0, 0, 0, 1, 0, 0, 2, 0, 0, [],
    []⟩, ?_⟩, ⟨{ inState 7 id with ckpt := some ⟨0, 0, 0, 0, 0, 1, 0, 0, 3, 0, 0, [⟨1, 1, 0, 0, 100, 2 ^ 46⟩], [(0, 0)]⟩ },
    0, ⟨0, 0, 0, 0, 0, 1, 0, 0, 3, 0, 0, [⟨1, 1, 0, 0, 100, 2 ^ 46⟩], [(0, 0)]⟩, (0, 0), [], 0, 2 ^ 46, 100, ?_⟩,
    ⟨{ inState 7 id with ckpt := some ⟨0, 0, 0, 0, 0, 1, 0, 0, 3, 0, 0, [], []⟩ }, 0, ⟨0, 0, 0, 0, 0, 1, 0, 0, 3, 0, 0, [],
    []⟩, ?_⟩, ⟨{ inState 7 id with ckpt := some ⟨0, 0, 0, 0, 5, 1, 0, 0, 4, 0, 0, [], []⟩ }, 0, ⟨0, 0, 0, 0, 5, 1, 0, 0, 4,
    0, 0, [], []⟩, ?_⟩, ⟨{ inState 7 id with ckpt := some ⟨0, 0, 0, 0, 0, 1, 0, 0, 3, 0, 0, [], []⟩ }, 0, ⟨0, 0, 0, 0, 0, 1,
    0, 0, 3, 0, 0, [], []⟩, ?_⟩, ⟨{ up with restoring := some ⟨0, sealedEmpty, true, 2⟩ }, ⟨0, sealedEmpty, true, 2⟩,
    (sealedEmpty, []), ?_⟩, ⟨{ inState 1 id with restoring := some ⟨0, sealedEmpty, false, 2⟩ }, ⟨0, sealedEmpty, false, 2⟩,
    (sealedEmpty, []), { inState 1 id with restoring := some ⟨0, sealedEmpty, false, 2⟩ }, ?_⟩, ⟨front 3 (desc 0x42 []) id,
    0, 0, desc 0x42 [], ?_⟩, ⟨inState 3 (fun x => { x with ring := { Ring.init with pendingSnaps := [(0, 0)] } }), 0, 0, 0,
    ?_⟩⟩
  all_goals first | decide +kernel | (unfold AtFront; decide +kernel)

theorem meets_SequencerEventsComplete :
    (∃ (s : State) (c : _) (i : _) (b : _), s.coreUp = true ∧ (s.ctx c).ring.waiting = some (i, b) ∧ b ≤ s.beat ∧
      s.dueBelow 7 b = false) ∧
    (∃ (s : State) (c : _) (i : _) (u : _), s.coreUp = true ∧ (s.ctx c).ring.fenced = some (i, u) ∧ (∀ a ∈ (s.ctx
      c).ring.active, a.idx = i ∨ ∃ l ∈ (s.ctx c).ring.loops, l.first = a.idx) ∧ (∀ q ∈ s.remotes, q.req.srcCtx = c →
      opWrites q.req.op = true → u ≤ q.req.id)) ∧
    (∃ (s : State) (c : _) (i : _) (n : _) (b : _), s.coreUp = true ∧ (s.ctx c).ring.marking = some (i, n, b) ∧ b ≤ s.beat
      ∧ s.dueBelow 4 b = false) ∧
    (∃ (s : State) (c : _) (i : _) (b : _), s.coreUp = true ∧ (s.ctx c).ring.launching = some (i, b) ∧ b ≤ s.beat ∧
      s.dueBelow 4 b = false) ∧
    (∃ (s : State) (c : _) (tick : _), s.coreUp = true ∧ s.coreServes c = true ∧ polledState (s.cstate c) = true ∧ tick <
      256 ∧ (tick + 256 - c % (s.ctx c).pollTicks) % (s.ctx c).pollTicks = 0 ∧ (tick = 0 → s.dueBelow 8 s.beat = false)) := by
  refine ⟨⟨inState 3 (fun x => { x with ring := { Ring.init with holds := [.waitBeat 0 0] } }), 0, 0, 0, ?_⟩, ⟨inState 3
    (fun x => { x with ring := { Ring.init with holds := [.fence 0 0] } }), 0, 0, 0, ?_⟩, ⟨inState 3 (fun x =>
    { x with ring := { Ring.init with holds := [.stepMark 0 1 0 false] } }), 0, 0, 1, 0, ?_⟩, ⟨inState 3 (fun x =>
    { x with ring := { Ring.init with holds := [.launchAt 0 0 false] } }), 0, 0, 0, ?_⟩, ⟨inState 5 id, 0, 16, ?_⟩⟩
  all_goals decide +kernel

theorem meets_WindowStagesComplete :
    (∃ (s : State) (c : _) (w : _), s.coreUp = true ∧ s.cstate c = 3 ∧ ((s.ctx c).windows.find? fun w => w.launchDue
      s.beat) = some w ∧ s.dueBelow 6 w.dueBeat = false) ∧
    (∃ (s : State) (c : _) (tag : Nat) (w : _), s.coreUp = true ∧ s.cstate c = 3 ∧ ((s.ctx c).windows.find? fun w => w.tag
      == tag && w.phase == .issued && w.deferred) = some w ∧ w.dueBeat < s.beat ∧ s.beat < w.deadline ∧ s.dueBelow 6
      s.beat = false ∧ s.anyBlack c = false) ∧
    (∃ (s : State) (c : _) (tag : Nat) (rows : Bytes) (w : _) (m : _) (e : _), (s.ctx c).inPhase tag .launched = some w ∧
      s.live w = true ∧ w.bwd = false ∧ s.findEntry c w.slot w.layerSlot 0xFFFF = some (m, e) ∧ s.waits c w.holder 0 =
      false ∧ s.hostNeeds c w e.cold ≤ rows.length ∧ (s.hostNeeds c w e.cold = 0 ∨ s.hostMods ≠ []) ∧ (w.hostmap % 2 = 0 →
      s.isPoisoned w.inAddr (w.tokens * 2 * s.hidden c) = false) ∧ (w.hostmap / 8 % 2 = 0 → s.isPoisoned w.scoreAddr
      (s.scoreLen c w) = false) ∧ (s.ctx c).collHolds = false ∧ (e.cold = false → s.isPoisoned e.gu (s.cget c
      O_EXPERT_COUNT * 2 * s.hidden c) = false)) ∧
    (∃ (s : State) (c : _) (tag : Nat) (rows : Bytes) (w : _), (s.ctx c).inPhase tag .launched = some w ∧ s.live w = true
      ∧ w.bwd = true ∧ s.waits c w.holder 0 = false ∧ s.hostNeeds c w false ≤ rows.length ∧ (s.hostNeeds c w false = 0 ∨
      s.hostMods ≠ []) ∧ (w.hostmap % 2 = 0 → s.isPoisoned w.inAddr (w.tokens * 2 * s.hidden c) = false) ∧ (w.hostmap / 8
      % 2 = 0 → s.isPoisoned w.scoreAddr (s.scoreLen c w) = false)) ∧
    (∃ (s : State) (c : _) (tag : Nat) (mask : Bytes) (w : _), (s.ctx c).inPhase tag .scored = some w ∧ s.live w = true ∧
      s.waits c w.holder 5 = false ∧ s.caramelWaits c w = false ∧ w.hostmap / 8 % 2 = 0 ∧ w.maskAddr = 0) ∧
    (∃ (s : State) (c : _) (tag : Nat) (mask : Bytes) (w : _) (len : _), (s.ctx c).inPhase tag .scored = some w ∧ s.live w
      = true ∧ s.waits c w.holder 5 = false ∧ s.caramelWaits c w = false ∧ w.hostmap / 8 % 2 = 0 ∧ w.maskAddr ≠ 0 ∧ len =
      w.tokens * maskRowLen (s.cget c O_EXPERT_COUNT) ∧ s.isPoisoned w.maskAddr len = false) ∧
    (∃ (s : State) (c : _) (tag : Nat) (mask : Bytes) (w : _) (len : _), (s.ctx c).inPhase tag .scored = some w ∧ s.live w
      = true ∧ s.waits c w.holder 5 = false ∧ s.caramelWaits c w = false ∧ w.hostmap / 8 % 2 = 1 ∧ s.hostMods ≠ [] ∧ len =
      w.tokens * maskRowLen (s.cget c O_EXPERT_COUNT) ∧ len ≤ mask.length) ∧
    (∃ (s : State) (c : _) (tag : Nat) (w : _) (q : _), (s.ctx c).inPhase tag .selected = some w ∧ w.quant = some q ∧
      s.live w = true ∧ s.waits c w.holder 1 = false ∧ s.waits c w.holder 8 = false) ∧
    (∃ (s : State) (c : _) (tag : Nat) (w : _), (s.ctx c).inPhase tag .sorted = some w ∧ s.live w = true ∧ s.waits c
      w.holder 9 = false) ∧
    (∃ (s : State) (c : _) (tag : Nat) (rows : Bytes) (w : _), s.coreUp = true ∧ ((s.ctx c).windows.find? fun w => w.tag
      == tag && w.deadlineDue s.beat) = some w ∧ s.dueBelow 2 w.deadline = false ∧ (s.det c ≠ 2 ∨ w.missing (s.cget c
      O_TOP_K) = 0) ∧ w.unformed ≠ [] ∧ s.needsRows c w = false ∧ (w.rows = [] → s.cget c O_RESIDUAL_ADD = 1 → w.hostmap %
      2 = 0 → s.isPoisoned w.inAddr (w.tokens * 2 * s.hidden c) = false)) ∧
    (∃ (s : State) (c : _) (tag : Nat) (rows : Bytes) (w : _), s.coreUp = true ∧ ((s.ctx c).windows.find? fun w => w.tag
      == tag && w.deadlineDue s.beat) = some w ∧ s.dueBelow 2 w.deadline = false ∧ (s.det c ≠ 2 ∨ w.missing (s.cget c
      O_TOP_K) = 0) ∧ w.unformed ≠ [] ∧ s.needsRows c w = true ∧ w.tokens * 2 * s.hidden c ≤ rows.length ∧ w.hostmap % 2 =
      1) ∧
    (∃ (s : State) (c : _) (tag : Nat) (rows : Bytes) (w : _), s.coreUp = true ∧ ((s.ctx c).windows.find? fun w => w.tag
      == tag && w.deadlineDue s.beat) = some w ∧ s.dueBelow 2 w.deadline = false ∧ (s.det c ≠ 2 ∨ w.missing (s.cget c
      O_TOP_K) = 0) ∧ w.unformed = []) ∧
    (∃ (s : State) (c : _) (tag : Nat) (rows : Bytes) (w : _), s.coreUp = true ∧ ((s.ctx c).windows.find? fun w => w.tag
      == tag && w.deadlineDue s.beat) = some w ∧ s.dueBelow 2 w.deadline = false ∧ s.det c = 2 ∧ w.missing (s.cget c
      O_TOP_K) ≠ 0) ∧
    (∃ (s : State) (c : _) (tag : Nat) (w : _), s.coreUp = true ∧ ((s.ctx c).windows.find? fun w => w.tag == tag &&
      w.phase == .closed && !w.unformed.isEmpty) = some w ∧ s.waits c w.holder 4 = false) ∧
    (∃ (s : State) (c : _) (tag : Nat) (w : _), s.coreUp = true ∧ ((s.ctx c).windows.find? fun w => w.tag == tag &&
      w.phase == .closed && w.unformed.isEmpty) = some w ∧ s.hostMods ≠ []) ∧
    (∃ (s : State) (c : _) (k : _), s.coreUp = true ∧ ((s.ctx c).counts.find? fun k => !k.published) = some k ∧ (s.ctx
      c).countsComplete k = true) ∧
    (∃ (s : State) (c : _) (m : _) (rest : _) (k : _), s.coreUp = true ∧ (s.ctx c).caramelDue = m :: rest ∧ (s.ctx
      c).counts.find? (·.mark == m) = some k ∧ (s.ctx c).countsComplete k = true ∧ s.cget c O_CARAMEL_STATE = 1 ∧ s.cget c
      O_SCOPE = 0) ∧
    (∃ (s : State) (c : _) (set : Nat) (cold : Bytes) (g : _), s.coreUp = true ∧ (s.ctx c).stages[set]? = some g ∧ g.full
      = false ∧ s.coldLen c g ≤ cold.length ∧ (s.coldLen c g = 0 ∨ s.hostMods ≠ []) ∧ s.stageBad c g = false) ∧
    (∃ (s : State) (c : _) (tag : Nat) (k : _), s.coreUp = true ∧ k ∈ (s.ctx c).crumbs ∧ k.tag = tag ∧ k.beat + s.cget c
      O_CRUMB_HOLD_BEATS ≤ s.beat) := by
  refine ⟨⟨inState 3 fun x => { x with windows := [win] }, 0, win, ?_⟩, ⟨(inState 3 fun x =>
    { x with windows := [{ win with deferred := true, deadline := 9 }] }).put O_BEAT_COUNT 8, 0, 0,
    { win with deferred := true, deadline := 9 }, ?_⟩, ⟨entry (withWin 9 id) 0 [(0, 2, 0xFFFF)], 0, 0, [], winAt 9 id, ⟨0,
    true, true⟩, ⟨0xFFFF, 0, 0, 0, 0, false, 0, 0, 0, 0, 0, 0⟩, ?_⟩, ⟨withWin 9 (fun w => { w with bwd := true }), 0, 0, [],
    winAt 9 (fun w => { w with bwd := true }), ?_⟩, ⟨withWin 9 (fun w => { w with phase := .scored }), 0, 0, [], winAt 9
    (fun w => { w with phase := .scored }), ?_⟩, ⟨withWin 9 (fun w => { w with phase := .scored, maskAddr := data }), 0, 0,
    [], winAt 9 (fun w => { w with phase := .scored, maskAddr := data }), 256, ?_⟩, ⟨withWin 9 (fun w =>
    { w with phase := .scored, hostmap := 8 }), 0, 0, List.replicate 256 0, winAt 9 (fun w =>
    { w with phase := .scored, hostmap := 8 }), 256, ?_⟩, ⟨withWin 9 (fun w =>
    { w with phase := .selected, quant := some ⟨0x30, 0, [], []⟩ }), 0, 0, winAt 9 (fun w =>
    { w with phase := .selected, quant := some ⟨0x30, 0, [], []⟩ }), ⟨0x30, 0, [], []⟩, ?_⟩, ⟨withWin 9 (fun w =>
    { w with phase := .sorted }), 0, 0, winAt 9 (fun w => { w with phase := .sorted }), ?_⟩, ⟨withWin 0 id, 0, 0, [], winAt
    0 id, ?_⟩, ⟨((withWin 0 (fun w => { w with hostmap := 1 }))).put O_RESIDUAL_ADD 1, 0, 0, List.replicate 1024 0, winAt 0
    (fun w => { w with hostmap := 1 }), ?_⟩, ⟨withWin 0 (fun w =>
    { w with outRows := [(0, []), (1, []), (2, []), (3, [])] }), 0, 0, [], winAt 0 (fun w =>
    { w with outRows := [(0, []), (1, []), (2, []), (3, [])] }), ?_⟩, ⟨((withWin 0 id)).put O_DET_LEVEL 2, 0, 0, [], winAt 0
    id, ?_⟩, ⟨withWin 0 (fun w => { w with phase := .closed }), 0, 0, winAt 0 (fun w => { w with phase := .closed }), ?_⟩,
    ⟨withWin 0 (fun w => { w with phase := .closed, tokens := 0 }), 0, 0, winAt 0 (fun w =>
    { w with phase := .closed, tokens := 0 }), ?_⟩, ⟨inState 3 fun x =>
    { x with counts := [⟨0, 0, [], [], [], [], true, false⟩], marks := 1 }, 0, ⟨0, 0, [], [], [], [], true, false⟩, ?_⟩,
    ⟨((inState 3 fun x => { x with counts := [⟨0, 0, [], [], [], [], true, false⟩], caramelDue := [0], marks := 1 }).put
    O_CARAMEL_STATE 1).put O_SCOPE 0, 0, 0, [], ⟨0, 0, [], [], [], [], true, false⟩, ?_⟩, ⟨inState 3 fun x =>
    { x with stages := [⟨0, 0, false, []⟩] }, 0, 0, [], ⟨0, 0, false, []⟩, ?_⟩, ⟨(inState 3 fun x =>
    { x with crumbs := [⟨4, 0⟩] }).put O_BEAT_COUNT (2 ^ 40), 0, 4, ⟨4, 0⟩, ?_⟩⟩
  all_goals decide +kernel

theorem meets_ExchangeMessagesComplete :
    (∃ (s : State) (p : _) (w : _) (rest : _), s.coreUp = true ∧ (s.pool p).waits = w :: rest ∧ s.pget p O_POOL_STATE = 2
      ∧ s.pget p O_FREE_NOW ≠ 0) ∧
    (∃ (s : State) (c : _) (node flits : Nat), s.coreUp = true ∧ s.cstate c ≠ 0) ∧
    (∃ (s : State) (r : Record) (sender : Nat), s.coreUp = true ∧ recKind r.hdr < 2 ∧ recFlag r.hdr 2 = false ∧ Lands s r) ∧
    (∃ (s : State) (r : Record) (sender : Nat), s.coreUp = true ∧ recKind r.hdr < 2 ∧ recFlag r.hdr 2 = true ∧ Relays s r) ∧
    (∃ (s : State) (c : _) (tag src : Nat), s.coreUp = true ∧ s.working c = true ∧ (((s.ctx c).relayFlow tag false
      src).marker.isSome = true ∨ ((s.ctx c).relayFlow tag true src).marker.isSome = true)) ∧
    (∃ (s : State) (m : _), s.coreUp = true ∧ MarkerCounts s m) ∧
    (∃ (s : State) (c : _) (tag node : Nat), s.coreUp = true ∧ s.cstate c ≠ 0) ∧
    (∃ (s : State) (c : _) (tag src : Nat), s.coreUp = true ∧ s.cstate c ≠ 0 ∧ src ∈ s.members c) ∧
    (∃ (s : State) (c : _) (tag src : Nat), s.coreUp = true ∧ s.cstate c ≠ 0 ∧ src ∈ s.members c) ∧
    (∃ (s : State) (c : _) (tag : Nat), s.coreUp = true ∧ (∃ p ∈ (s.ctx c).parts, p.tag = tag ∧ p.past = false ∧ p.horizon
      ≤ s.beat)) ∧
    (∃ (s : State) (r : Record) (w : _) (e : _), s.coreUp = true ∧ Answers s r w e ∧ w.answered r.hdr.token e = false) := by
  refine ⟨⟨withObjs { up with pools := [(0, { Pool.init with waits := [⟨0, 0, 1, [], 1, 0, 0⟩] })] } [(unitKey 0
    O_POOL_STATE, 2), (unitKey 0 O_FREE_NOW, 1)], 0, ⟨0, 0, 1, [], 1, 0, 0⟩, [], ?_⟩, ⟨inState 1 id, 0, 6, 1, ?_⟩, ⟨grouped
    id, rcd 0 6, 6, ⟨by decide +kernel, by decide +kernel, by decide +kernel, by decide +kernel, ex_some (by
    decide +kernel)⟩⟩, ⟨grouped id, rcd 4 6, 6, ⟨by decide +kernel, by decide +kernel, by decide +kernel, by decide +kernel,
    by decide +kernel⟩⟩, ⟨grouped (fun x => { x with relayFlows := [⟨0, false, 6, 0, some 0, [], [], false⟩] }), 0, 0, 6,
    ?_⟩, ⟨grouped id, ⟨0, 6, 0, 0, 0, 1, 0⟩, ⟨by decide +kernel, by decide +kernel, by decide +kernel, ex_some (by
    decide +kernel)⟩⟩, ⟨inState 1 id, 0, 0, 6, ?_⟩, ⟨grouped id, 0, 0, 6, ?_⟩, ⟨grouped id, 0, 0, 6, ?_⟩, ⟨inState 3 (fun x
    =>
    { x with parts := [{ tag := 0, bwd := false, horizon := 0, past := false, flows := [], recs := [], joined := 0, rows := [], blocks := [], posted := [], nextBlock := 0, firstItem := none, itemsRun := 0, rowsRun := 0, complete := false, waitingStage := false, absent := false, groups := [], added := [], done := false }] }),
    0, 0, ?_⟩, ⟨withWin 9 (fun w => { w with ledger := some led }), rcd 16 5, winAt 9 (fun w =>
    { w with ledger := some led }), copy0, ⟨by decide +kernel, ⟨by decide +kernel, by decide +kernel, by decide +kernel, by
    decide +kernel, by decide +kernel, by decide +kernel, ex_some (by decide +kernel)⟩, by decide +kernel⟩⟩⟩
  all_goals decide +kernel

theorem meets_WorkItemsComplete :
    (∃ (s : State) (tile : Nat) (it : _), s.coreUp = true ∧ tile < 320 ∧ s.tileActive tile = true ∧ (s.items.filter fun i
      => i.tile == some tile).length < 2 ∧ lowestItem (s.items.filter (s.mayTake tile)) = some it ∧ s.itemBad it = false) ∧
    (∃ (s : State) (tile : Nat) (it : _), s.coreUp = true ∧ (s.items.find? fun i => i.tile == some tile) = some it ∧
      s.staleItem tile it = false ∧ it.kind ≠ 2) ∧
    (∃ (s : State) (tile : Nat) (it : _), s.coreUp = true ∧ (s.items.find? fun i => i.tile == some tile) = some it ∧
      s.staleItem tile it = false ∧ it.kind = 2) ∧
    (∃ (s : State) (c : _) (item : _) (g : _), s.coreUp = true ∧ (s.gradHeld.find? fun g => g.ctx == c && g.id == item) =
      some g ∧ ({ s with gradHeld := s.gradHeld.filter fun v => !(v.ctx == c && v.id == item) } : State).gradTurn c g =
      true) := by
  refine ⟨⟨{ up with items := [item 0 none] }, 0, item 0 none, ?_⟩, ⟨{ up with items := [item 1 (some 0)] }, 0, item 1 (some
    0), ?_⟩, ⟨{ up with items := [item 2 (some 319)] }, 319, item 2 (some 319), ?_⟩,
    ⟨{ up with gradHeld := [⟨3, 0, 0, data, 0, 4, []⟩] }, 0, 3, ⟨3, 0, 0, data, 0, 4, []⟩, ?_⟩⟩
  all_goals decide +kernel

theorem meets_RemoteRequestsComplete :
    (∃ (s : State) (r : RemoteReq), s.coreUp = true ∧ r.op = .load ∧ s.homeOk r.addr r.size = true) ∧
    (∃ (s : State) (r : RemoteReq), s.coreUp = true ∧ r.op = .copyGet ∧ s.homeOk r.addr r.size = true ∧ (s.drainSpan
      r.addr r.size).isPoisoned r.addr r.size = false) ∧
    (∃ (s : State) (r : RemoteReq), s.coreUp = true ∧ (r.op = .store ∨ r.op = .flaggedStore) ∧ s.homeOk r.addr r.size =
      true) ∧
    (∃ (s : State) (r : RemoteReq), s.coreUp = true ∧ r.op = .min ∧ s.homeOk r.addr r.size = true) ∧
    (∃ (s : State) (r : RemoteReq), s.coreUp = true ∧ r.op = .max ∧ s.homeOk r.addr r.size = true) ∧
    (∃ (s : State) (r : RemoteReq), s.coreUp = true ∧ r.op = .cas ∧ s.homeOk r.addr r.size = true) ∧
    (∃ (s : State) (r : RemoteReq), s.coreUp = true ∧ r.op = .add ∧ s.homeOk r.addr r.size = true) ∧
    (∃ (s : State) (r : RemoteReq) (w : _), s.coreUp = true ∧ r.op = .add ∧ s.homeOk r.addr r.size = true ∧ (s.queue
      (addrKey r.addr / 64)).getLast? = some w ∧ mergeable w r = true ∧ ((s.queues.map (·.2)).flatten.filter fun v =>
      !v.merged.isEmpty).length < 1024) ∧
    (∃ (s : State) (r : RemoteReq), s.coreUp = true ∧ r.op = .copyChunk ∧ r.srcNode ≠ s.node ∧ s.homeOk r.addr r.size =
      true ∧ (r.counter ≠ 0 → s.homeOk r.counter 8 = true)) ∧
    (∃ (s : State) (l : _), s.coreUp = true ∧ s.servable l = true) := by
  refine ⟨⟨up, req .load 64, ?_⟩, ⟨up, req .copyGet 4096, ?_⟩, ⟨up, req .flaggedStore 4, ?_⟩, ⟨up, req .min 8, ?_⟩, ⟨up, req
    .max 4, ?_⟩, ⟨up, req .cas 8, ?_⟩, ⟨up, req .add 4, ?_⟩, ⟨{ up with queues := [(0, [⟨req .add 4, [], [], false⟩])] },
    req .add 4, ⟨req .add 4, [], [], false⟩, ?_⟩, ⟨up, req .copyChunk 65536, ?_⟩,
    ⟨{ up with queues := [(0, [⟨req .add 4, [], [], false⟩])] }, 0, ?_⟩⟩
  all_goals decide +kernel

theorem meets_RemoteSourceComplete :
    (∃ (s : State) (c : _) (a : _) (data : Bytes), s.coreUp = true ∧ c < 1024 ∧ s.cstate c ≠ 0 ∧ sizeOk .flaggedStore a
      data.length = true ∧ addrNode a ≠ s.nodeOf c ∧ (s.ctx c).windowOk a data.length 1 = true) ∧
    (∃ (s : State) (c : _) (id : _) (q : _), s.coreUp = true ∧ (s.remotes.find? fun q => q.req.id == id && q.req.srcCtx ==
      c && q.held) = some q ∧ s.writesOpen c id = false) ∧
    (∃ (s : State) (id : _) (status : Nat) (data : Bytes) (q : _), s.coreUp = true ∧ (s.remotes.find? fun q => q.req.id ==
      id && !q.held) = some q) ∧
    (∃ (s : State) (id : _) (q : _), s.coreUp = true ∧ (s.remotes.find? fun q => q.req.id == id && !q.held) = some q ∧
      q.issued + s.get O_REMOTE_TIMEOUT ≤ s.beat) ∧
    (∃ (s : State) (node : Nat), s.coreUp = true ∧ node < 2 ^ 15) ∧
    (∃ (s : State) (id : _) (q : _), s.coreUp = true ∧ (s.remotes.find? fun q => q.req.id == id && !q.held) = some q ∧
      q.retried = false ∧ s.pathTo q.node = true) ∧
    (∃ (s : State) (m : _) (box : _) (o : _) (data : Bytes), s.coreUp = true ∧ m < 8 ∧ s.haModules.getD m 0 % 128 ≠ 0 ∧
      box < 16 ∧ o + data.length ≤ 4096 ∧ 0 < data.length) ∧
    (∃ (s : State) (m : _) (box : _) (o : _) (n : _), s.coreUp = true ∧ m < 8 ∧ s.haModules.getD m 0 % 128 ≠ 0 ∧ box < 16
      ∧ o + n ≤ 4096 ∧ 0 < n) ∧
    (∃ (s : State) (m : _) (slot : _) (o : _) (n : _), s.coreUp = true ∧ m < 8 ∧ s.haModules.getD m 0 % 128 ≠ 0 ∧ slot <
      64 ∧ 0 < n ∧ o + n ≤ 2 ^ 32 ∧ (s.aperture m slot).flags % 2 = 1 ∧ o + n ≤ (s.aperture m slot).pages * 4096 ∧
      s.cstate (s.aperture m slot).ctx ≠ 0) := by
  refine ⟨⟨inState 1 (fun x => { x with srcWindows := [⟨6, 6, 0, 2, 0, 64⟩] }), 0, 6 * 2 ^ 49, List.replicate 64 0, ?_⟩,
    ⟨{ up with remotes := [pend true] }, 0, 0, pend true, ?_⟩, ⟨{ up with remotes := [pend false] }, 0, 0, [], pend false,
    ?_⟩, ⟨{ up.put O_BEAT_COUNT (2 ^ 40) with remotes := [pend false] }, 0, pend false, ?_⟩, ⟨up, 6, ?_⟩,
    ⟨{ up.put (unitKey 0 O_LINK_STATE) 2 with remotes := [pend false] }, 0, pend false, ?_⟩, ⟨up, 0, 15, 0, List.replicate
    4096 0, ?_⟩, ⟨up, 0, 0, 4088, 8, ?_⟩, ⟨{ inState 1 id with apertures := [⟨data, 1, 0, 1⟩] }, 0, 0, 4032, 64, ?_⟩⟩
  all_goals decide +kernel

theorem meets_LinkCommandsComplete :
    (∃ (s : State) (l corrected tag : Nat) (flit : Bytes), s.coreUp = true ∧ l < 12 ∧ s.linkUp l = true ∧ tagCrc tag =
      frameCrc tag flit ∧ tagCtrl tag = false ∧ tagFrameSeq tag = (s.link l).rxNext) ∧
    (∃ (s : State) (l : Nat) (f : CtrlFrame), s.coreUp = true ∧ l < 12 ∧ s.linkUp l = true) ∧
    (∃ (s : State) (a : _), s.coreUp = true ∧ a ∉ s.announced) ∧
    (∃ (s : State) (node : Nat), s.coreUp = true ∧ node < 2 ^ 15 ∧ (node ∈ s.bypassed ∨ s.nodeDead node = true ∨ ∃ m,
      (node, m) ∈ s.redirects)) ∧
    (∃ (s : State) (l : Nat) (lane : _) (up : _), s.coreUp = true ∧ l < 12 ∧ lane < 8 ∧ s.linkUp l = true ∧ s.get (unitKey
      l O_LANES_UP) / 2 ^ lane % 2 = 1 ∧ up = s.get (unitKey l O_LANES_UP) - 2 ^ lane ∧ (up % 16 = 15 ∨ up / 16 = 15)) ∧
    (∃ (s : State) (l : Nat) (lane : _) (up : _), s.coreUp = true ∧ l < 12 ∧ lane < 8 ∧ s.linkUp l = true ∧ s.get (unitKey
      l O_LANES_UP) / 2 ^ lane % 2 = 1 ∧ up = s.get (unitKey l O_LANES_UP) - 2 ^ lane ∧ up % 16 ≠ 15 ∧ up / 16 ≠ 15) ∧
    (∃ (s : State) (l : Nat), s.coreUp = true ∧ l < 12 ∧ (s.get (unitKey l O_LINK_STATE) = 4 ∨ s.get (unitKey l
      O_LINK_STATE) = 1) ∧ s.get O_LINK_ENABLE / 2 ^ l % 2 = 1 ∧ (s.link l).trainBeat + 1024 ≤ s.beat) ∧
    (∃ (s : State) (l gen peer delay : Nat), s.corePg = true ∧ s.resetN = true ∧ l < 12 ∧ s.get (unitKey l O_LINK_STATE) =
      1 ∧ 1 ≤ gen ∧ gen ≤ s.linkGenMax.getD l 3) ∧
    (∃ (s : State) (l delay : Nat), s.coreUp = true ∧ l < 12 ∧ s.linkUp l = true ∧ (s.link l).measureBeat + 4096 ≤ s.beat) ∧
    (∃ (s : State) (l tag : Nat) (flit : Bytes) (src : Nat) (k : _) (t' : _), s.coreUp = true ∧ l < 12 ∧ s.linkUp l = true
      ∧ tagDest tag ≠ s.node ∧ tagLocal tag = false ∧ s.nextLink l tag = some (k, t') ∧ s.linkUp k = true ∧ s.replayRoom k
      = true) ∧
    (∃ (s : State) (l tag : Nat) (flit : Bytes) (src : Nat), s.get O_BYPASS_STATE = 1 ∧ 8 ≤ l ∧ l < 12 ∧ s.get (unitKey l
      O_LINK_STATE) = 5) := by
  refine ⟨⟨linked 2, 0, 0, 0, [], ?_⟩, ⟨linked 3, 0, ⟨none, none, []⟩, ?_⟩, ⟨up, .bypass 6 0, ?_⟩,
    ⟨{ up with bypassed := [6] }, 6, ⟨by decide +kernel, by decide, .inl (by decide +kernel)⟩⟩, ⟨linked 2, 0, 7, 127, ?_⟩,
    ⟨(linked 2).put (unitKey 0 O_LANES_UP) 17, 0, 0, 16, ?_⟩, ⟨((linked 1).put O_BEAT_COUNT 1024).put O_LINK_ENABLE 1, 0,
    ?_⟩, ⟨linked 1, 0, 1, 6, 1000, ?_⟩, ⟨(linked 2).put O_BEAT_COUNT 4096, 0, 7, ?_⟩, ⟨withObjs up [(unitKey 8 O_LINK_STATE,
    2), (unitKey 1 O_LINK_STATE, 2)], 8, 6, List.replicate 240 0, 7, 1, 6, ?_⟩, ⟨(withObjs up [(unitKey 11 O_LINK_STATE, 5),
    (O_BYPASS_STATE, 1)]), 11, 6, List.replicate 240 0, 7, ?_⟩⟩
  all_goals decide +kernel

theorem meets_BeatCommandsComplete :
    (∃ (s : State), s.corePg = true ∧ s.resetN = true ∧ s.get O_BEAT_STATE ≠ 3) ∧
    (∃ (s : State), s.corePg = true ∧ s.resetN = true ∧ s.get O_BEAT_STATE ≠ 3 ∧ s.coreUp = false ∧ s.jumpBy = 0) ∧
    (∃ (s : State) (l : Nat) (f : BeatFlit), s.corePg = true ∧ s.resetN = true ∧ (s.get O_BYPASS_STATE = 0 ∨ l < 8) ∧ l <
      12 ∧ s.linkUp l = true ∧ s.get O_BEAT_ROLE = 0 ∧ s.get O_BEAT_UPLINK = l) ∧
    (∃ (s : State), s.corePg = true ∧ s.resetN = true ∧ s.get O_BEAT_ROLE ≠ 1 ∧ s.get O_BEAT_STATE = 1 ∧ s.beatSeen + 3 ≤
      s.beat) ∧
    (∃ (s : State), s.get O_BEAT_STATE = 2 ∧ s.holdStart + s.get O_HOLDOVER_LIMIT ≤ s.beat) ∧
    (∃ (s : State) (err : Int), s.corePg = true ∧ s.resetN = true ∧ s.get O_BEAT_STATE = 1 ∧ 1000 * s.get
      O_BEAT_SKEW_LIMIT < err.natAbs ∧ 16 ≤ s.skewRun) ∧
    (∃ (s : State) (count : Nat) (err : Int), s.corePg = true ∧ s.resetN = true ∧ s.get O_BEAT_ROLE = 2) := by
  refine ⟨⟨beating 2 0, ?_⟩, ⟨(beating 1 0).put O_ENGINE_STATE 0, ?_⟩, ⟨withObjs (linked 2) [(O_BEAT_ROLE, 0),
    (O_BEAT_UPLINK, 0)], 0, ⟨0, 0, 0, 0, 0, 0⟩, ?_⟩, ⟨beating 1 0, ?_⟩, ⟨(beating 2 0), ?_⟩,
    ⟨{ beating 1 0 with skewRun := 16 }, -1000000000, ?_⟩, ⟨beating 1 2, 0, 0, ?_⟩⟩
  all_goals decide +kernel

theorem meets_TwinEventsComplete :
    (∃ (s : State), s.coreUp = true ∧ s.get O_TWIN_STATE = 1 ∧ s.unacked = []) ∧
    (∃ (s : State) (r : MirrorRec), s.coreUp = true ∧ r.kind ≠ .journal ∧ (s.get O_TWIN_STATE = 1 ∨ s.get O_TWIN_STATE =
      2) ∧ r.ctx < 1024) ∧
    (∃ (s : State) (seq : Nat), s.coreUp = true ∧ (∃ u ∈ s.unacked, u.seq ≤ seq)) ∧
    (∃ (s : State) (u : _) (rest : _), s.coreUp = true ∧ s.get O_TWIN_STATE = 2 ∧ s.unacked = u :: rest ∧ u.beat + s.get
      O_MIRROR_LAG_LIMIT < s.beat) ∧
    (∃ (s : State) (beat : Nat) (words : List Nat), s.coreUp = true ∧ s.get O_TWIN_STATE = 2 ∧ beat ≤ s.beat + 1) ∧
    (∃ (s : State), s.coreUp = true ∧ s.get O_TWIN_STATE = 2 ∧ 8 ≤ s.heartMissed ∧ s.probing = none ∧ s.taking = none ∧
      s.get O_PARTNER_NODE ∉ s.bypassed) ∧
    (∃ (s : State) (node : Nat), s.coreUp = true) ∧
    (∃ (s : State) (b : _), s.coreUp = true ∧ s.get O_TWIN_STATE = 2 ∧ s.probing = some b) ∧
    (∃ (s : State) (b : _), s.coreUp = true ∧ s.get O_TWIN_STATE = 2 ∧ s.probing = some b ∧ b + 16 ≤ s.beat) ∧
    (∃ (s : State), s.coreUp = true ∧ s.get O_TWIN_STATE = 2 ∧ s.taking = none) ∧
    (∃ (s : State) (n : _), s.coreUp = true ∧ s.taking = some n) ∧
    (∃ (s : State) (lost : _) (serving : Nat), s.coreUp = true ∧ lost ≠ s.node ∧ (lost, serving) ∉ s.redirects) ∧
    (∃ (s : State) (serving : Nat), s.coreUp = true) ∧
    (∃ (s : State) (c : _), s.coreUp = true ∧ s.get O_TWIN_STATE = 2 ∧ s.handing = some c ∧ c < 1024) := by
  refine ⟨⟨twin 1, ?_⟩, ⟨twin 2, ⟨0, .crumb, 1023, [], [], [], none⟩, ?_⟩, ⟨{ twin 2 with unacked := [⟨7, 0, [], []⟩] }, 7,
    ?_⟩, ⟨{ twin 2 with unacked := [⟨7, 0, [], []⟩] }, ⟨7, 0, [], []⟩, [], ?_⟩, ⟨twin 2, 2 ^ 40 + 1, [0, 0, 0, 0], ?_⟩,
    ⟨{ twin 2 with heartMissed := 8 }, ?_⟩, ⟨twin 0, 6, ?_⟩, ⟨{ twin 2 with probing := some 0 }, 0, ?_⟩,
    ⟨{ twin 2 with probing := some 0 }, 0, ?_⟩, ⟨twin 2, ?_⟩, ⟨{ twin 2 with taking := some 6 }, 6, ?_⟩, ⟨twin 2, 6, 7, ?_⟩,
    ⟨twin 2, 6, ?_⟩, ⟨{ twin 2 with handing := some 1023 }, 1023, ?_⟩⟩
  all_goals decide +kernel

theorem meets_GuardianEventsComplete :
    (∃ (s : State) (tile cell : Nat), s.coreUp = true ∧ tile < 320 ∧ cell < 264 ∧ s.tileActive tile = true ∧ cell ∉
      (s.tile tile).retired) ∧
    (∃ (s : State) (tile cell : Nat), s.coreUp = true ∧ tile < 320 ∧ cell < 264 ∧ s.tileActive tile = true ∧ cell ∉
      (s.tile tile).retired) ∧
    (∃ (s : State) (hbm : Bool) (ms : Nat), s.coreUp = true ∧ s.get O_SCRUB_ENABLE / 2 ^ (if hbm then 1 else 0) % 2 = 1) ∧
    (∃ (s : State) (u : _), s.coreUp = true ∧ wipesFirst s.wipingPages 24 u = true) ∧
    (∃ (s : State) (u : _), s.coreUp = true ∧ wipesFirst s.wipingExtents 4096 u = true) ∧
    (∃ (s : State) (u : _), s.coreUp = true ∧ u < 320 ∧ (s.tile u).state = 2) ∧
    (∃ (s : State) (core : _), s.coreUp = true ∧ core < 4 ∧ s.coreStates.getD core 0 = 0) ∧
    (∃ (s : State) (core : _), s.coreUp = true ∧ core < 4 ∧ s.coreStates.getD core 0 = 0) ∧
    (∃ (s : State) (core : _), s.coreUp = true ∧ s.coreStates.getD core 0 = 1) ∧
    (∃ (s : State), s.coreUp = true ∧ s.profileNow ≠ s.get O_PROFILE) ∧
    (∃ (s : State), s.noticeDue = true ∧ s.noticeFree = true ∧ s.get O_NOTICE_ENABLE ≠ 0 ∧ s.engSummary ≠ 0) ∧
    (∃ (s : State) (pool : _), s.coreUp = true ∧ pool < 256 ∧ s.pget pool O_POOL_STATE = 1) ∧
    (∃ (s : State), s.coreUp = true ∧ s.latchDue = true) := by
  refine ⟨⟨up, 319, 263, ?_⟩, ⟨up, 0, 0, ?_⟩, ⟨up.put O_SCRUB_ENABLE 3, true, 8000, ?_⟩, ⟨{ up with wipingPages := [8191] },
    8191, ?_⟩, ⟨{ up with wipingExtents := [0, 4096] }, 4096, ?_⟩,
    ⟨{ up with tiles := [(319, { Tile.init with state := 2 })] }, 319, ?_⟩, ⟨up, 3, ?_⟩, ⟨up, 0, ?_⟩,
    ⟨{ up with coreStates := [0, 1, 0, 0] }, 1, ?_⟩, ⟨up.put O_PROFILE 1, ?_⟩,
    ⟨{ withObjs up [(O_NOTICE_ENABLE, 1), (O_GD_FLAGS, 1)] with noticeDue := true }, ?_⟩, ⟨up.put (unitKey 255 O_POOL_STATE)
    1, 255, ?_⟩, ⟨{ up with latchDue := true }, ?_⟩⟩
  all_goals decide +kernel

theorem meets_PowerAndStartComplete :
    (∃ (s : State), s.resetN = true) ∧
    (∃ (s : State), s.resetN = false) ∧
    (∃ (s : State), s.corePg = true) ∧
    (∃ (s : State), s.corePg = false) ∧
    (∃ (s : State) (beatMw meanMw : Nat), s.corePg = true ∧ s.resetN = true) ∧
    (∃ (s : State) (temps : List Int), s.corePg = true ∧ s.resetN = true) ∧
    (∃ (s : State) (k : Nat) (r : StepResult), s.corePg = true ∧ s.resetN = true ∧ s.startStep = some k ∧ s.get O_LC_STATE
      ≠ 4) := by
  refine ⟨⟨up, ?_⟩, ⟨{ up with resetN := false }, ?_⟩, ⟨up, ?_⟩, ⟨{ up with corePg := false }, ?_⟩, ⟨up, 1350000, 1350000,
    ?_⟩, ⟨up, [95, 95, 95, 95, 95], ?_⟩, ⟨State.reset, 0, ⟨true, true, 0, 0, 0, []⟩, ?_⟩⟩
  all_goals decide +kernel

theorem meets_ContextControlCompletes :
    (∃ (s : State) (c : Nat) (i : ObjInfo) (t : State), c < 1024 ∧ Acts s .mctp (ctxKey c O_CTX_CTRL) 1 i (ctlClaim s c)
      t) ∧
    (∃ (s : State) (c : Nat) (i : ObjInfo) (t : State), c < 1024 ∧ Acts s .mctp (ctxKey c O_CTX_CTRL) 2 i (ctlArm s c) t) ∧
    (∃ (s : State) (c : Nat) (i : ObjInfo) (t : State), c < 1024 ∧ Acts s .mctp (ctxKey c O_CTX_CTRL) 3 i (ctlDisarm s c)
      t) ∧
    (∃ (s : State) (c : Nat) (i : ObjInfo) (t : State), c < 1024 ∧ Acts s .mctp (ctxKey c O_CTX_CTRL) 4 i (ctlDrain s c)
      t) ∧
    (∃ (s : State) (c : Nat) (i : ObjInfo) (t : State), c < 1024 ∧ Acts s .mctp (ctxKey c O_CTX_CTRL) 5 i (ctlHalt s c) t) ∧
    (∃ (s : State) (c : Nat) (i : ObjInfo) (t : State), c < 1024 ∧ Acts s .mctp (ctxKey c O_CTX_CTRL) 6 i (ctlResume s c)
      t) ∧
    (∃ (s : State) (c : Nat) (i : ObjInfo) (t : State), c < 1024 ∧ Acts s .mctp (ctxKey c O_CTX_CTRL) 7 i (ctlRelease s c)
      t) ∧
    (∃ (s : State) (c : Nat) (i : ObjInfo) (t : State), c < 1024 ∧ Acts s .mctp (ctxKey c O_RING_CTRL) 1 i (ctlContinue s
      c) t) ∧
    (∃ (s : State) (c : Nat) (i : ObjInfo) (t : State), c < 1024 ∧ Acts s .mctp (ctxKey c O_RING_CTRL) 2 i (ctlSkip s c)
      t) ∧
    (∃ (s : State) (c : Nat) (i : ObjInfo) (t : State), c < 1024 ∧ Acts s .mctp (ctxKey c O_RING_CTRL) 3 i (ctlFlush s c)
      t) := by
  refine ⟨⟨up, 1023, acts_in (by decide) (by decide +kernel)⟩, ⟨armable, 0, acts_in (by decide) (by decide +kernel)⟩,
    ⟨inState 2 id, 0, acts_in (by decide) (by decide +kernel)⟩, ⟨inState 3 id, 0, acts_in (by decide) (by decide +kernel)⟩,
    ⟨inState 4 id, 0, acts_in (by decide) (by decide +kernel)⟩, ⟨inState 5 id, 0, acts_in (by decide) (by decide +kernel)⟩,
    ⟨inState 6 id, 0, acts_in (by decide) (by decide +kernel)⟩, ⟨inState 3 (fun x =>
    { x with ring := { ringOf (desc 0 []) with paused := true, onDesc := true } }), 0, acts_in (by decide) (by
    decide +kernel)⟩, ⟨inState 3 (fun x => { x with ring := { ringOf (desc 0 []) with paused := true, onDesc := true } }),
    0, acts_in (by decide) (by decide +kernel)⟩, ⟨inState 5 id, 0, acts_in (by decide) (by decide +kernel)⟩⟩

theorem meets_PoolGroupUnitControlCompletes :
    (∃ (s : State) (u : Nat) (i : ObjInfo) (t : State), u < 256 ∧ Acts s .mctp (unitKey u O_POOL_CTRL) 1 i (ctlPoolCreate
      s u) t) ∧
    (∃ (s : State) (u : Nat) (i : ObjInfo) (t : State), u < 256 ∧ Acts s .mctp (unitKey u O_POOL_CTRL) 2 i (ctlPoolDelete
      s u) t) ∧
    (∃ (s : State) (i : ObjInfo) (t : State), Acts s .mctp O_GROUP_CTRL 1 i (ctlGroupCreate s (s.sel .mctp
      O_GROUP_SELECT)) t) ∧
    (∃ (s : State) (i : ObjInfo) (t : State), Acts s .mctp O_GROUP_CTRL 2 i (ctlGroupDelete s (s.sel .mctp
      O_GROUP_SELECT)) t) ∧
    (∃ (s : State) (i : ObjInfo) (t : State), Acts s .mctp O_UNIT_CTRL 1 i (ctlUnitQuarantine s (s.sel .mctp
      O_UNIT_SELECT)) t) ∧
    (∃ (s : State) (i : ObjInfo) (t : State), Acts s .mctp O_UNIT_CTRL 2 i (ctlUnitReturn s (s.sel .mctp O_UNIT_SELECT))
      t) ∧
    (∃ (s : State) (i : ObjInfo) (t : State), Acts s .mctp O_UNIT_CTRL 3 i (ctlUnitSleep s (s.sel .mctp O_UNIT_SELECT)) t) := by
  refine ⟨⟨poolable, 0, acts_in (by decide) (by decide +kernel)⟩, ⟨withObjs (inState 1 id) [(unitKey 255 O_POOL_STATE, 2),
    (unitKey 255 O_OWNER_CONTEXT, 0)], 255, acts_in (by decide) (by decide +kernel)⟩,
    ⟨{ (inState 1 id).put O_GROUP_AREA 2 with groups := [(0, ⟨0, leBytes 2 5 ++ leBytes 2 6, false, 0⟩)] }, acts_of (by
    decide +kernel)⟩,
    ⟨{ withObjs (inState 1 id) [(O_EXCHANGE_GROUP, 1), (O_CARAMEL_GROUP, 1)] with groups := [(0, ⟨0, leBytes 2 5, true, 0⟩)] },
    acts_of (by decide +kernel)⟩, ⟨up, acts_of (by decide +kernel)⟩,
    ⟨{ up with tiles := [(0, { Tile.init with state := 1 })] }, acts_of (by decide +kernel)⟩,
    ⟨{ up with selectors := [(.mctp, O_UNIT_SELECT, 1024)] }, acts_of (by decide +kernel)⟩⟩

theorem meets_EngineControlCompletes :
    (∃ (s : State) (info : PartnerInfo) (i : ObjInfo) (t : State), Reaches s .mctp (keyReq O_TWIN_CTRL (leBytes 1 1)) i ∧
      s.writeCheck .mctp O_TWIN_CTRL i (leBytes 1 1) = none ∧ ctlPair s info = .ok t) ∧
    (∃ (s : State) (info : PartnerInfo) (i : ObjInfo) (t : State), Acts s .mctp O_TWIN_CTRL 2 i (ctlUnpair s info) t) ∧
    (∃ (s : State) (i : ObjInfo) (t : State), Acts s .mctp O_TWIN_CTRL 3 i (ctlHandback s) t) ∧
    (∃ (s : State) (i : ObjInfo) (t : State), Acts s .mctp O_SLOT_CTRL 2 i (ctlSlotDiscard s 1) t) ∧
    (∃ (s : State) (i : ObjInfo) (t : State), Acts s .mctp O_SLOT_CTRL 3 i (ctlSlotVerify s 0) t) ∧
    (∃ (s : State) (i : ObjInfo) (t : State), Acts s .mctp O_RESTORE_CTRL 1 i (ctlRestore s []) t) ∧
    (∃ (s : State) (i : ObjInfo) (t : State), Acts s .mctp O_DEBUG_CTRL 1 i (ctlDebugClose s .mctp) t) ∧
    (∃ (s : State) (i : ObjInfo) (t : State), Acts s .mctp O_RESET_CTRL 1 i (ctlWarm s) t) ∧
    (∃ (s : State) (i : ObjInfo) (t : State), Acts s .mctp O_ENGINE_QUARANTINE 1 i (ctlEngineQuarantine s) t) ∧
    (∃ (s : State) (i : ObjInfo) (t : State), Acts s .mctp O_LATCH_CTRL 1 i (ctlLatch s) t) := by
  refine ⟨⟨up, partner, acts_of pair_ok⟩, ⟨twin 2, { partner with claimed := [512] }, acts_of (by decide +kernel)⟩,
    ⟨withObjs (twin 2) [(O_HANDBACK_CONTEXT, 512), (ctxKey 512 O_CTX_STATE, 5)], acts_of (by decide +kernel)⟩, ⟨up, acts_of
    (by decide +kernel)⟩, ⟨up, acts_of (by decide +kernel)⟩, ⟨(inState 1 id).put O_RESTORE_CONTEXT 0, acts_of (by
    decide +kernel)⟩, ⟨up, acts_of (by decide +kernel)⟩, ⟨up, acts_of (by decide +kernel)⟩, ⟨up, acts_of (by
    decide +kernel)⟩, ⟨up, acts_of (by decide +kernel)⟩⟩

theorem meets_ContextObjectWritesComplete :
    (∃ (s : State) (c : Nat) (data : Bytes) (i : ObjInfo) (t : State), Accepted s .mctp (ctxKey c O_DESC_WRITE) data
      Around.none i t) ∧
    (∃ (s : State) (c : Nat) (data : Bytes) (i : ObjInfo) (t : State), Accepted s .mctp (ctxKey c O_SLOT_ENTRY_WRITE) data
      Around.none i t) ∧
    (∃ (s : State) (c : Nat) (data : Bytes) (i : ObjInfo) (t : State), Accepted s .mctp (ctxKey c O_EXPERT_MAP) data
      Around.none i t) ∧
    (∃ (s : State) (c : Nat) (data : Bytes) (i : ObjInfo) (t : State), Accepted s .mctp (ctxKey c O_EXPERT_COUNT) data
      Around.none i t) ∧
    (∃ (s : State) (c : Nat) (data : Bytes) (i : ObjInfo) (t : State), Accepted s .mctp (ctxKey c O_BIAS) data Around.none
      i t) ∧
    (∃ (s : State) (c : Nat) (data : Bytes) (i : ObjInfo) (t : State), Accepted s .mctp (ctxKey c O_HIDDEN_WIDTH) data
      Around.none i t) ∧
    (∃ (s : State) (c : Nat) (data : Bytes) (i : ObjInfo) (t : State), Accepted s .mctp (ctxKey c O_INNER_WIDTH) data
      Around.none i t) ∧
    (∃ (s : State) (c : Nat) (data : Bytes) (i : ObjInfo) (t : State), Accepted s .mctp (ctxKey c O_LS_PAGES) data
      Around.none i t) ∧
    (∃ (s : State) (c : Nat) (data : Bytes) (i : ObjInfo) (t : State), Accepted s .mctp (ctxKey c O_HBM_EXTENTS) data
      Around.none i t) ∧
    (∃ (s : State) (c : Nat) (data : Bytes) (i : ObjInfo) (t : State), Accepted s .mctp (ctxKey c O_REGIONS) data
      Around.none i t) ∧
    (∃ (s : State) (c : Nat) (data : Bytes) (i : ObjInfo) (t : State), Accepted s .mctp (ctxKey c O_DESC_AREA) data
      Around.none i t) ∧
    (∃ (s : State) (c : Nat) (data : Bytes) (i : ObjInfo) (t : State), Accepted s .mctp (ctxKey c O_SRC_WINDOWS) data
      Around.none i t) ∧
    (∃ (s : State) (c : Nat) (data : Bytes) (i : ObjInfo) (t : State), Accepted s .mctp (ctxKey c O_DET_LEVEL) data
      Around.none i t) ∧
    (∃ (s : State) (c : Nat) (data : Bytes) (i : ObjInfo) (t : State), Accepted s .mctp (ctxKey c O_DEADLINE_BEATS) data
      Around.none i t) := by
  refine ⟨⟨inState 1 id, 0, image [(0, 8, data), (8, 1, 0x70), (9, 1, 1), (16, 4, 16), (20, 4, 1), (24, 4, 1), (28, 4, 1),
    (32, 4, 1), (60, 4, 3)], accepted_of (by decide +kernel)⟩, ⟨inState 1 id, 0, image [(0, 2, 0xFFFF), (5, 1, 0x30), (8, 8,
    data)], accepted_of (by decide +kernel)⟩, ⟨inState 1 id, 0, List.replicate 64 0, accepted_of (by decide +kernel)⟩,
    ⟨inState 1 id, 0, leBytes 2 16, accepted_of (by decide +kernel)⟩, ⟨inState 5 id, 0, List.replicate 32 0, accepted_of (by
    decide +kernel)⟩, ⟨inState 1 id, 0, leBytes 2 256, accepted_of (by decide +kernel)⟩, ⟨inState 1 id, 0, leBytes 2 256,
    accepted_of (by decide +kernel)⟩, ⟨inState 1 (fun x => { x with regions := [] }), 0, leBytes 2 5, accepted_of (by
    decide +kernel)⟩, ⟨inState 1 (fun x => { x with regions := [] }), 0, leBytes 2 5, accepted_of (by decide +kernel)⟩,
    ⟨withObjs (inState 1 (fun x => { x with regions := [], lsPages := [5] })) [(O_DESC_AREA, 0xFF), (O_SLOT_TABLE_AREA,
    0xFF)], 0, (image [(0, 8, 5 * 2 ^ 49 + 5 * 65536), (8, 8, 65536)]).take 32, accepted_of (by decide +kernel)⟩, ⟨inState 1
    id, 0, [2], accepted_of (by decide +kernel)⟩, ⟨inState 1 id, 0, (image [(0, 2, 6), (2, 2, 6), (5, 1, 3), (16, 8,
    64)]).take 32, accepted_of (by decide +kernel)⟩, ⟨inState 1 id, 0, [0], accepted_of (by decide +kernel)⟩, ⟨inState 3 id,
    0, leBytes 2 8, accepted_of (by decide +kernel)⟩⟩

theorem meets_EngineObjectWritesComplete :
    (∃ (s : State) (data : Bytes) (i : ObjInfo) (t : State), Accepted s .mctp O_DEBUG_REQUEST data Around.none i t) ∧
    (∃ (s : State) (data : Bytes) (i : ObjInfo) (t : State), Accepted s .mctp O_DEBUG_RESPONSE data Around.none i t) ∧
    (∃ (s : State) (data : Bytes) (i : ObjInfo) (t : State), Accepted s .mctp O_BEAT_ROLE data Around.none i t) ∧
    (∃ (s : State) (data : Bytes) (i : ObjInfo) (t : State), Accepted s .mctp O_FABRIC_ENABLE data Around.none i t) ∧
    (∃ (s : State) (data : Bytes) (i : ObjInfo) (t : State), Accepted s .mctp O_MCTP_GRANT data Around.none i t) ∧
    (∃ (s : State) (data : Bytes) (i : ObjInfo) (t : State), Accepted s .mctp O_APERTURES data Around.none i t) ∧
    (∃ (s : State) (data : Bytes) (i : ObjInfo) (t : State), Accepted s .mctp O_START_POLICY data Around.none i t) ∧
    (∃ (s : State) (data : Bytes) (i : ObjInfo) (t : State), Accepted s .mctp O_OWNER_KEY_HASH data Around.none i t) ∧
    (∃ (s : State) (k : Nat) (data : Bytes) (i : ObjInfo) (t : State), i.isFlags = true ∧ Accepted s .mctp k data
      Around.none i t) ∧
    (∃ (s : State) (x : DebugChal), (s.challenges.find? fun x => x.path == .mctp) = some x ∧ x.beat + challengeBeats <
      s.beat) ∧
    (∃ (s : State) (x : DebugSession), (s.sessions.find? fun x => x.path == .mctp) = some x ∧ 1953125 * s.get
      O_DEBUG_TIMEOUT_S ≤ 2 * (s.beat - x.beat)) := by
  refine ⟨⟨up.put O_LC_STATE 1, [0, 1, 0, 0, 0, 0, 0, 0], accepted_of (by decide +kernel)⟩, ⟨up, List.replicate 193 0,
    accepted_of (by decide +kernel)⟩, ⟨up, [2], accepted_of (by decide +kernel)⟩, ⟨up, [0], accepted_of (by
    decide +kernel)⟩, ⟨up, [1, 0, 0, 0, 0xFF, 3, 0, 0], accepted_of (by decide +kernel)⟩, ⟨up, List.replicate 8192 0,
    accepted_of (by decide +kernel)⟩, ⟨up, List.replicate 32 0, accepted_of (by decide +kernel)⟩, ⟨up.put O_LC_STATE 1,
    List.replicate 48 7, accepted_of (by decide +kernel)⟩, ⟨up, O_GD_FLAGS, leBytes 4 1, flagWrite_of (by decide +kernel)
    (by decide +kernel)⟩, ⟨{ up.put O_BEAT_COUNT (2 ^ 40) with challenges := [⟨.mctp, 0, 1, 0, [], 0⟩] }, ⟨.mctp, 0, 1, 0,
    [], 0⟩, by decide +kernel⟩, ⟨{ up.put O_BEAT_COUNT (2 ^ 50) with sessions := [⟨.mctp, 1, 0⟩] }, ⟨.mctp, 1, 0⟩, by
    decide +kernel⟩⟩

theorem meets_DictionaryOperationsComplete :
    (∃ (s : State) (index sub : Nat) (i : ObjInfo), Reaches s .mctp (pathReq 1 1 index sub 0 0 false []) i) ∧
    (∃ (s : State) (i : ObjInfo) (t : State), Reaches s .mctp (pathReq 2 2 (O_DEADLINE_BEATS / 256) (O_DEADLINE_BEATS %
      256) 0 2 false (leBytes 2 65535)) i ∧ s.writeObj .mctp (O_DEADLINE_BEATS / 256 * 256 + O_DEADLINE_BEATS % 256) i
      (leBytes 2 65535) Around.none = .ok t) ∧
    (∃ (s : State) (index sub : Nat) (i : ObjInfo), Reaches s .mctp (pathReq 3 1 index sub 8 8 false []) i) ∧
    (∃ (s : State) (data : Bytes) (i : ObjInfo) (bs : Bytes), Reaches s .mctp (pathReq 4 1 (O_EXPERT_MAP / 256)
      (O_EXPERT_MAP % 256) 0 data.length false data) i ∧ stageBytes (s.stagedOf O_EXPERT_MAP) .mctp 0 data = .ok bs ∧
      bs.length ≤ stagedMax) ∧
    (∃ (s : State) (data : Bytes) (i : ObjInfo) (bs : Bytes) (t : State), Reaches s .mctp (pathReq 4 1 (O_EXPERT_MAP /
      256) (O_EXPERT_MAP % 256) 0 data.length true data) i ∧ stageBytes (s.stagedOf O_EXPERT_MAP) .mctp 0 data = .ok bs ∧
      bs.length ≤ stagedMax ∧ s.mayWrite .mctp O_EXPERT_MAP i.access bs = true ∧ s.writeObj .mctp O_EXPERT_MAP i bs
      Around.none = .ok t) ∧
    (∃ (s : State) (e : Staged), s.coreUp = true ∧ s.stagedOf O_EXPERT_MAP = some e ∧ e.beat + 1024 ≤ s.beat) ∧
    (∃ s : State, s.reqWaits .mctp 0x1000 = false ∧ s.enumCheck .mctp (pathReq 5 1 0x1000 0 0 0 false []) = none) ∧
    (∃ (s : State) (index sub : Nat) (i : ObjInfo), Reaches s .mctp (pathReq 6 2 index sub 0 0 false []) i) ∧
    (∃ (s : State) (i : ObjInfo), Reaches s .mctp (pathReq 7 2 (O_GD_FLAGS / 256) (O_GD_FLAGS % 256) 0 4 false (leBytes 4
      1)) i ∧ s.writableNow .mctp O_GD_FLAGS i 1 = true) ∧
    (∃ (s : State) (entries : List (Nat × Nat)), s.reqWaits .mctp 0 = false ∧ s.dictUp = true ∧ entries.length ≤ 16 ∧
      entries ≠ []) ∧
    (∃ (s : State) (m : Nat), s.dictUp = true ∧ m < 8) := by
  refine ⟨⟨up, 0x1000, 2, reaches_of (by decide +kernel)⟩, ⟨inState 3 id, write_of (by decide +kernel) (by decide +kernel)⟩,
    ⟨inState 3 id, O_EXPERT_MAP / 256, O_EXPERT_MAP % 256, reaches_of (by decide +kernel)⟩, ⟨inState 1 id, List.replicate 8
    0, segment_of (by decide +kernel) (by decide +kernel)⟩, ⟨inState 1 (fun x => x), List.replicate 64 0, final_of (by
    decide +kernel) (by decide +kernel)⟩, ⟨{ up.put O_BEAT_COUNT 1024 with staged := [⟨O_EXPERT_MAP, .mctp, [], 0⟩] },
    ⟨O_EXPERT_MAP, .mctp, [], 0⟩, by decide +kernel⟩, ⟨up, ⟨by decide +kernel, by decide +kernel⟩⟩, ⟨up, O_GD_FLAGS / 256,
    O_GD_FLAGS % 256, reaches_of (by decide +kernel)⟩, ⟨up, clear_of (by decide +kernel) (by decide +kernel)⟩, ⟨up,
    [(0x1000, 2)], by decide +kernel⟩, ⟨up, 7, by decide +kernel⟩⟩

theorem meets_ManagementCommandsComplete :
    (∃ (s : State) (addr : Nat), addr < 128) ∧
    (∃ (s : State) (b : Binding) (eid : Nat), s.bindingUp b = true ∧ 0 < eid ∧ eid < 255) ∧
    (∃ (s : State) (b : Binding), s.bindingUp b = true) ∧
    (∃ (s : State) (b : Binding), s.bindingUp b = true) ∧
    (∃ (s : State) (b : Binding), s.bindingUp b = true) ∧
    (∃ (s : State) (b : Binding), s.bindingUp b = true) ∧
    (∃ (s : State), s.spdmBusy = false) ∧
    (∃ (s : State), s.spdmBusy = false ∧ 1 ≤ s.spdmState) ∧
    (∃ (s : State), s.spdmBusy = false ∧ 2 ≤ s.spdmState) ∧
    (∃ (s : State), s.spdmBusy = false ∧ 3 ≤ s.spdmState) ∧
    (∃ (s : State) (off len : Nat), s.spdmBusy = false ∧ 3 ≤ s.spdmState) ∧
    (∃ (s : State) (nonce : Bytes), s.spdmBusy = false ∧ 3 ≤ s.spdmState ∧ nonce.length = 32) ∧
    (∃ (s : State) (index : Nat) (signed : Bool) (nonce : Bytes), s.spdmBusy = false ∧ 3 ≤ s.spdmState ∧ (index ≤ 7 ∨
      index = 0xFF) ∧ (signed = true → nonce.length = 32)) := by
  refine ⟨⟨up, 127, ?_⟩, ⟨up.put O_SMBUS_ENABLE 1, .smbus, 254, ?_⟩, ⟨up, .i3c, ?_⟩, ⟨up, .i3c, ?_⟩, ⟨up.put O_SMBUS_ENABLE
    1, .smbus, ?_⟩, ⟨up, .i3c, ?_⟩, ⟨{ up with measured := [[]], spdmState := 0 }, ?_⟩,
    ⟨{ up with measured := [[]], spdmState := 1 }, ?_⟩, ⟨{ up with measured := [[]], spdmState := 2 }, ?_⟩,
    ⟨{ up with measured := [[]], spdmState := 3 }, ?_⟩, ⟨{ up with measured := [[]], spdmState := 3 }, 0, 4096, ?_⟩,
    ⟨{ up with measured := [[]], spdmState := 3 }, List.replicate 32 0, ?_⟩, ⟨{ up with measured := [[]], spdmState := 3 },
    0xFF, true, List.replicate 32 0, ?_⟩⟩
  all_goals decide +kernel

theorem meets_StepKeepsSettled :
    ∃ s t : State, Settled s ∧ step s = .next t := by
  refine ⟨up, up, ⟨settled_up, rfl⟩⟩

theorem meets_NoticeFollowsFirstFlag :
    ∃ s t : State, exec (.cellFault 0 0 .spineUncorrectable) s = .next t ∧ s.engSummary = 0 ∧ t.engSummary ≠ 0 ∧ t.get
      O_NOTICE_ENABLE ≠ 0 := by
  refine ⟨up.put O_NOTICE_ENABLE 1, _, ⟨rfl, by decide +kernel, by decide +kernel, by decide +kernel⟩⟩

theorem meets_WriteKeepsOtherBytes :
    ∃ (s : State) (a : Nat) (bs : Bytes), s.ckpt = none ∧ Memory.wf s.mem = true := by
  refine ⟨up, data, [1], ?_⟩
  all_goals decide +kernel

theorem meets_HomeCommandsKeepMemoryCanonical :
    ∃ (s t : State) (i : Instr), (∃ r, i = .load r ∨ i = .store r ∨ i = .min r ∨ i = .max r ∨ i = .cas r ∨ i = .copyChunk
      r) ∧ Memory.wf s.mem = true ∧ exec i s = .next t := by
  refine ⟨up, _, .load (req .load 8), ⟨⟨_, .inl rfl⟩, by decide +kernel, rfl⟩⟩

theorem meets_WipedPageReadsZero :
    ∃ (s : State) (u : Nat) (a : Nat), s.coreUp = true ∧ s.ckpt = none ∧ wipesFirst s.wipingPages 24 u = true ∧ u * 65536
      ≤ a ∧ a < u * 65536 + 65536 := by
  refine ⟨{ up with wipingPages := [3] }, 3, 3 * 65536 + 65535, ?_⟩
  all_goals decide +kernel

theorem meets_RingCommandsRefuse :
    (∃ (s : State) (c : _) (i : _) (d : Bytes) (code : Nat), s.front c = some (i, d) ∧ fld d 0 1 = 0x00 ∧ firstCode
      (bareChecks s c d) = some code) ∧
    (∃ (s : State) (c : _) (i : _) (d : Bytes) (code : Nat), s.front c = some (i, d) ∧ fld d 0 1 = 0x35 ∧ firstCode
      (bareChecks s c d) = some code) ∧
    (∃ (s : State) (c : _) (i : _) (d : Bytes) (code : Nat), s.front c = some (i, d) ∧ fld d 0 1 = 0x31 ∧ fld d 24 1 ≠ 1 ∧
      firstCode (waitChecks s c d) = some code) ∧
    (∃ (s : State) (c : _) (i : _) (d : Bytes) (code : Nat), s.front c = some (i, d) ∧ fld d 0 1 = 0x40 ∧ firstCode
      (cancelChecks s c d) = some code) ∧
    (∃ (s : State) (c : _) (i : _) (d : Bytes) (code : Nat), s.front c = some (i, d) ∧ fld d 0 1 = 0x30 ∧ firstCode
      (markChecks s c d) = some code) ∧
    (∃ (s : State) (c : _) (i : _) (d : Bytes) (code : Nat), s.front c = some (i, d) ∧ fld d 0 1 = 0x01 ∧ s.atWindowLimit
      c = false ∧ firstCode (s.fwdChecks c d) = some code) ∧
    (∃ (s : State) (c : _) (i : _) (d : Bytes) (code : Nat), s.front c = some (i, d) ∧ fld d 0 1 = 0x20 ∧ fld d 18 1 = 2 ∧
      (s.ctx c).coll = none ∧ firstCode (s.collChecks c d) = some code) ∧
    (∃ (s : State) (c : _) (i : _) (d : Bytes), s.front c = some (i, d) ∧ fld d 0 1 ∉ opcodes) := by
  refine ⟨⟨front 3 (desc 0x00 [(63, 1, 1)]) id, 0, 0, desc 0x00 [(63, 1, 1)], 0x12, ?_⟩, ⟨front 3 (desc 0x35 [(16, 1, 1)])
    id, 0, 0, desc 0x35 [(16, 1, 1)], 0x12, ?_⟩, ⟨front 3 (desc 0x31 [(24, 1, 2)]) id, 0, 0, desc 0x31 [(24, 1, 2)], 0x12,
    ?_⟩, ⟨front 3 (desc 0x40 [(60, 1, 1)]) id, 0, 0, desc 0x40 [(60, 1, 1)], 0x12, ?_⟩, ⟨front 2 (desc 0x30 [(24, 1, 2)])
    id, 0, 0, desc 0x30 [(24, 1, 2)], 0x12, ?_⟩, ⟨front 3 (desc 0x01 []) id, 0, 0, desc 0x01 [], 0x12, ?_⟩, ⟨front 3 (desc
    0x20 [(18, 1, 2), (20, 1, 7)]) id, 0, 0, desc 0x20 [(18, 1, 2), (20, 1, 7)], 0x13, ?_⟩, ⟨front 3 (desc 0x7F []) id, 0,
    0, desc 0x7F [], ?_⟩⟩
  all_goals decide +kernel

theorem meets_RefusalTouchesOnlyItsRecord :
    (∃ (s : State) (c c' : Nat) (d : Bytes), fld d 1 1 % 2 = 0 ∧ c' ≠ c) ∧
    (∃ (s : State) (c c' : Nat) (d : Bytes), fld d 1 1 % 2 = 1 ∧ c' ≠ c) := by
  refine ⟨⟨up, 0, 1, desc 0 [], by decide⟩, ⟨up, 0, 1, desc 0 [(1, 1, 1)], by decide⟩⟩

theorem meets_AbsentLedgerIsRefused :
    ∃ (s : State) (c i : Nat) (d : Bytes), s.front c = some (i, d) ∧ fld d 0 1 = 0x02 ∧ s.atWindowLimit c = false ∧
      dflagsOk d = true ∧ othersZero d [(16, 5), (24, 40)] = true ∧ fld d 20 1 < 16 ∧ s.stateCheck c d = none ∧ (s.ctx
      c).findLedger (fld d 16 4) = none := by
  refine ⟨front 3 (desc 0x02 [(16, 4, 77)]) id, 0, 0, desc 0x02 [(16, 4, 77)], by decide +kernel⟩

theorem meets_AcceptanceMovesConsumer :
    (∃ (s : State) (c : Nat) (d : Bytes), c < 1024 ∧ runsContext (fld d 0 1) = true ∧ s.cstate c = 2) ∧
    (∃ (s : State) (c : Nat) (d : Bytes), c < 1024 ∧ ¬ (runsContext (fld d 0 1) = true ∧ s.cstate c = 2)) := by
  refine ⟨⟨inState 2 id, 0, desc 1 [], by decide +kernel⟩, ⟨inState 2 id, 0, desc 0 [], by decide +kernel⟩⟩

theorem meets_CompletedFollowsEndedRun :
    (∃ (s : State) (c : Nat), c < 1024 ∧ s.cget c O_COMPLETED < 2 ^ 32 ∧ s.cget c O_COMPLETED ∈ (s.ctx c).ring.ended) ∧
    (∃ (s : State) (c : Nat), c < 1024 ∧ s.cget c O_COMPLETED ∉ (s.ctx c).ring.ended) := by
  refine ⟨⟨inState 3 (fun x => { x with ring := { Ring.init with ended := [0] } }), 0, by decide +kernel⟩, ⟨inState 3 (fun x
    => { x with ring := { Ring.init with ended := [1] } }), 1023, by decide +kernel⟩⟩

theorem meets_EndedDescriptorIsMarked :
    ∃ (s : State) (c i code : Nat), c < 1024 ∧ s.ckpt = none ∧ code < 256 ∧ 0 < s.cget c O_RING_ENTRIES ∧ s.cget c
      O_RING_BASE + 64 + 64 * s.cget c O_RING_ENTRIES < 2 ^ 49 ∧ code ≠ 0 ∧ code ≠ 0x26 := by
  refine ⟨withObjs (inState 3 id) [(O_RING_BASE, 0x200000), (O_RING_ENTRIES, 64)], 0, 0, 0x51, ?_⟩
  all_goals decide +kernel

theorem meets_StepMarkMovesTheStep :
    ∃ (s : State) (c i n b : Nat), c < 1024 ∧ s.coreUp = true ∧ (s.ctx c).ring.marking = some (i, n, b) ∧ b ≤ s.beat ∧
      s.dueBelow 4 b = false := by
  refine ⟨inState 3 (fun x => { x with ring := { Ring.init with holds := [.stepMark 0 1 0 false] } }), 0, 0, 1, 0, ?_⟩
  all_goals decide +kernel

theorem meets_RingCommandsTouchOneContext :
    ∃ (s t : State) (c : Nat) (i : Instr) (c' : Nat), (i = .nop c ∨ i = .fence c ∨ i = .waitBeatAbsolute c ∨ i =
      .waitBeatRelative c ∨ i = .waitBeatRelease c ∨ i = .fenceRelease c ∨ i = .digestSnap c ∨ i = .digestSnapCapture c) ∧
      exec i s = .next t ∧ c' ≠ c := by
  refine ⟨up, _, 0, .nop 0, 1, ⟨.inl rfl, rfl, by decide⟩⟩

theorem meets_ContextStateTransitions :
    (∃ (s : State) (c : Nat) (i : ObjInfo), Reaches s .mctp (keyReq (ctxKey c O_CTX_CTRL) (leBytes 1 1)) i ∧ s.writeCheck
      .mctp (ctxKey c O_CTX_CTRL) i (leBytes 1 1) = none ∧ c < 1024 ∧ s.cstate c = 0 ∧ (s.paired = false ∨ s.ownHalf c =
      true)) ∧
    (∃ (s : State) (c : Nat) (i : ObjInfo), Reaches s .mctp (keyReq (ctxKey c O_CTX_CTRL) (leBytes 1 2)) i ∧ s.writeCheck
      .mctp (ctxKey c O_CTX_CTRL) i (leBytes 1 2) = none ∧ c < 1024 ∧ s.cstate c = 1 ∧ s.armCheck c = none) ∧
    (∃ (s : State) (c : Nat) (i : ObjInfo), Reaches s .mctp (keyReq (ctxKey c O_CTX_CTRL) (leBytes 1 3)) i ∧ s.writeCheck
      .mctp (ctxKey c O_CTX_CTRL) i (leBytes 1 3) = none ∧ c < 1024 ∧ s.cstate c = 2) ∧
    (∃ (s : State) (c : Nat) (i : ObjInfo), Reaches s .mctp (keyReq (ctxKey c O_CTX_CTRL) (leBytes 1 6)) i ∧ s.writeCheck
      .mctp (ctxKey c O_CTX_CTRL) i (leBytes 1 6) = none ∧ c < 1024 ∧ s.cstate c = 5) ∧
    (∃ (s : State) (c : Nat) (i : ObjInfo), Reaches s .mctp (keyReq (ctxKey c O_CTX_CTRL) (leBytes 1 7)) i ∧ s.writeCheck
      .mctp (ctxKey c O_CTX_CTRL) i (leBytes 1 7) = none ∧ c < 1024 ∧ (s.cstate c = 1 ∨ s.cstate c = 2 ∨ s.cstate c = 5 ∨
      s.cstate c = 6)) := by
  refine ⟨⟨up, 0, transition_of (by decide +kernel) (by decide +kernel) (by decide +kernel)⟩, ⟨armable, 0, transition_of (by
    decide +kernel) (by decide +kernel) (by decide +kernel)⟩, ⟨inState 2 id, 0, transition_of (by decide +kernel) (by
    decide +kernel) (by decide +kernel)⟩, ⟨inState 5 id, 0, transition_of (by decide +kernel) (by decide +kernel) (by
    decide +kernel)⟩, ⟨inState 6 id, 0, transition_of (by decide +kernel) (by decide +kernel) (by decide +kernel)⟩⟩

theorem meets_ContextControlConflicts :
    (∃ (s : State) (c : Nat), s.cstate c ≠ 0) ∧
    (∃ (s : State) (c : Nat), s.cstate c ≠ 1) ∧
    (∃ (s : State) (c : Nat), s.cstate c ≠ 2) ∧
    (∃ (s : State) (c : Nat), s.cstate c ≠ 3) ∧
    (∃ (s : State) (c : Nat), s.cstate c ≠ 2 ∧ s.cstate c ≠ 3 ∧ s.cstate c ≠ 4) ∧
    (∃ (s : State) (c : Nat), s.cstate c ≠ 5) ∧
    (∃ (s : State) (c : Nat), (s.cstate c = 0 ∨ s.cstate c = 3 ∨ s.cstate c = 4 ∨ s.cstate c = 7)) ∧
    (∃ (s : State) (c : Nat), (s.ctx c).ring.paused = false) ∧
    (∃ (s : State) (c : Nat), s.cstate c ≠ 5) := by
  refine ⟨⟨inState 1 id, 0, ?_⟩, ⟨inState 2 id, 0, ?_⟩, ⟨inState 3 id, 0, ?_⟩, ⟨inState 2 id, 0, ?_⟩, ⟨inState 1 id, 0, ?_⟩,
    ⟨inState 4 id, 0, ?_⟩, ⟨inState 7 id, 0, ?_⟩, ⟨inState 3 id, 0, ?_⟩, ⟨inState 4 id, 0, ?_⟩⟩
  all_goals decide +kernel

theorem meets_WindowsTakeTheirTags :
    (∃ (s : State) (c : Nat) (d : Bytes), c < 1024 ∧ fld d 62 1 ≠ 1 ∧ (s.ctx c).seqNext < 2 ^ 21) ∧
    (∃ (s : State) (c : Nat) (d : Bytes) (q mb : Nat), c < 1024 ∧ fld d 62 1 = 1 ∧ (s.ctx c).openA.getLast? = some (q,
      mb)) := by
  refine ⟨⟨inState 3 (fun x => { x with seqNext := 2 ^ 21 - 1 }), 1023, desc 1 [], by decide +kernel⟩, ⟨inState 3 (fun x =>
    { x with openA := [(2 ^ 21 - 1, 0)] }), 0, desc 1 [(62, 1, 1)], 2 ^ 21 - 1, 0, by decide +kernel⟩⟩

theorem meets_UnmatchedReturnIsDiscarded :
    (∃ (s : State) (r : Record), s.coreUp = true ∧ r.hdr.tag < 2 ^ 32 ∧ Unmatched s r ∧ s.cstate (tagCtx r.hdr.tag) ≠ 0) ∧
    (∃ (s : State) (r : Record), s.coreUp = true ∧ r.hdr.tag < 2 ^ 32 ∧ Unmatched s r ∧ s.cstate (tagCtx r.hdr.tag) ≠ 0) ∧
    (∃ (s : State) (r : Record), s.coreUp = true ∧ r.hdr.tag < 2 ^ 32 ∧ Unmatched s r ∧ s.cstate (tagCtx r.hdr.tag) = 0) := by
  refine ⟨⟨inState 3 id, rcd 0 5, ⟨by decide +kernel, by decide +kernel, .inl (by decide +kernel), by decide +kernel⟩⟩,
    ⟨withWin 9 (fun w => { w with ledger := some { led with toks := [] } }), rcd 16 5, ⟨by decide +kernel, by
    decide +kernel, .inr (.inr (.inr (ex_some (by decide +kernel)))), by decide +kernel⟩⟩, ⟨up, rcd 16 6, ⟨by
    decide +kernel, by decide +kernel, .inr (.inl (by decide +kernel)), by decide +kernel⟩⟩⟩

theorem meets_DuplicateReturnIsDiscarded :
    ∃ (s : State) (r : Record) (w : Window) (e : LedgerCopy), s.coreUp = true ∧ r.hdr.tag < 2 ^ 32 ∧ Answers s r w e ∧
      w.answered r.hdr.token e = true := by
  refine ⟨withWin 9 (fun w =>
    { w with ledger := some { led with toks := [⟨1, 1, false, false, [{ copy0 with returned := true }]⟩] } }), rcd 16 5,
    winAt 9 (fun w =>
    { w with ledger := some { led with toks := [⟨1, 1, false, false, [{ copy0 with returned := true }]⟩] } }),
    { copy0 with returned := true }, ⟨by decide +kernel, by decide +kernel, ⟨by decide +kernel, by decide +kernel, by
    decide +kernel, by decide +kernel, by decide +kernel, by decide +kernel, ex_some (by decide +kernel)⟩, by
    decide +kernel⟩⟩

theorem meets_LateResponseIsDiscarded :
    ∃ (s : State) (id c : Nat), s.coreUp = true ∧ c < 1024 ∧ s.cstate c ≠ 0 ∧ (∀ q ∈ s.remotes, q.req.id ≠ id) ∧
      (s.lapsed.find? fun p => p.1 == id) = some (id, c) := by
  refine ⟨{ inState 3 id with lapsed := [(9, 0)] }, 9, 0, by decide +kernel⟩

theorem meets_LineServiceApplies :
    (∃ (s : State) (l : Nat) (q : Queued) (rest : List Queued), s.coreUp = true ∧ s.ckpt = none ∧ s.queue l = q :: rest ∧
      64 * l ≤ addrKey q.req.addr ∧ addrKey q.req.addr + q.req.size ≤ 64 * l + 64 ∧ 0 < q.req.size ∧ q.req.op = .store ∧
      q.req.data.length = q.req.size) ∧
    (∃ (s : State) (l : Nat) (q : Queued) (rest : List Queued), s.coreUp = true ∧ s.ckpt = none ∧ s.queue l = q :: rest ∧
      64 * l ≤ addrKey q.req.addr ∧ addrKey q.req.addr + q.req.size ≤ 64 * l + 64 ∧ 0 < q.req.size ∧ (q.req.op = .add ∨
      q.req.op = .min ∨ q.req.op = .max ∨ q.req.op = .cas) ∧ s.isPoisoned q.req.addr q.req.size = false ∧ q.merged = [] ∧
      q.silent = false) ∧
    (∃ r : RemoteReq, r.op = .add ∧ r.ty = .int32) ∧
    (∃ r : RemoteReq, r.op = .add ∧ r.ty = .int64) ∧
    (∃ r : RemoteReq, r.op = .min ∧ r.ty = .int32) ∧
    (∃ r : RemoteReq, r.op = .max ∧ r.ty = .int32) ∧
    (∃ r : RemoteReq, r.op = .cas) := by
  refine ⟨⟨{ up with queues := [(0, [⟨req .store 64, [], [], false⟩])] }, 0, ⟨req .store 64, [], [], false⟩, [], by
    decide +kernel⟩, ⟨{ up with queues := [(0, [⟨req .cas 8, [], [], false⟩])] }, 0, ⟨req .cas 8, [], [], false⟩, [], by
    decide +kernel⟩, ⟨{ req .add 4 with ty := .int32 }, by decide +kernel⟩, ⟨{ req .add 8 with ty := .int64 }, by
    decide +kernel⟩, ⟨{ req .min 4 with ty := .int32 }, by decide +kernel⟩, ⟨{ req .max 4 with ty := .int32 }, by
    decide +kernel⟩, ⟨req .cas 4, by decide +kernel⟩⟩

theorem meets_PoolLevelsHaveHysteresis :
    (∃ free cnt amber red black old : Nat, old ≤ 3 ∧ black < red ∧ red < amber ∧ old = 3 ∧ ¬ free * 100 < (black + 1) *
      cnt) ∧
    (∃ free cnt amber red black old : Nat, old ≤ 3 ∧ black < red ∧ red < amber ∧ old = 3 ∧ free * 100 < (black + 1) * cnt) ∧
    (∃ free cnt amber red black old : Nat, old ≤ 3 ∧ black < red ∧ red < amber ∧ old = 2 ∧ free * 100 < (red + 1) * cnt) ∧
    (∃ free cnt amber red black old : Nat, old ≤ 3 ∧ black < red ∧ red < amber ∧ old = 1 ∧ free * 100 < (amber + 1) * cnt) ∧
    (∃ free cnt amber red black old : Nat, old ≤ 3 ∧ black < red ∧ red < amber ∧ (amber + 1) * cnt ≤ free * 100 ∧ 0 < cnt) := by
  refine ⟨⟨3, 100, 30, 20, 2, 3, by decide⟩, ⟨2, 100, 30, 20, 2, 3, by decide⟩, ⟨20, 100, 30, 20, 2, 2, by decide⟩, ⟨30,
    100, 30, 20, 2, 1, by decide⟩, ⟨31, 100, 30, 20, 2, 0, by decide⟩⟩

theorem meets_FlagsRaiseAndClear :
    ∃ (s : State) (k b b' k' : Nat), b < 32 ∧ b' < 32 ∧ b' ≠ b ∧ k' ≠ k ∧ (k, b') ≠ (k, b) := by
  refine ⟨up, O_GD_FLAGS, 31, 0, O_DICT_FLAGS, by decide⟩

theorem meets_ReadAnswersTheValue :
    ∃ (s : State) (index sub : Nat) (i : ObjInfo), Reaches s .mctp (pathReq 1 1 index sub 0 0 false []) i := by
  refine ⟨up, 0x1000, 2, reaches_of (by decide +kernel)⟩

theorem meets_RefusedWriteHasNoEffect :
    (∃ (s : State) (index sub code : Nat), s.reqWaits .mctp index = false ∧ s.reachCheck .mctp (pathReq 2 1 index sub 0 2
      false [0, 0]) = some code) ∧
    (∃ (s : State) (index sub code : Nat), s.reqWaits (.host 0) index = false ∧ s.reachCheck (.host 0) (pathReq 2 1 index
      sub 0 2 false [0, 0]) = some code) := by
  refine ⟨⟨up, 0x1000, 2, 0x15, ⟨by decide +kernel, by decide +kernel⟩⟩, ⟨up, O_HOST_GRANTS / 256, O_HOST_GRANTS % 256,
    0x11, ⟨by decide +kernel, by decide +kernel⟩⟩⟩

theorem meets_DeadlineBeatsHoldTheirRange :
    (∃ (s : State) (v : Nat) (i : ObjInfo), objAt (ctxKey 0 O_DEADLINE_BEATS / 256) (ctxKey 0 O_DEADLINE_BEATS % 256) =
      some i ∧ s.writableNow .mctp (ctxKey 0 O_DEADLINE_BEATS) i v = true ∧ v < 2 ^ 16 ∧ 8 ≤ v) ∧
    (∃ (s : State) (v : Nat) (i : ObjInfo), objAt (ctxKey 0 O_DEADLINE_BEATS / 256) (ctxKey 0 O_DEADLINE_BEATS % 256) =
      some i ∧ s.writableNow .mctp (ctxKey 0 O_DEADLINE_BEATS) i v = true ∧ v < 2 ^ 16 ∧ v < 8) := by
  refine ⟨⟨inState 3 id, 8, object_of (P := fun i => (inState 3 id).writableNow .mctp (ctxKey 0 O_DEADLINE_BEATS) i 8) (by
    decide +kernel) (by decide +kernel)⟩, ⟨inState 3 id, 7, object_of (P := fun i => (inState 3 id).writableNow .mctp
    (ctxKey 0 O_DEADLINE_BEATS) i 7) (by decide +kernel) (by decide +kernel)⟩⟩

theorem meets_SixtyFifthD2IsRefused :
    ∃ (s : State) (i : ObjInfo), objAt (ctxKey 0 O_DET_LEVEL / 256) (ctxKey 0 O_DET_LEVEL % 256) = some i ∧ s.writeCheck
      .mctp (ctxKey 0 O_DET_LEVEL) i (leBytes 1 2) = none ∧ s.cstate 0 = 1 ∧ s.det 0 ≠ 2 ∧ 64 ≤ s.d2Count ∧ s.cget 0
      O_RESERVE_CHECK = 1 ∧ ¬ (s.cget 0 O_CARAMEL_MODE = 1 ∧ s.cget 0 O_SCOPE = 0) := by
  refine ⟨manyD2, checked_of (by decide +kernel) (by decide +kernel)⟩

theorem meets_QuietCommandsKeepWork :
    ∃ (s t : State) (i : Instr), (i = .beatLost ∨ i = .holdoverLimitPassed ∨ i = .profileChange ∨ i = .noticeIntervalEnd)
      ∧ exec i s = .next t := by
  refine ⟨up, _, .beatLost, ⟨Or.inl rfl, rfl⟩⟩

theorem meets_BeatEventsKeepObjects :
    ∃ s t : State, s.get O_BEAT_STATE = 3 ∧ exec .beatBoundary s = .next t := by
  refine ⟨up.put O_BEAT_STATE 3, _, ⟨by decide +kernel, rfl⟩⟩

theorem meets_QuarantineEndsEveryContext :
    ∃ s : State, s.coreUp = true := by
  refine ⟨up, by decide +kernel⟩

/-! ### Numbers worked out in the manual -/

/-- "A block of sixteen, worked": the scale byte 71h and the packed codes. -/
theorem test_block_of_sixteen :
    (let q := quantBlock .e2m1 .b16 .nearest 0x3B800000 0 []
      (bf16Row (bf16Bytes [0x3EA0, 0xBF98, 0x4038, 0x3D40, 0xBF20, 0x3FE0, 0xC018, 0, 0x3F60, 0xBE20, 0x3F90, 0xC054,
        0x3EF0, 0x4004, 0xBF70, 0x3E80]))
     (q.1, packElems .e2m1 q.2.1)) = (0x71, [0xC1, 0x07, 0x5A, 0x0E, 0x93, 0xF4, 0x62, 0x1B]) := by decide +kernel

/-- The same amax in MXFP4: scale code 7Eh. -/
theorem test_mx_scale : mxScale .e2m1 0x40540000 = 0x7E := by decide +kernel

/-- "One element, worked": row 37, column 600 of a diagonal tensor of 40 bands. -/
theorem test_diagonal_element : diagOff 40 37 1200 = 0xA2C20 := by decide

/-- The check value that R230 states for CRC-64. -/
theorem test_crc64 : crc64 [0x31, 0x32, 0x33, 0x34, 0x35, 0x36, 0x37, 0x38, 0x39] = 0x995DC9BBDF1939FA := by decide +kernel

/-- "A route, worked": from node 5.3 to 20.40 with X minus and Y plus; with 4.3 in bypass the Y leg goes first. -/
theorem test_route :
    (let s := withObjs State.reset ([(O_NODE_ID, 323), (O_TORUS_X, 8), (O_TORUS_Y, 4)] ++
        (List.range 12).map fun l => (unitKey l O_LINK_STATE, 2))
     ((s.routes 1320).find? fun r => s.intact r 1320,
      ({ s with bypassed := [4 * 64 + 3] }.routes 1320).find? fun r => { s with bypassed := [4 * 64 + 3] }.intact r 1320))
      = (some ⟨0, true, false⟩, some ⟨1, true, false⟩) := by decide +kernel

/-- The worked caramel update: loads 10, 6, 4 and 4 move the biases by −64, 0, +16 and +16. -/
theorem test_caramel :
    (caramelUpdate { eta := 16, clamp := 16384, tol := 32, far := 4, boost := 4 } [true, true, true, true] [10, 6, 4, 4]
      [0, 0, 0, 0]).1 = [-64, 0, 16, 16] := by decide

/-- EXCHANGE_FLAGS of context 37 lies at 825Eh:60. -/
theorem test_exchange_flags : ctxKey 37 O_EXCHANGE_FLAGS = 0x825E * 256 + 0x60 := by decide

/-- The worked chunk of R371, and the T5 byte of R37. -/
theorem test_zero_run : unpackChunk 5 [0x02, 0x58, 0x3A, 0x00, 0x83] = some [0x58, 0x3A, 0x00, 0, 0, 0, 0, 0] := by decide

theorem test_t5_byte : t5Codes [0x58] = ([1, 3, 0, 0, 1], 0) := by decide

end Sys2Proof.Tests
end

section
/-! Proofs of the statements about windows, their tags and the objects of a context that shape them (R9 to R28). -/

namespace Sys2Proof.Machine

open Sys2Proof

/-! ### What a ring operation leaves alone

Writes of memory touch memory, its poison, a running checkpoint and the counter of its stalls (R500); the operations of a
ring touch, beside those, objects, flags and mirror records, and of the structured state only the ring and the refusal
record of its own context. -/

theorem State.copyChunk_shape (s : State) (j : CkptJob) (ch : Nat × Nat) :
    ∃ p m k, s.copyChunk j ch = { s with poisoned := p, mem := m, ckpt := k } := by
  unfold State.copyChunk
  split
  · exact ⟨s.poisoned, s.mem, s.ckpt, rfl⟩
  · exact ⟨_, _, _, rfl⟩

theorem State.cow_shape (s : State) (q n : Nat) :
    ∃ ob p m k, s.cow q n = { s with objs := ob, poisoned := p, mem := m, ckpt := k } := by
  unfold State.cow
  split
  · exact ⟨s.objs, s.poisoned, s.mem, s.ckpt, rfl⟩
  · split
    · exact ⟨s.objs, s.poisoned, s.mem, s.ckpt, rfl⟩
    · rename_i j hj _
      clear hj
      generalize List.filter _ _ = chunks
      induction chunks generalizing s with
      | nil => exact ⟨s.objs, s.poisoned, s.mem, s.ckpt, rfl⟩
      | cons ch rest ih =>
        rw [List.foldl_cons]
        split
        · rename_i j _
          obtain ⟨p, m, k, hc⟩ := s.copyChunk_shape j ch
          obtain ⟨ob', p', m', k', h⟩ := ih ((s.copyChunk j ch).bump O_COW_STALLS 1)
          rw [h, hc]
          exact ⟨ob', p', m', k', rfl⟩
        · exact ih s

/-- A write of memory. -/
theorem State.wr_shape (s : State) (a : Nat) (bs : Bytes) :
    ∃ ob p m k, s.wr a bs = { s with objs := ob, poisoned := p, mem := m, ckpt := k } := by
  obtain ⟨ob, p, m, k, h⟩ := s.cow_shape (addrKey a) bs.length
  unfold State.wr
  dsimp only
  rw [h]
  exact ⟨_, _, _, _, rfl⟩

@[simp] theorem State.wr_ctx (s : State) (a : Nat) (bs : Bytes) (c : Nat) : (s.wr a bs).ctx c = s.ctx c := by
  obtain ⟨_, _, _, _, h⟩ := s.wr_shape a bs
  rw [h]
  rfl

@[simp] theorem State.mirrorAll_ctx (s : State) (k : MirrorKind) (c : Nat) (v : List (Nat × Nat)) (n : List Nat)
    (i : List (Nat × Bytes)) (l : Option Ledger) (c' : Nat) : (s.mirrorAll k c v n i l).ctx c' = s.ctx c' := by
  obtain ⟨_, _, _, _, h⟩ := s.mirrorAll_shape k c v n i l
  rw [h]
  rfl

@[simp] theorem State.ctx_modCtx_same (s : State) (c : Nat) (f : Ctx → Ctx) : (s.modCtx c f).ctx c = f (s.ctx c) :=
  s.ctx_setCtx_same c _

/-- From `s` to `t`, contexts, pools, groups, items, gradients, remote operations and line queues stay, but for the ring of
context `c` and its record of the last refusal. -/
structure RingOnly (c : Nat) (s t : State) : Prop where
  own : ∃ r l, t.ctx c = { s.ctx c with ring := r, lastRefusal := l }
  others : ∀ c', c' ≠ c → t.ctx c' = s.ctx c'
  pools : t.pools = s.pools
  groups : t.groups = s.groups
  items : t.items = s.items
  gradHeld : t.gradHeld = s.gradHeld
  remotes : t.remotes = s.remotes
  queues : t.queues = s.queues

namespace RingOnly

variable {c : Nat} {s t u : State}

theorem trans (h : RingOnly c s t) (k : RingOnly c t u) : RingOnly c s u := by
  obtain ⟨r, l, ho⟩ := h.own
  obtain ⟨r', l', ko⟩ := k.own
  exact ⟨⟨r', l', by rw [ko, ho]⟩, fun c' hc => (k.others c' hc).trans (h.others c' hc), k.pools.trans h.pools,
    k.groups.trans h.groups, k.items.trans h.items, k.gradHeld.trans h.gradHeld, k.remotes.trans h.remotes,
    k.queues.trans h.queues⟩

theorem refl (c : Nat) (s : State) : RingOnly c s s := ⟨⟨_, _, rfl⟩, fun _ _ => rfl, rfl, rfl, rfl, rfl, rfl, rfl⟩

theorem ite {p : Prop} [Decidable p] (h : RingOnly c s t) (k : RingOnly c s u) : RingOnly c s (if p then t else u) := by
  split
  · exact h
  · exact k

theorem put (c : Nat) (s : State) (k v : Nat) : RingOnly c s (s.put k v) :=
  ⟨⟨_, _, rfl⟩, fun _ _ => rfl, rfl, rfl, rfl, rfl, rfl, rfl⟩

theorem raise (c : Nat) (s : State) (k b : Nat) : RingOnly c s (s.raise k b) :=
  ⟨⟨_, _, rfl⟩, fun _ _ => rfl, rfl, rfl, rfl, rfl, rfl, rfl⟩

theorem genUp (c : Nat) (s : State) (k : Nat) : RingOnly c s (s.genUp k) :=
  ⟨⟨_, _, rfl⟩, fun _ _ => rfl, rfl, rfl, rfl, rfl, rfl, rfl⟩

theorem wr (c : Nat) (s : State) (a : Nat) (bs : Bytes) : RingOnly c s (s.wr a bs) := by
  obtain ⟨_, _, _, _, h⟩ := s.wr_shape a bs
  rw [h]
  exact ⟨⟨_, _, rfl⟩, fun _ _ => rfl, rfl, rfl, rfl, rfl, rfl, rfl⟩

theorem mirrorAll (c : Nat) (s : State) (k : MirrorKind) (c' : Nat) (v : List (Nat × Nat)) (n : List Nat)
    (i : List (Nat × Bytes)) (l : Option Ledger) : RingOnly c s (s.mirrorAll k c' v n i l) := by
  obtain ⟨_, _, _, _, h⟩ := s.mirrorAll_shape k c' v n i l
  rw [h]
  exact ⟨⟨_, _, rfl⟩, fun _ _ => rfl, rfl, rfl, rfl, rfl, rfl, rfl⟩

theorem modRing (c : Nat) (s : State) (f : Ring → Ring) : RingOnly c s (s.modRing c f) :=
  ⟨⟨_, _, s.ctx_modCtx_same c _⟩, fun _ hc => s.ctx_setCtx_ne _ hc, rfl, rfl, rfl, rfl, rfl, rfl⟩

theorem setLastRefusal (c : Nat) (s : State) (img : Bytes) :
    RingOnly c s (s.modCtx c fun x => { x with lastRefusal := img }) :=
  ⟨⟨_, _, s.ctx_modCtx_same c _⟩, fun _ hc => s.ctx_setCtx_ne _ hc, rfl, rfl, rfl, rfl, rfl, rfl⟩

theorem syncRing (c : Nat) (s : State) : RingOnly c s (s.syncRing c) :=
  (put c s _ _).trans (.ite (.refl c _) (wr c _ _ _))

theorem setIndices (c : Nat) (s : State) (cons comp : Nat) : RingOnly c s (s.setIndices c cons comp) :=
  (((put c s _ _).trans (put c _ _ _)).trans (syncRing c _)).trans (mirrorAll c _ _ _ _ _ _ _)

theorem pauseRing (c : Nat) (s : State) (onDesc : Bool) : RingOnly c s (s.pauseRing c onDesc) :=
  (modRing c s _).trans (syncRing c _)

theorem stepConsumer (c : Nat) (s : State) (i : Nat) : RingOnly c s (s.stepConsumer c i) :=
  (modRing c s _).trans (setIndices c _ _ _)

theorem advance (c : Nat) (s : State) : RingOnly c s (s.advance c) :=
  .ite (syncRing c s) ((modRing c s _).trans (setIndices c _ _ _))

theorem writeStatus (c : Nat) (s : State) (i code : Nat) (done : Bool) : RingOnly c s (s.writeStatus c i code done) :=
  (wr c s _ _).trans (.ite (wr c _ _ _) (.refl c _))

theorem recordRefusal (c : Nat) (s : State) (i op code : Nat) : RingOnly c s (s.recordRefusal c i op code) :=
  (((setLastRefusal c s _).trans (genUp c _ _)).trans (put c _ _ _)).trans (raise c _ _ _)

theorem raiseIf (c : Nat) (s : State) (p : Prop) [Decidable p] (k b : Nat) :
    RingOnly c s (if p then s.craise c k b else s) := .ite (raise c s _ _) (.refl c s)

/-- A refusal (R400). -/
theorem refuseCmd (c : Nat) (s : State) (i : Nat) (d : Bytes) (code : Nat) : RingOnly c s (s.refuseCmd c i d code) :=
  have recorded := (writeStatus c s i code false).trans (recordRefusal c _ i (fld d 0 1) code)
  have flagged := ((recorded.trans (raiseIf c _ _ O_DET_FLAGS 2)).trans (raiseIf c _ _ O_WEIGHT_FLAGS 2)).trans
    (raiseIf c _ _ O_WEIGHT_FLAGS 3)
  flagged.trans (.ite
    ((((wr c _ _ _).trans (modRing c _ _)).trans (stepConsumer c _ i)).trans (advance c _))
    ((modRing c _ _).trans (pauseRing c _ true)))

theorem windows (h : RingOnly c s t) : (t.ctx c).windows = (s.ctx c).windows := by
  obtain ⟨_, _, ho⟩ := h.own
  rw [ho]

theorem ledgers (h : RingOnly c s t) : (t.ctx c).ledgers = (s.ctx c).ledgers := by
  obtain ⟨_, _, ho⟩ := h.own
  rw [ho]

end RingOnly

/-! ### LAYER_BWD without its ledger (R28) -/

/-- Past the reserved bits, HOSTMAP and the state of the context, a ledger that is absent is the first check to fail. -/
theorem State.bwdChecks_absent {s : State} {c : Nat} {d : Bytes} (hf : dflagsOk d = true)
    (ho : othersZero d [(16, 5), (24, 40)] = true) (hm : fld d 20 1 < 16) (hs : s.stateCheck c d = none)
    (hl : (s.ctx c).findLedger (fld d 16 4) = none) : firstCode (s.bwdChecks c d) = some 0x35 := by
  have hr : reservedCheck d [(16, 5), (24, 40)] = none := by simp [reservedCheck, hf, ho]
  simp [State.bwdChecks, firstCode, hr, hs, hl, hm, need]

/-- LAYER_BWD at the front of a ring that has room for a window and fails a check is refused with that check's code. -/
theorem exec_layerBwd_refused {s : State} {c i code : Nat} {d : Bytes} (hf : s.front c = some (i, d))
    (hop : fld d 0 1 = 0x02) (hw : s.atWindowLimit c = false) (hc : firstCode (s.bwdChecks c d) = some code) :
    exec (.layerBwd c) s = .next (ended s (s.refuseCmd c i d code)) := by
  have known : opcodes.contains (fld d 0 1) = true := by rw [hop]; decide
  show execLayerBwd c s = _
  unfold execLayerBwd
  rw [s.takeFront_mine _ hf known (by simp [hop]), issueLayerBwd, hw, finish_next]
  simp [s.issueDesc_fail _ known hc]

/-- Settles O38: the ledger is looked up before any address, and a refusal touches the ring alone. -/
theorem absentLedgerIsRefused : Obligations.AbsentLedgerIsRefused := by
  intro s c i d hf hop hw hfl hz hm hs hl
  have only := RingOnly.refuseCmd c s i d 0x35
  refine ⟨_, exec_layerBwd_refused hf hop hw (State.bwdChecks_absent hfl hz hm hs hl), rfl, ?_, ?_, ?_, ?_, ?_, ?_⟩
  · rw [ended_ctx, only.windows]
  · rw [ended_ctx, only.ledgers]
  · rw [ended_pools, only.pools]
  · rw [ended_items, only.items]
  · rw [ended_remotes, only.remotes]
  · exact fun c' hc => by rw [ended_ctx, only.others c' hc]

/-! ### The tags of windows (R9, R10) -/

theorem State.ctx_enterWindow (s : State) (c i : Nat) (w : Window) :
    ∃ k, (s.enterWindow c i w).ctx c = { s.ctx c with windows := (s.ctx c).windows ++ [w], known := k } := by
  unfold State.enterWindow State.writeResult State.wrNat
  simp only [State.wr_ctx, State.ctx_modCtx_same]
  exact ⟨_, rfl⟩

/-- A window entered is among those of its context. -/
theorem State.mem_enterWindow (s : State) (c i : Nat) (w : Window) : w ∈ ((s.enterWindow c i w).ctx c).windows := by
  obtain ⟨_, h⟩ := s.ctx_enterWindow c i w
  simp [h]

theorem State.seqNext_enterWindow (s : State) (c i : Nat) (w : Window) :
    ((s.enterWindow c i w).ctx c).seqNext = (s.ctx c).seqNext := by
  obtain ⟨_, h⟩ := s.ctx_enterWindow c i w
  rw [h]

@[simp] theorem State.seqNext_dropOldParts (s : State) (c q : Nat) :
    ((s.dropOldParts c q).ctx c).seqNext = (s.ctx c).seqNext := by
  simp [State.dropOldParts]

@[simp] theorem State.mirrorState_ctx (s : State) (c c' : Nat) : (s.mirrorState c).ctx c' = s.ctx c' :=
  s.mirrorAll_ctx _ _ _ _ _ _ _

/-- A half A enters a window of the next sequence number, and takes the number. -/
theorem runLayerFwd_halfA (s : State) (c i : Nat) (d : Bytes) (at_ : Option Nat) (h : fld d 62 1 ≠ 1) :
    ∃ (u : State) (w : Window), runLayerFwd s c i d at_ = u.enterWindow c i w ∧ w.tag = c * 2 ^ 22 + (s.ctx c).seqNext * 2 ∧ w.idx = i ∧
      w.tokens = fld d 56 4 ∧ w.layerSlot = fld d 60 2 ∧ w.bwd = false ∧
      (u.ctx c).seqNext = ((s.ctx c).seqNext + 1) % 2 ^ 21 := by
  have hb : (fld d 62 1 == 1) = false := by simpa using h
  unfold runLayerFwd
  simp only [hb, Bool.false_eq_true, if_false, Nat.add_zero]
  refine ⟨_, _, rfl, rfl, rfl, rfl, rfl, rfl, ?_⟩
  simp

/-- A half B enters a window of the last open half A's sequence number and microbatch, and takes no number. -/
theorem runLayerFwd_halfB (s : State) (c i : Nat) (d : Bytes) (at_ : Option Nat) (h : fld d 62 1 = 1) {q mb : Nat}
    (hq : (s.ctx c).openA.getLast? = some (q, mb)) :
    ∃ (u : State) (w : Window), runLayerFwd s c i d at_ = u.enterWindow c i w ∧ w.tag = c * 2 ^ 22 + q * 2 + 1 ∧ w.mb = mb ∧
      (u.ctx c).seqNext = (s.ctx c).seqNext := by
  have hb : (fld d 62 1 == 1) = true := by simpa using h
  have hl : (s.ctx c).openA.getLastD (0, 0) = (q, mb) := by rw [List.getLastD_eq_getLast?, hq]; rfl
  unfold runLayerFwd
  simp only [hb, hl, if_true]
  refine ⟨_, _, rfl, rfl, rfl, ?_⟩
  simp

/-- The context of a tag whose sequence number fits its 21 bits (R9). -/
theorem tagCtx_halfA {c q : Nat} (hc : c < 1024) (hq : q < 2 ^ 21) : tagCtx (c * 2 ^ 22 + q * 2) = c := by
  unfold tagCtx
  omega

/-- Settles O46: a half A takes the next sequence number, a half B that of the last open half A. -/
theorem windowsTakeTheirTags : Obligations.WindowsTakeTheirTags := by
  intro s c i d at_ hc
  refine ⟨fun hA hseq => ?_, fun hB q mb hq => ?_⟩
  · obtain ⟨u, w, hrun, htag, hidx, htok, hlay, hbwd, hnext⟩ := runLayerFwd_halfA s c i d at_ hA
    rw [hrun]
    exact ⟨w, u.mem_enterWindow c i w, htag, hidx, by rw [htag, tagCtx_halfA hc hseq], htok, hlay, hbwd,
      by rw [u.seqNext_enterWindow, hnext]⟩
  · obtain ⟨u, w, hrun, htag, hmb, hnext⟩ := runLayerFwd_halfB s c i d at_ hB hq
    rw [hrun]
    exact ⟨w, u.mem_enterWindow c i w, htag, hmb, by rw [u.seqNext_enterWindow, hnext]⟩

/-! ### DEADLINE_BEATS and DET_LEVEL (R12, R24, R25) -/

theorem leBytes_length (n v : Nat) : (leBytes n v).length = n := by
  induction n generalizing v with
  | zero => rfl
  | succ n ih => simp [leBytes, ih]

/-- A number read back from the bytes it was written in. -/
theorem leNat_leBytes (n v : Nat) (h : v < 256 ^ n) : leNat (leBytes n v) = v := by
  induction n generalizing v with
  | zero => simp [leBytes, leNat]; omega
  | succ n ih =>
    have hd : v / 256 < 256 ^ n := Nat.div_lt_of_lt_mul (by rwa [Nat.pow_succ'] at h)
    simp only [leBytes, leNat, ih _ hd, BitVec.toNat_ofNat]
    omega

/-- The row of DEADLINE_BEATS: a U16 of 8 to 65,535 (R12). -/
def deadlineBeatsRow : ObjInfo := ⟨.u16, 2, .states 0x2E, .range 8 65535⟩

theorem objAt_deadlineBeats {c : Nat} (hc : c < 1024) :
    objAt (ctxKey c O_DEADLINE_BEATS / 256) (ctxKey c O_DEADLINE_BEATS % 256) = some deadlineBeatsRow := by
  rw [objAt_ctx hc (by decide) (by decide)]
  decide +kernel

/-- The row of DET_LEVEL: a U8 of 0, 1 or 2 (R24). -/
def detLevelRow : ObjInfo := ⟨.u8, 2, .states 0x02, .set [0, 1, 2] 0x12⟩

theorem objAt_detLevel {c : Nat} (hc : c < 1024) :
    objAt (ctxKey c O_DET_LEVEL / 256) (ctxKey c O_DET_LEVEL % 256) = some detLevelRow := by
  rw [objAt_ctx hc (by decide) (by decide)]
  decide +kernel

/-- The value of DEADLINE_BEATS is all that its check looks at. -/
theorem checkValue_deadlineBeats (v : Nat) :
    checkValue deadlineBeatsRow v = need (8 ≤ v && v ≤ 65535) 0x12 := by
  cases h : need (8 ≤ v && v ≤ 65535) 0x12 <;> simp only [checkValue, deadlineBeatsRow, firstCode, h] <;> rfl

/-- A write of two bytes to DEADLINE_BEATS in a state that admits it is checked for its value alone. -/
theorem State.writeCheck_deadlineBeats {s : State} {p : Path} {c v : Nat} (hv : v < 2 ^ 16)
    (hw : s.writableNow p (ctxKey c O_DEADLINE_BEATS) deadlineBeatsRow v = true) :
    s.writeCheck p (ctxKey c O_DEADLINE_BEATS) deadlineBeatsRow (leBytes 2 v) = need (8 ≤ v && v ≤ 65535) 0x12 := by
  have hn : leNat (leBytes 2 v) = v := leNat_leBytes 2 v hv
  have hlen : s.lengthOk (ctxKey c O_DEADLINE_BEATS) deadlineBeatsRow (leBytes 2 v).length = true := by
    rw [leBytes_length]; rfl
  have hact : deadlineBeatsRow.isAction = false := rfl
  have hsc : (deadlineBeatsRow.ty.len != 0) = true := rfl
  unfold State.writeCheck
  simp only [hn, hlen, hact, hsc, hw, checkValue_deadlineBeats, if_true]
  cases need (8 ≤ v && v ≤ 65535) 0x12 <;> rfl

/-- Settles O56: the range is the row's, and a value within it is put and nothing else. -/
theorem deadlineBeatsHoldTheirRange : Obligations.DeadlineBeatsHoldTheirRange := by
  intro s p c v i hc hv hi hw
  obtain rfl : deadlineBeatsRow = i := Option.some.inj ((objAt_deadlineBeats hc).symm.trans hi)
  have hchk := State.writeCheck_deadlineBeats hv hw
  refine ⟨fun h8 => ?_, fun h8 => ?_⟩
  · have hok : s.writeCheck p (ctxKey c O_DEADLINE_BEATS) deadlineBeatsRow (leBytes 2 v) = none := by
      rw [hchk, need_none]
      simp only [Bool.and_eq_true, decide_eq_true_eq]
      omega
    refine ⟨s.cput c O_DEADLINE_BEATS v, ?_, s.get_put_same _ v, rfl⟩
    rw [State.writeObj_ctx _ hc (by decide) (by decide) hok (by decide), leNat_leBytes 2 v hv]
    rfl
  · have hbad : need (8 ≤ v && v ≤ 65535) 0x12 = some 0x12 := by
      simp only [need, decide_eq_false (Nat.not_le.2 h8)]
      rfl
    unfold State.writeObj
    rw [hchk, hbad]

/-- A write of level 2 where 64 contexts have it is refused, past the checks of RESERVE_CHECK and the caramel loop (R25). -/
theorem State.writeDet_full {s : State} {c : Nat} (hd : s.det c ≠ 2) (hn : 64 ≤ s.d2Count)
    (hr : s.cget c O_RESERVE_CHECK = 1) (hk : ¬ (s.cget c O_CARAMEL_MODE = 1 ∧ s.cget c O_SCOPE = 0)) :
    s.writeDet c 2 = .error 0x23 := by
  have hm : (s.cput c O_DET_LEVEL 2).cget c O_CARAMEL_MODE = s.cget c O_CARAMEL_MODE :=
    s.get_put_ne _ (ctxKey_ne (by decide))
  have hs : (s.cput c O_DET_LEVEL 2).cget c O_SCOPE = s.cget c O_SCOPE := s.get_put_ne _ (ctxKey_ne (by decide))
  have hcar : (s.cget c O_CARAMEL_MODE == 1 && s.cget c O_SCOPE == 0) = false :=
    Bool.eq_false_iff.2 fun h => hk (by simpa only [Bool.and_eq_true, beq_iff_eq] using h)
  have hfull : need (s.d2Count < 64) 0x23 = some 0x23 := by simp only [need, decide_eq_false (Nat.not_lt.2 hn)]; rfl
  have hbelow : (s.det c == 2) = false := beq_false_of_ne hd
  simp only [State.writeDet, hm, hs, hr, hcar, hbelow, hfull]
  rfl

/-- Settles O57: the write passes every other check and fails that of R25. -/
theorem sixtyFifthD2IsRefused : Obligations.SixtyFifthD2IsRefused := by
  intro s p c i hc hi _ hchk hd hn hr hk
  obtain rfl : detLevelRow = i := Option.some.inj ((objAt_detLevel hc).symm.trans hi)
  rw [State.writeObj_ctx _ hc (by decide) (by decide) hchk (by decide)]
  exact State.writeDet_full hd hn hr hk

/-! ### Writes of named objects of a context -/

/-- A command that writes an object ends, where the write is accepted, in the state that the write leads to. -/
theorem finish_writeKey {s t : State} {p : Path} {k : Nat} {d : Bytes} {i : ObjInfo}
    (h : Accepted s p k d Around.none i t) : finish s (s.writeKey p k d Around.none) = .next (written s p k d i t) := by
  rw [State.writeKey_accepted h]
  rfl

/-- Settles O24: each command is the write of its object. -/
theorem contextObjectWritesComplete : Obligations.ContextObjectWritesComplete :=
  ⟨fun _ _ _ _ _ _ => finish_writeKey, fun _ _ _ _ _ _ => finish_writeKey, fun _ _ _ _ _ _ => finish_writeKey,
    fun _ _ _ _ _ _ => finish_writeKey, fun _ _ _ _ _ _ => finish_writeKey, fun _ _ _ _ _ _ => finish_writeKey,
    fun _ _ _ _ _ _ => finish_writeKey, fun _ _ _ _ _ _ => finish_writeKey, fun _ _ _ _ _ _ => finish_writeKey,
    fun _ _ _ _ _ _ => finish_writeKey, fun _ _ _ _ _ _ => finish_writeKey, fun _ _ _ _ _ _ => finish_writeKey,
    fun _ _ _ _ _ _ => finish_writeKey, fun _ _ _ _ _ _ => finish_writeKey⟩

/-! ### The stages of a window

One lemma for each event: the conditions under which it takes effect, and the state it then leads to. -/

theorem exec_windowLaunch {s : State} {c : Nat} {w : Window} (hup : s.coreUp = true) (hst : s.cstate c = 3)
    (hw : ((s.ctx c).windows.find? fun w => w.launchDue s.beat) = some w) (hb : s.dueBelow 6 w.dueBeat = false) :
    exec (.windowLaunch c w.tag) s = .next (ended s (s.launchNow c w)) := by
  show execWindowLaunch c w.tag s = _
  simp [execWindowLaunch, finish_next, hw, hup, hst, hb]

/-- A window that finds no pool BLACK is admitted (R21). -/
theorem State.enter_admitted {s : State} {c : Nat} (w : Window) (h : s.anyBlack c = false) : s.enter c w = s.launch c w := by
  simp [State.enter, h]

theorem exec_admissionRetry {s : State} {c tag : Nat} {w : Window} (hup : s.coreUp = true) (hst : s.cstate c = 3)
    (hw : ((s.ctx c).windows.find? fun w => w.tag == tag && w.phase == .issued && w.deferred) = some w)
    (hdue : w.dueBeat < s.beat) (hopen : s.beat < w.deadline) (hb : s.dueBelow 6 s.beat = false) :
    exec (.admissionRetry c tag) s = .next (ended s (s.enter c w)) := by
  show execAdmissionRetry c tag s = _
  simp [execAdmissionRetry, finish_next, hw, hup, hst, hdue, hopen, hb]

/-- The host supplies what a stage needs of it: enough bytes, through a module that is there. -/
theorem not_starved {need given : Nat} {mods : List Nat} (hlen : need ≤ given) (hhost : need = 0 ∨ mods ≠ []) :
    ¬ (given < need ∨ ¬ need = 0 ∧ mods = []) := by
  rintro (h | ⟨hn, hm⟩)
  · exact Nat.not_lt.2 hlen h
  · exact hhost.elim hn fun h => h hm

/-- Of two spans, each read on a condition of its own, neither is read poisoned. -/
theorem not_poisoned {p q : Prop} {a b : Bool} (ha : p → a = false) (hb : q → b = false) :
    ¬ (p ∧ a = true ∨ q ∧ b = true) := by
  rintro (⟨hp, h⟩ | ⟨hq, h⟩)
  · simp [ha hp] at h
  · simp [hb hq] at h

theorem exec_score_forward {s : State} {c tag : Nat} {rows : Bytes} {w : Window} {m : SlotMark} {e : SlotEntry}
    (hw : (s.ctx c).inPhase tag .launched = some w) (hlive : s.live w = true) (hbwd : w.bwd = false)
    (he : s.findEntry c w.slot w.layerSlot 0xFFFF = some (m, e)) (hwait : s.waits c w.holder 0 = false)
    (hlen : s.hostNeeds c w e.cold ≤ rows.length) (hhost : s.hostNeeds c w e.cold = 0 ∨ s.hostMods ≠ [])
    (hin : w.hostmap % 2 = 0 → s.isPoisoned w.inAddr (w.tokens * 2 * s.hidden c) = false)
    (hsc : w.hostmap / 8 % 2 = 0 → s.isPoisoned w.scoreAddr (s.scoreLen c w) = false)
    (hcoll : (s.ctx c).collHolds = false)
    (hgu : e.cold = false → s.isPoisoned e.gu (s.cget c O_EXPERT_COUNT * 2 * s.hidden c) = false) :
    exec (.score c tag rows) s = .next (ended s (scoreForward s c w e rows)) := by
  have clean : ¬ (e.cold = false ∧ s.isPoisoned e.gu (s.cget c O_EXPERT_COUNT * 2 * s.hidden c) = true) :=
    fun h => by simp [hgu h.1] at h
  show execScore c tag rows s = _
  simp [execScore, finish_next, hw, hlive, hbwd, he, hwait, hcoll, not_starved hlen hhost, not_poisoned hin hsc, clean]

theorem exec_score_backward {s : State} {c tag : Nat} {rows : Bytes} {w : Window}
    (hw : (s.ctx c).inPhase tag .launched = some w) (hlive : s.live w = true) (hbwd : w.bwd = true)
    (hwait : s.waits c w.holder 0 = false) (hlen : s.hostNeeds c w false ≤ rows.length)
    (hhost : s.hostNeeds c w false = 0 ∨ s.hostMods ≠ [])
    (hin : w.hostmap % 2 = 0 → s.isPoisoned w.inAddr (w.tokens * 2 * s.hidden c) = false)
    (hsc : w.hostmap / 8 % 2 = 0 → s.isPoisoned w.scoreAddr (s.scoreLen c w) = false) :
    exec (.score c tag rows) s = .next (ended s (landBackward s c w rows)) := by
  show execScore c tag rows s = _
  simp [execScore, finish_next, hw, hlive, hbwd, hwait, not_starved hlen hhost, not_poisoned hin hsc]

section Select

variable {s : State} {c tag : Nat} {w : Window} (hw : (s.ctx c).inPhase tag .scored = some w) (hlive : s.live w = true)
  (hwait : s.waits c w.holder 5 = false) (hcar : s.caramelWaits c w = false)

include hw hlive hwait hcar

theorem exec_select_unmasked (mask : Bytes) (hhost : w.hostmap / 8 % 2 = 0) (hm : w.maskAddr = 0) :
    exec (.select c tag mask) s = .next (ended s (selectWindow s c w [])) := by
  show execSelect c tag mask s = _
  simp [execSelect, finish_next, hw, hlive, hwait, hcar, hhost, hm]

theorem exec_select_memory (mask : Bytes) (hhost : w.hostmap / 8 % 2 = 0) (hm : w.maskAddr ≠ 0)
    (hp : s.isPoisoned w.maskAddr (w.tokens * maskRowLen (s.cget c O_EXPERT_COUNT)) = false) :
    exec (.select c tag mask) s = .next (ended s
      (selectWindow s c w (s.rd w.maskAddr (w.tokens * maskRowLen (s.cget c O_EXPERT_COUNT))))) := by
  show execSelect c tag mask s = _
  simp [execSelect, finish_next, hw, hlive, hwait, hcar, hhost, hm, hp]

theorem exec_select_host {mask : Bytes} (hhost : w.hostmap / 8 % 2 = 1) (hmods : s.hostMods ≠ [])
    (hlen : w.tokens * maskRowLen (s.cget c O_EXPERT_COUNT) ≤ mask.length) :
    exec (.select c tag mask) s = .next (ended s
      (selectWindow (s.haCount false w.maskAddr (w.tokens * maskRowLen (s.cget c O_EXPERT_COUNT))) c w
        (mask.take (w.tokens * maskRowLen (s.cget c O_EXPERT_COUNT))))) := by
  show execSelect c tag mask s = _
  simp [execSelect, finish_next, hw, hlive, hwait, hcar, hhost, hmods, Nat.not_lt.2 hlen]

end Select

theorem exec_sortAndPack {s : State} {c tag : Nat} {w : Window} {q : Quant}
    (hw : (s.ctx c).inPhase tag .selected = some w) (hq : w.quant = some q) (hlive : s.live w = true)
    (h1 : s.waits c w.holder 1 = false) (h8 : s.waits c w.holder 8 = false) :
    exec (.sortAndPack c tag) s = .next (ended s (sortWindow s c w q)) := by
  show execSortAndPack c tag s = _
  simp [execSortAndPack, finish_next, hw, hq, hlive, h1, h8]

theorem exec_send {s : State} {c tag : Nat} {w : Window} (hw : (s.ctx c).inPhase tag .sorted = some w)
    (hlive : s.live w = true) (hwait : s.waits c w.holder 9 = false) :
    exec (.send c tag) s = .next (ended s (sendWindow s c w)) := by
  show execSend c tag s = _
  simp [execSend, finish_next, hw, hlive, hwait]

/-- A window below D2, or with every copy answered, is no D2 window with a copy unanswered. -/
theorem not_d2_missing {s : State} {c : Nat} {w : Window} (hd : s.det c ≠ 2 ∨ w.missing (s.cget c O_TOP_K) = 0) :
    ¬ (s.det c = 2 ∧ ¬ w.missing (s.cget c O_TOP_K) = 0) := fun h => hd.elim (· h.1) h.2

section Deadline

variable {s : State} {c tag : Nat} {w : Window} (hup : s.coreUp = true)
  (hw : ((s.ctx c).windows.find? fun w => w.tag == tag && w.deadlineDue s.beat) = some w)
  (hb : s.dueBelow 2 w.deadline = false)

include hup hw hb

/-- A D2 window with a copy unanswered ends its step (R22). -/
theorem exec_deadlineBeat_missing (rows : Bytes) (hdet : s.det c = 2) (hmiss : w.missing (s.cget c O_TOP_K) ≠ 0) :
    exec (.deadlineBeat c tag rows) s = .next (ended s (s.endStep c 0x33 (some w))) := by
  show execDeadlineBeat c tag rows s = _
  simp [execDeadlineBeat, finish_next, hw, hup, hb, hdet, hmiss]

variable (hd : s.det c ≠ 2 ∨ w.missing (s.cget c O_TOP_K) = 0)

include hd

theorem exec_deadlineBeat_formed (rows : Bytes) (hform : w.unformed = []) :
    exec (.deadlineBeat c tag rows) s = .next (ended s (s.closeDone c w)) := by
  show execDeadlineBeat c tag rows s = _
  simp [execDeadlineBeat, finish_next, hw, hup, hb, hform, not_d2_missing hd]

/-- Rows that have landed, are not needed, or lie in memory unpoisoned (R15, R17). -/
theorem exec_deadlineBeat_unformed (rows : Bytes) (hform : w.unformed ≠ []) (hn : s.needsRows c w = false)
    (hp : w.rows = [] → s.cget c O_RESIDUAL_ADD = 1 → w.hostmap % 2 = 0 →
      s.isPoisoned w.inAddr (w.tokens * 2 * s.hidden c) = false) :
    exec (.deadlineBeat c tag rows) s = .next (ended s (s.closeDeadline c (s.landRows c w rows))) := by
  have clean : ¬ (((w.rows = [] ∧ s.cget c O_RESIDUAL_ADD = 1) ∧ w.hostmap % 2 = 0) ∧
      s.isPoisoned w.inAddr (w.tokens * 2 * s.hidden c) = true) :=
    fun ⟨⟨⟨hr, ha⟩, hh⟩, h⟩ => by simp [hp hr ha hh] at h
  show execDeadlineBeat c tag rows s = _
  simp [execDeadlineBeat, finish_next, hw, hup, hb, hform, not_d2_missing hd, hn, clean]

/-- Rows that the host supplies at the deadline (R15, R17). -/
theorem exec_deadlineBeat_host {rows : Bytes} (hform : w.unformed ≠ []) (hn : s.needsRows c w = true)
    (hlen : w.tokens * 2 * s.hidden c ≤ rows.length) (hhost : w.hostmap % 2 = 1) :
    exec (.deadlineBeat c tag rows) s = .next (ended s
      ((s.haCount false w.inAddr (w.tokens * 2 * s.hidden c)).closeDeadline c
        ((s.haCount false w.inAddr (w.tokens * 2 * s.hidden c)).landRows c w rows))) := by
  show execDeadlineBeat c tag rows s = _
  simp [execDeadlineBeat, finish_next, hw, hup, hb, hform, not_d2_missing hd, hn, hhost, Nat.not_lt.2 hlen]

end Deadline

theorem exec_combineTail {s : State} {c tag : Nat} {w : Window} (hup : s.coreUp = true)
    (hw : ((s.ctx c).windows.find? fun w => w.tag == tag && w.phase == .closed && !w.unformed.isEmpty) = some w)
    (hwait : s.waits c w.holder 4 = false) :
    exec (.combineTail c tag) s = .next (ended s (combineTail s c w)) := by
  show execCombineTail c tag s = _
  simp [execCombineTail, finish_next, hw, hup, hwait]

theorem exec_windowOutputDelivered {s : State} {c tag : Nat} {w : Window} (hup : s.coreUp = true)
    (hw : ((s.ctx c).windows.find? fun w => w.tag == tag && w.phase == .closed && w.unformed.isEmpty) = some w) :
    exec (.windowOutputDelivered c tag) s = .next (ended s (outputDelivered s c w)) := by
  show execWindowOutputDelivered c tag s = _
  simp [execWindowOutputDelivered, finish_next, hw, hup]

theorem exec_counterPublication {s : State} {c : Nat} {k : StepCounts} (hup : s.coreUp = true)
    (hk : ((s.ctx c).counts.find? fun k => !k.published) = some k) (hdone : (s.ctx c).countsComplete k = true) :
    exec (.counterPublication c) s = .next (ended s (publishCounts s c k)) := by
  show execCounterPublication c s = _
  simp [execCounterPublication, finish_next, hk, hup, hdone]

/-- An update of the caramel loop from the loads of its own node (R88). -/
theorem exec_caramelUpdate_local {s : State} {c m : Nat} {rest : List Nat} {k : StepCounts} (hup : s.coreUp = true)
    (hm : (s.ctx c).caramelDue = m :: rest) (hk : (s.ctx c).counts.find? (·.mark == m) = some k)
    (hdone : (s.ctx c).countsComplete k = true) (hrun : s.cget c O_CARAMEL_STATE = 1) (hscope : s.cget c O_SCOPE = 0) :
    exec (.caramelUpdate c) s = .next (ended s (s.caramelMake c k.requested)) := by
  show execCaramelUpdate c s = _
  simp [execCaramelUpdate, finish_next, hm, hk, hup, hdone, hrun, hscope]

theorem exec_stagingFillDone {s : State} {c set : Nat} {cold : Bytes} {g : StageSet} (hup : s.coreUp = true)
    (hg : (s.ctx c).stages[set]? = some g) (hfull : g.full = false) (hlen : s.coldLen c g ≤ cold.length)
    (hhost : s.coldLen c g = 0 ∨ s.hostMods ≠ []) (hbad : s.stageBad c g = false) :
    exec (.stagingFillDone c set cold) s = .next (ended s (fillStage s c set cold g)) := by
  show execStagingFillDone c set cold s = _
  simp [execStagingFillDone, finish_next, hg, hup, hfull, not_starved hlen hhost, hbad]

theorem exec_crumbExpiry {s : State} {c tag : Nat} {k : Crumb} (hup : s.coreUp = true) (hk : k ∈ (s.ctx c).crumbs)
    (htag : k.tag = tag) (hold : k.beat + s.cget c O_CRUMB_HOLD_BEATS ≤ s.beat) :
    exec (.crumbExpiry c tag) s = .next (ended s (s.crumbLeave c tag)) := by
  have old : ((s.ctx c).crumbs.any fun k => k.tag == tag && s.beat ≥ k.beat + s.cget c O_CRUMB_HOLD_BEATS) = true :=
    List.any_eq_true.2 ⟨k, hk, by simp [htag, hold]⟩
  show execCrumbExpiry c tag s = _
  simp only [execCrumbExpiry, finish_next, hup, old, Bool.and_self, if_true]

/-- Settles O11: one lemma for each stage. -/
theorem windowStagesComplete : Obligations.WindowStagesComplete := by
  refine ⟨fun _ _ _ => exec_windowLaunch, ?_, fun _ _ _ _ _ _ _ => exec_score_forward,
    fun _ _ _ _ _ => exec_score_backward, ?_, ?_, ?_, fun _ _ _ _ _ => exec_sortAndPack, fun _ _ _ _ => exec_send, ?_, ?_, ?_,
    ?_, fun _ _ _ _ => exec_combineTail, ?_, fun _ _ _ => exec_counterPublication,
    fun _ _ _ _ _ => exec_caramelUpdate_local, fun _ _ _ _ _ => exec_stagingFillDone,
    fun _ _ _ _ => exec_crumbExpiry⟩
  · intro s c tag w hup hst hw hdue hopen hb hblack
    rw [exec_admissionRetry hup hst hw hdue hopen hb, State.enter_admitted w hblack]
  · exact fun _ _ _ mask _ hw hlive hwait hcar => exec_select_unmasked hw hlive hwait hcar mask
  · rintro s c tag mask w _ hw hlive hwait hcar hhost hm rfl
    exact exec_select_memory hw hlive hwait hcar mask hhost hm
  · rintro s c tag mask w _ hw hlive hwait hcar hhost hmods rfl
    exact exec_select_host hw hlive hwait hcar hhost hmods
  · exact fun _ _ _ rows _ hup hw hb hd => exec_deadlineBeat_unformed hup hw hb hd rows
  · exact fun _ _ _ _ _ hup hw hb hd => exec_deadlineBeat_host hup hw hb hd
  · exact fun _ _ _ rows _ hup hw hb hd => exec_deadlineBeat_formed hup hw hb hd rows
  · exact fun _ _ _ rows _ hup hw hb => exec_deadlineBeat_missing hup hw hb rows
  · exact fun _ _ _ _ hup hw _ => exec_windowOutputDelivered hup hw

end Sys2Proof.Machine
end

section
/-! The values of the narrow formats' codes, by sign, exponent and mantissa (R34, R36). -/

namespace Sys2Proof.Machine

open Sys2Proof

/-! ### A code as sign, exponent field and mantissa

A code is a magnitude below the weight of the sign bit, with that weight added for a negative number (R34). -/

theorem Fmt.signBit_pos (f : Fmt) : 0 < f.signBit := Nat.two_pow_pos _

/-- The magnitude part of a signed code. -/
theorem Fmt.signed_mod_signBit (f : Fmt) (neg : Bool) {mag : Nat} (hmag : mag < f.signBit) :
    (mag + if neg then f.signBit else 0) % f.signBit = mag := by
  cases neg <;> simp [Nat.mod_eq_of_lt hmag]

/-- The sign part of a signed code. -/
theorem Fmt.signed_sign_eq (f : Fmt) (neg : Bool) {mag : Nat} (hmag : mag < f.signBit) :
    ((mag + if neg then f.signBit else 0) / f.signBit % 2 == 1) = neg := by
  cases neg <;> simp [Nat.add_div_right _ f.signBit_pos, Nat.div_eq_of_lt hmag]

/-- Exponent field 0: no hidden bit, and the exponent of the smallest normal number (R34). -/
theorem Fmt.dec_subnormal (f : Fmt) (neg : Bool) {mant : Nat} (hmant : mant < 2 ^ f.mb) (hmax : mant ≤ f.maxCode) :
    f.dec (mant + if neg then f.signBit else 0) = .fin neg mant (f.emin - f.mb) := by
  have hmag : mant < f.signBit :=
    Nat.lt_of_lt_of_le hmant (Nat.pow_le_pow_right (by decide) (Nat.le_add_left _ _))
  unfold Fmt.dec
  rw [f.signed_mod_signBit neg hmag, f.signed_sign_eq neg hmag]
  simp [Nat.not_lt.2 hmax, Nat.div_eq_of_lt hmant, Nat.mod_eq_of_lt hmant]

/-- Exponent field above 0: the hidden bit joins the mantissa, and the bias is taken off (R34). -/
theorem Fmt.dec_normal (f : Fmt) (neg : Bool) {ex mant : Nat} (hpos : ex ≠ 0) (hex : ex < 2 ^ f.eb)
    (hmant : mant < 2 ^ f.mb) (hmax : 2 ^ f.mb * ex + mant ≤ f.maxCode) :
    f.dec (2 ^ f.mb * ex + mant + if neg then f.signBit else 0)
      = .fin neg (mant + 2 ^ f.mb) ((ex : Int) - f.bias - f.mb) := by
  have hmag : 2 ^ f.mb * ex + mant < f.signBit := by
    calc 2 ^ f.mb * ex + mant
      _ < 2 ^ f.mb * (ex + 1) := Nat.add_lt_add_left hmant _
      _ ≤ 2 ^ f.mb * 2 ^ f.eb := Nat.mul_le_mul_left _ hex
      _ = f.signBit := by rw [Fmt.signBit, Nat.pow_add, Nat.mul_comm]
  have hdiv : (2 ^ f.mb * ex + mant) / 2 ^ f.mb = ex := by
    rw [Nat.mul_add_div (Nat.two_pow_pos _), Nat.div_eq_of_lt hmant, Nat.add_zero]
  have hmod : (2 ^ f.mb * ex + mant) % 2 ^ f.mb = mant := by
    rw [Nat.mul_add_mod, Nat.mod_eq_of_lt hmant]
  unfold Fmt.dec
  rw [f.signed_mod_signBit neg hmag, f.signed_sign_eq neg hmag]
  simp only [hdiv, hmod]
  simp [Nat.not_lt.2 hmax, hpos]

/-! ### FP4 E2M1

Two exponent bits, one mantissa bit and bias 1 (R34): a code is 2 · exponent + mantissa, and 8 more when negative (R36). -/

/-- The zeros and the subnormals, in halves. -/
theorem fE2M1_dec_subnormal (neg : Bool) {mant : Nat} (hmant : mant < 2) :
    fE2M1.dec (mant + if neg then 8 else 0) = .fin neg mant (-1) :=
  fE2M1.dec_subnormal neg hmant (show mant ≤ 7 by omega)

/-- The normal numbers, (2 + mantissa) · 2 ^ (exponent − 2). -/
theorem fE2M1_dec_normal (neg : Bool) {ex mant : Nat} (hpos : ex ≠ 0) (hex : ex < 4) (hmant : mant < 2) :
    fE2M1.dec (2 * ex + mant + if neg then 8 else 0) = .fin neg (mant + 2) ((ex : Int) - 1 - 1) :=
  fE2M1.dec_normal neg hpos hex hmant (show 2 * ex + mant ≤ 7 by omega)

/-- Settles O51: codes 0 and 1 have exponent field 0, and the pairs above them the exponent fields 1, 2 and 3. -/
theorem fp4CodesHaveTheirValues : Obligations.Fp4CodesHaveTheirValues := by
  intro neg v
  have sub (mant : Nat) (hmant : mant < 2) : v mant = .fin neg mant (-1) := fE2M1_dec_subnormal neg hmant
  have norm (ex mant : Nat) (hpos : ex ≠ 0) (hex : ex < 4) (hmant : mant < 2) :
      v (2 * ex + mant) = .fin neg (mant + 2) ((ex : Int) - 1 - 1) := fE2M1_dec_normal neg hpos hex hmant
  exact ⟨sub 0 (by decide), sub 1 (by decide),
    norm 1 0 (by decide) (by decide) (by decide), norm 1 1 (by decide) (by decide) (by decide),
    norm 2 0 (by decide) (by decide) (by decide), norm 2 1 (by decide) (by decide) (by decide),
    norm 3 0 (by decide) (by decide) (by decide), norm 3 1 (by decide) (by decide) (by decide)⟩

end Sys2Proof.Machine
end

section
/-! Proofs of the statements about the exchange between engines and the levels of its pools (R129 to R152, R216, R286,
R288). -/

namespace Sys2Proof.Machine

open Sys2Proof

/-! ### The level of a pool (R146, R288) -/

section Level

variable {free cnt amber red black : Nat}

theorem enteredLevel_le_three : enteredLevel free cnt amber red black ≤ 3 := by
  unfold enteredLevel
  split
  · decide
  · split
    · decide
    · split <;> decide

/-- Above the highest threshold no level but green is entered. -/
theorem enteredLevel_green (hbr : black < red) (hra : red < amber) (h : amber * cnt < free * 100) :
    enteredLevel free cnt amber red black = 0 := by
  have hred : red * cnt < free * 100 := Nat.lt_of_le_of_lt (Nat.mul_le_mul_right cnt (Nat.le_of_lt hra)) h
  have hblack : black * cnt < free * 100 := Nat.lt_of_le_of_lt (Nat.mul_le_mul_right cnt (Nat.le_of_lt hbr)) hred
  simp only [enteredLevel, if_neg (Nat.not_le.2 hblack), if_neg (Nat.not_le.2 hred), if_neg (Nat.not_le.2 h)]

/-- A level no better than the present one is entered at once. -/
theorem poolLevel_eq_entered {old : Nat} (h : old ≤ enteredLevel free cnt amber red black) :
    poolLevel free cnt amber red black old = enteredLevel free cnt amber red black :=
  if_pos h

/-- The threshold of a level, in percent. -/
def levelPct (amber red black : Nat) : Nat → Nat
  | 3 => black
  | 2 => red
  | _ => amber

/-- What becomes of level `l` at a free share, the entered level aside: while the share is a point above the threshold of a
level, the next better one follows (R288). -/
def leaveLevel (free cnt amber red black : Nat) : Nat → Nat
  | 0 => 0
  | l + 1 =>
    if (levelPct amber red black (l + 1) + 1) * cnt ≤ free * 100 then leaveLevel free cnt amber red black l else l + 1

theorem leaveLevel_le (l : Nat) : leaveLevel free cnt amber red black l ≤ l := by
  induction l with
  | zero => exact Nat.le_refl 0
  | succ l ih =>
    unfold leaveLevel
    split
    · exact Nat.le_trans ih (Nat.le_succ l)
    · exact Nat.le_refl _

/-- A level holds until its threshold is cleared by a point. -/
theorem leaveLevel_held {l : Nat} (h : free * 100 < (levelPct amber red black l + 1) * cnt) :
    leaveLevel free cnt amber red black l = l := by
  cases l with
  | zero => rfl
  | succ l => exact if_neg (Nat.not_le.2 h)

/-- When a better level is entered, the present one is left downwards, level by level. -/
theorem poolLevel_eq_leave {old : Nat} (hold : old ≤ 3) (h : enteredLevel free cnt amber red black < old) :
    poolLevel free cnt amber red black old
      = max (leaveLevel free cnt amber red black old) (enteredLevel free cnt amber red black) := by
  unfold poolLevel
  rw [if_neg (Nat.not_le.2 h)]
  obtain rfl | rfl | rfl : old = 1 ∨ old = 2 ∨ old = 3 := by omega
  · simp [leaveLevel, levelPct]
  · by_cases hred : (red + 1) * cnt ≤ free * 100 <;> simp [leaveLevel, levelPct, hred]
  · by_cases hblack : (black + 1) * cnt ≤ free * 100 <;>
      by_cases hred : (red + 1) * cnt ≤ free * 100 <;> simp [leaveLevel, levelPct, hblack, hred]

theorem enteredLevel_le_poolLevel {old : Nat} (hold : old ≤ 3) :
    enteredLevel free cnt amber red black ≤ poolLevel free cnt amber red black old := by
  rcases Nat.lt_or_ge (enteredLevel free cnt amber red black) old with h | h
  · rw [poolLevel_eq_leave hold h]
    exact Nat.le_max_right _ _
  · exact Nat.le_of_eq (poolLevel_eq_entered h).symm

theorem poolLevel_le_three {old : Nat} (hold : old ≤ 3) : poolLevel free cnt amber red black old ≤ 3 := by
  rcases Nat.lt_or_ge (enteredLevel free cnt amber red black) old with h | h
  · rw [poolLevel_eq_leave hold h]
    exact Nat.max_le.2 ⟨Nat.le_trans (leaveLevel_le old) hold, enteredLevel_le_three⟩
  · rw [poolLevel_eq_entered h]
    exact enteredLevel_le_three

/-- A level does not improve until its threshold is cleared by a point. -/
theorem le_poolLevel_of_held {old : Nat} (hold : old ≤ 3)
    (held : free * 100 < (levelPct amber red black old + 1) * cnt) : old ≤ poolLevel free cnt amber red black old := by
  rcases Nat.lt_or_ge (enteredLevel free cnt amber red black) old with h | h
  · rw [poolLevel_eq_leave hold h, leaveLevel_held held]
    exact Nat.le_max_left _ _
  · exact Nat.le_trans h (enteredLevel_le_poolLevel hold)

/-- A point above the AMBER threshold every level is left for green. -/
theorem poolLevel_green {old : Nat} (hold : old ≤ 3) (hbr : black < red) (hra : red < amber) (hcnt : 0 < cnt)
    (h : (amber + 1) * cnt ≤ free * 100) : poolLevel free cnt amber red black old = 0 := by
  have hent : enteredLevel free cnt amber red black = 0 :=
    enteredLevel_green hbr hra
      (Nat.lt_of_lt_of_le (Nat.mul_lt_mul_of_pos_right (Nat.lt_succ_self amber) hcnt) h)
  have hred : (red + 1) * cnt ≤ free * 100 := Nat.le_trans (Nat.mul_le_mul_right cnt (by omega)) h
  have hblack : (black + 1) * cnt ≤ free * 100 := Nat.le_trans (Nat.mul_le_mul_right cnt (by omega)) h
  rcases Nat.eq_zero_or_pos old with rfl | hpos
  · rw [poolLevel_eq_entered (Nat.zero_le _), hent]
  · rw [poolLevel_eq_leave hold (by omega), hent, Nat.max_zero]
    obtain rfl | rfl | rfl : old = 1 ∨ old = 2 ∨ old = 3 := by omega
    all_goals simp [leaveLevel, levelPct, h, hred, hblack]

end Level

/-- Settles O52: the present level is kept or left level by level, and is never better than the entered one. -/
theorem poolLevelsHaveHysteresis : Obligations.PoolLevelsHaveHysteresis := by
  intro free cnt amber red black old hold hbr hra
  refine ⟨poolLevel_eq_entered, enteredLevel_le_poolLevel hold, ?_, ?_, ?_,
    fun h hcnt => poolLevel_green hold hbr hra hcnt h⟩
  · rintro rfl held
    exact Nat.le_antisymm (poolLevel_le_three hold) (le_poolLevel_of_held hold held)
  · rintro rfl held
    exact le_poolLevel_of_held hold held
  · rintro rfl held
    exact le_poolLevel_of_held hold held

/-! ### The messages of an exchange and the grants (R129 to R152, R216, R286)

One lemma for each command: the conditions under which it takes effect, and the state it then leads to. -/

/-- A pool with a request waiting grants to it (R286). -/
theorem exec_bufferGrant {s : State} {p : Nat} {w : PoolWait} {rest : List PoolWait} (hup : s.coreUp = true)
    (hw : (s.pool p).waits = w :: rest) :
    exec (.bufferGrant p) s = .next (ended s ((grantOne s p).afterGrant w.ctx)) := by
  show execBufferGrant p s = _
  simp only [execBufferGrant, finish_next, hw, hup, if_true]

/-- Credits of a context that is not FREE (R137). -/
theorem exec_landingCreditGrant {s : State} {c : Nat} (node flits : Nat) (hup : s.coreUp = true) (hst : s.cstate c ≠ 0) :
    exec (.landingCreditGrant c node flits) s = .next (ended s (takeGrant s c node flits)) := by
  show execLandingCreditGrant c node flits s = _
  simp [execLandingCreditGrant, finish_next, hup, hst]

section Record

variable {s : State} {r : Record} (sender : Nat) (hup : s.coreUp = true) (hkind : recKind r.hdr < 2)

include hup hkind

theorem exec_dispatchRecord (hflag : recFlag r.hdr 2 = false) :
    exec (.dispatchRecord r sender) s = .next (ended s (takeRecord s r sender)) := by
  show execDispatchRecord r sender s = _
  simp [execDispatchRecord, finish_next, hup, hkind, hflag]

theorem exec_relayRecord (hflag : recFlag r.hdr 2 = true) :
    exec (.relayRecord r sender) s = .next (ended s (takeRelay s r sender)) := by
  show execRelayRecord r sender s = _
  simp [execRelayRecord, finish_next, hup, hkind, hflag]

end Record

theorem exec_forwardedMarker {s : State} {c : Nat} (tag src : Nat) (hup : s.coreUp = true) (hwork : s.working c = true) :
    exec (.forwardedMarker c tag src) s
      = .next (ended s ((s.forwardMarkers c tag false src).forwardMarkers c tag true src)) := by
  show execForwardedMarker c tag src s = _
  simp only [execForwardedMarker, finish_next, hup, hwork, Bool.and_self, if_true]

theorem exec_endOfSendMarkerRx {s : State} (m : Marker) (hup : s.coreUp = true) :
    exec (.endOfSendMarkerRx m) s = .next (ended s (takeMarker s m)) := by
  show execEndOfSendMarkerRx m s = _
  simp only [execEndOfSendMarkerRx, finish_next, hup, if_true]

theorem exec_remoteRefused {s : State} {c : Nat} (tag node : Nat) (hup : s.coreUp = true) (hst : s.cstate c ≠ 0) :
    exec (.remoteRefused c tag node) s = .next (ended s (takeRefusal s c tag node)) := by
  show execRemoteRefused c tag node s = _
  simp [execRemoteRefused, finish_next, hup, hst]

/-- A close notice of a member goes to the relay's half or the destination's half, as it is addressed (R147, R148). -/
theorem exec_closeNotice {s : State} {c src : Nat} (tag : Nat) (toRelay : Bool) (hup : s.coreUp = true)
    (hst : s.cstate c ≠ 0) (hsrc : src ∈ s.members c) :
    exec (.closeNotice c tag src toRelay) s
      = .next (ended s (if toRelay then closeRelay s c tag src else closeSource s c tag src)) := by
  show execCloseNotice c tag src toRelay s = _
  simp [execCloseNotice, finish_next, hup, hst, hsrc]

theorem exec_horizon {s : State} (c tag : Nat) (hup : s.coreUp = true) :
    exec (.horizon c tag) s
      = .next (ended s (((s.ctx c).parts.filter fun p => p.tag == tag && !p.past && p.horizon ≤ s.beat).foldl
          (fun s p => s.horizonEnd c p) s)) := by
  show execHorizon c tag s = _
  simp only [execHorizon, finish_next, hup, if_true]

theorem exec_returnRecord {s : State} (r : Record) (hup : s.coreUp = true) :
    exec (.returnRecord r) s = .next (ended s (takeReturn s r)) := by
  show execReturnRecord r s = _
  simp only [execReturnRecord, finish_next, hup, if_true]

/-- Settles O12: one lemma for each command. -/
theorem exchangeMessagesComplete : Obligations.ExchangeMessagesComplete :=
  ⟨fun _ _ _ _ hup hw _ _ => exec_bufferGrant hup hw,
    fun _ _ => exec_landingCreditGrant,
    fun _ _ sender hup hkind hflag _ => exec_dispatchRecord sender hup hkind hflag,
    fun _ _ sender hup hkind hflag _ => exec_relayRecord sender hup hkind hflag,
    fun _ _ tag src hup hwork _ => exec_forwardedMarker tag src hup hwork,
    fun _ m hup _ => exec_endOfSendMarkerRx m hup,
    fun _ _ => exec_remoteRefused,
    fun _ _ tag _ => exec_closeNotice tag true,
    fun _ _ tag _ => exec_closeNotice tag false,
    fun _ c tag hup _ => exec_horizon c tag hup,
    fun _ r _ _ hup _ _ => exec_returnRecord r hup⟩

end Sys2Proof.Machine
end

section
/-! Proofs of the statements about layer commands, GROUPED_OP and the work items of the tiles (R142, R158 to R164, R172,
R185, R397, R398, R461). -/

namespace Sys2Proof.Machine

open Sys2Proof

/-! ### The command in front of a ring, with every check passed -/

section AtFront

variable {s : State} {c i op : Nat} {d : Bytes} {checks : List (Option Nat)} (hat : AtFront s c i d op checks)
  (hknown : opcodes.contains op = true)

include hat hknown

/-- The command that asks for the opcode in front takes the descriptor. -/
theorem State.takeFront_atFront (go : Nat → Bytes → State) : s.takeFront c (fun d => fld d 0 1 == op) go = go i d := by
  obtain ⟨hfront, rfl, -⟩ := hat
  exact s.takeFront_mine go hfront hknown (by simp)

/-- The command is accepted and runs (R400). -/
theorem State.issueDesc_atFront (run : State → State) : s.issueDesc c i d checks run = run (s.accept c i d) := by
  obtain ⟨-, rfl, hpass⟩ := hat
  exact s.issueDesc_pass run hknown hpass

end AtFront

/-! ### Layer commands and GROUPED_OP (R142, R164, R397, R398) -/

section Layer

variable {s : State} {c i : Nat} {d : Bytes}

theorem issueLayerFwd_atFront (at_ : Option Nat) (hat : AtFront s c i d 0x01 (s.fwdChecks c d))
    (hroom : s.atWindowLimit c = false) : issueLayerFwd s c i d at_ = runLayerFwd (s.accept c i d) c i d at_ := by
  rw [issueLayerFwd, hroom, if_neg Bool.false_ne_true, s.issueDesc_atFront hat (by decide)]

theorem issueLayerBwd_atFront (at_ : Option Nat) (hat : AtFront s c i d 0x02 (s.bwdChecks c d))
    (hroom : s.atWindowLimit c = false) : issueLayerBwd s c i d at_ = runLayerBwd (s.accept c i d) c i d at_ := by
  rw [issueLayerBwd, hroom, if_neg Bool.false_ne_true, s.issueDesc_atFront hat (by decide)]

theorem exec_layerFwd (hat : AtFront s c i d 0x01 (s.fwdChecks c d)) (hroom : s.atWindowLimit c = false) :
    exec (.layerFwd c) s = .next (ended s (runLayerFwd (s.accept c i d) c i d none)) := by
  show execLayerFwd c s = _
  rw [execLayerFwd, s.takeFront_atFront hat (by decide), issueLayerFwd_atFront none hat hroom, finish_next]

theorem exec_layerBwd (hat : AtFront s c i d 0x02 (s.bwdChecks c d)) (hroom : s.atWindowLimit c = false) :
    exec (.layerBwd c) s = .next (ended s (runLayerBwd (s.accept c i d) c i d none)) := by
  show execLayerBwd c s = _
  rw [execLayerBwd, s.takeFront_atFront hat (by decide), issueLayerBwd_atFront none hat hroom, finish_next]

theorem exec_groupedOp (hat : AtFront s c i d 0x03 (groupedChecks s c d)) :
    exec (.groupedOp c) s
      = .next (ended s (runGrouped (s.accept c i d) c i (groupTable (s.ctx c) d) (fld d 24 2) (fld d 32 8))) := by
  show execGroupedOp c s = _
  rw [execGroupedOp, s.takeFront_atFront hat (by decide), issueGrouped, s.issueDesc_atFront hat (by decide), finish_next]

/-- Once there is room for a window, the hold is taken off, and the layer command then in front is issued (R142). -/
theorem exec_heldCommandIssue {j op : Nat} {checks : List (Option Nat)} {freed : State}
    (hheld : (s.ctx c).ring.limited = some i) (hroom : s.atWindowLimit c = false)
    (hfreed : (s.modRing c fun r => r.unhold i) = freed) (hat : AtFront freed c j d op checks) :
    exec (.heldCommandIssue c) s
      = .next (ended s (if op = 0x01 then issueLayerFwd freed c j d none else issueLayerBwd freed c j d none)) := by
  obtain ⟨hfront, rfl, -⟩ := hat
  subst hfreed
  show execHeldCommandIssue c s = _
  simp [execHeldCommandIssue, finish_next, hheld, hroom, hfront]

end Layer

/-- Settles O5: a command in front is issued by its own row, and one that was held by HELD_COMMAND_ISSUE. -/
theorem layerCommandsComplete : Obligations.LayerCommandsComplete := by
  refine ⟨fun _ _ _ _ => exec_layerFwd, fun _ _ _ _ => exec_layerBwd, fun _ _ _ _ => exec_groupedOp, ?_, ?_⟩
  · intro s c i j d hheld hroom hat hfreed
    rw [exec_heldCommandIssue hheld hroom rfl hat, if_pos rfl, issueLayerFwd_atFront none hat hfreed]
  · intro s c i j d hheld hroom hat hfreed
    rw [exec_heldCommandIssue hheld hroom rfl hat, if_neg (by decide), issueLayerBwd_atFront none hat hfreed]

/-! ### Work items (R158 to R160, R172, R185, R461) -/

/-- A tile with room for an item starts the lowest-keyed one that it may take. -/
theorem exec_workItemStart {s : State} {tile : Nat} {it : Item} (hup : s.coreUp = true) (htile : tile < 320)
    (hact : s.tileActive tile = true) (hroom : (s.items.filter fun i => i.tile == some tile).length < 2)
    (hlow : lowestItem (s.items.filter (s.mayTake tile)) = some it) (hclean : s.itemBad it = false) :
    exec (.workItemStart tile) s = .next (ended s (s.startItem tile it)) := by
  show execWorkItemStart tile s = _
  simp [execWorkItemStart, finish_next, hup, htile, hact, Nat.not_le.2 hroom, hlow, hclean]

/-- The item that a tile started first leaves it, counted, and commits as one of a GROUPED_OP or of a window. -/
theorem exec_workItemCommit {s rest : State} {tile : Nat} {it : Item} (hup : s.coreUp = true)
    (hit : (s.items.find? fun i => i.tile == some tile) = some it) (hfresh : s.staleItem tile it = false)
    (hrest : { s with items := s.items.filter fun (v : Item) => v.id != it.id } = rest) :
    exec (.workItemCommit tile) s
      = .next (ended s (if it.kind = 2 then (rest.countCommit tile it).commitGrouped it
          else (rest.countCommit tile it).commitWindow it)) := by
  subst hrest
  show execWorkItemCommit tile s = _
  simp [execWorkItemCommit, finish_next, hit, hup, hfresh]

/-- A held gradient whose turn has come is held no longer, and is added. -/
theorem exec_weightGradAdd {s others : State} {c item : Nat} {g : GradHeld} (hup : s.coreUp = true)
    (hg : (s.gradHeld.find? fun g => g.ctx == c && g.id == item) = some g)
    (hothers : { s with gradHeld := s.gradHeld.filter fun v => !(v.ctx == c && v.id == item) } = others)
    (hturn : others.gradTurn c g = true) : exec (.weightGradAdd c item) s = .next (ended s (others.addGrad g)) := by
  subst hothers
  show execWeightGradAdd c item s = _
  simp only [execWeightGradAdd, finish_next, hg, hup, hturn, Bool.and_self, if_true]

/-- Settles O13: one lemma for each command; the kind of an item decides how its commit goes on. -/
theorem workItemsComplete : Obligations.WorkItemsComplete := by
  refine ⟨fun _ _ _ => exec_workItemStart, ?_, ?_, fun _ _ _ _ hup hg => exec_weightGradAdd hup hg rfl⟩
  · intro s tile it hup hit hfresh hkind
    rw [exec_workItemCommit hup hit hfresh rfl, if_neg hkind]
  · intro s tile it hup hit hfresh hkind
    rw [exec_workItemCommit hup hit hfresh rfl, if_pos hkind]

end Sys2Proof.Machine
end

section
/-! Proofs of the statements about returns that a window discards (R216, R218, R219). -/

namespace Sys2Proof.Machine

open Sys2Proof

/-! ### What a command keeps, read past its end -/

theorem keepsWork_ended {s t : State} (h : KeepsWork s t) : KeepsWork s (ended s t) := by
  simpa only [KeepsWork, ended_ctxs, ended_pools, ended_groups, ended_items, ended_gradHeld, ended_remotes, ended_queues,
    ended_mem, ended_poisoned] using h

theorem keepsObjects_ended {s t : State} {ks : List Nat} (h : ∀ k, k ∉ ks → t.get k = s.get k) :
    KeepsObjects s (ended s t) ks :=
  fun k hk hctx hmir hnot => (ended_get s t hctx hmir hnot).trans (h k hk)

/-! ### An event counted in one object of a context and raised in another -/

section Counted

variable (s : State) (c b : Nat) {cnt flg : Nat}

theorem keepsWork_counted : KeepsWork s (ended s ((s.cbump c cnt 1).craise c flg b)) :=
  keepsWork_ended ⟨rfl, rfl, rfl, rfl, rfl, rfl, rfl, rfl, rfl⟩

theorem keepsObjects_counted :
    KeepsObjects s (ended s ((s.cbump c cnt 1).craise c flg b)) [ctxKey c cnt, ctxKey c flg] :=
  keepsObjects_ended fun k hk => by
    obtain ⟨hcnt, hflg⟩ : k ≠ ctxKey c cnt ∧ k ≠ ctxKey c flg := by simpa using hk
    exact (State.get_raise_ne _ b hflg).trans (s.get_bump_ne 1 hcnt)

theorem cget_counted (hk : 0x800000 ≤ cnt) (hst : cnt % 4096 ≠ O_CTX_STATE % 4096) (hne : cnt % 4096 ≠ flg % 4096) :
    (ended s ((s.cbump c cnt 1).craise c flg b)).cget c cnt = (s.cget c cnt + 1) % 2 ^ 64 := by
  rw [ended_cget _ _ c hk hst]
  exact (State.get_raise_ne _ b (ctxKey_ne hne)).trans (s.get_bump_same _ 1)

theorem bitSet_counted (hk : 0x800000 ≤ flg) (hst : flg % 4096 ≠ O_CTX_STATE % 4096) :
    bitSet (ended s ((s.cbump c cnt 1).craise c flg b)) (ctxKey c flg) b :=
  (congrArg (· / 2 ^ b % 2) (ended_cget s _ c hk hst)).trans (State.raise_bit _ (ctxKey c flg) b)

theorem raiseCount_counted :
    (ended s ((s.cbump c cnt 1).craise c flg b)).raiseCount (ctxKey c flg) b
      = (s.raiseCount (ctxKey c flg) b + 1) % 2 ^ 32 := by
  unfold State.raiseCount
  rw [ended_raises]
  exact State.raiseCount_raise_same (s.cbump c cnt 1) (ctxKey c flg) b

end Counted

/-! ### The tests of a return record (R216) -/

theorem State.unmatched_free {s : State} {c : Nat} (h : s.cstate c = 0) : s.unmatched c = s := by
  simp [State.unmatched, h]

theorem State.unmatched_counted {s : State} {c : Nat} (h : s.cstate c ≠ 0) :
    s.unmatched c = (s.cbump c O_RETURNS_UNMATCHED 1).craise c O_CB_FLAGS 0 := by
  simp [State.unmatched, h]

/-- Whichever test of R216 fails, the record is unmatched in the context of its tag. -/
theorem takeReturn_unmatched {s : State} {r : Record} (h : Unmatched s r) :
    takeReturn s r = s.unmatched (tagCtx r.hdr.tag) := by
  unfold takeReturn
  rcases h with hkind | hnode | hctx | ⟨w, hwin, hopen, hdue, hnone⟩
  · simp [hkind]
  · simp [hnode]
  · simp [hctx]
  · dsimp only
    split
    · rfl
    · cases hcopy : r.hdr.copies.head? with
      | none => simp [hwin, hopen, hdue]
      | some k =>
        have hfind := hnone k hcopy
        unfold expected at hfind
        simp only [hwin, hopen, hdue, hfind, Bool.not_true, Bool.or_self, Bool.false_eq_true, if_false]

/-- A record whose entry is answered already counts as a duplicate, and its window stays as it was. -/
theorem takeReturn_duplicate {s : State} {r : Record} {w : Window} {e : LedgerCopy} (h : Answers s r w e)
    (hdup : w.answered r.hdr.token e = true) :
    takeReturn s r = (s.cbump (tagCtx r.hdr.tag) O_RETURNS_DUPLICATE 1).craise (tagCtx r.hdr.tag) O_CB_FLAGS 1 := by
  obtain ⟨hkind, hnode, hctx, hwin, hopen, hdue, k, hcopy, hfind⟩ := h
  unfold expected at hfind
  unfold takeReturn
  simp only [Nat.not_lt.2 hkind, hnode, hctx, hwin, hopen, hdue, hcopy, hfind, hdup, decide_false, bne_self_eq_false,
    Bool.not_true, Bool.or_self, Bool.false_eq_true, if_false, if_true]

/-! ### The statements -/

/-- Settles O47: a failed test leads to `State.unmatched`, which counts in a context that is not FREE and does nothing in
one that is. -/
theorem unmatchedReturnIsDiscarded : Obligations.UnmatchedReturnIsDiscarded := by
  intro s r hup _ hun
  have hexec := exec_returnRecord r hup
  rw [takeReturn_unmatched hun] at hexec
  constructor
  · intro hst
    rw [State.unmatched_counted hst] at hexec
    exact ⟨_, hexec, cget_counted s _ 0 (by decide) (by decide) (by decide), bitSet_counted s _ 0 (by decide) (by decide),
      raiseCount_counted s _ 0, keepsWork_counted s _ 0, keepsObjects_counted s _ 0⟩
  · intro hfree
    rw [State.unmatched_free hfree] at hexec
    exact ⟨_, hexec, keepsWork_ended ⟨rfl, rfl, rfl, rfl, rfl, rfl, rfl, rfl, rfl⟩, keepsObjects_ended fun _ _ => rfl,
      ended_raises s s⟩

/-- Settles O48: the record fails the last test of R216, and only its count and its flag move. -/
theorem duplicateReturnIsDiscarded : Obligations.DuplicateReturnIsDiscarded := by
  intro s r w e hup _ hans hdup
  have hexec := exec_returnRecord r hup
  rw [takeReturn_duplicate hans hdup] at hexec
  exact ⟨_, hexec, cget_counted s _ 1 (by decide) (by decide) (by decide), bitSet_counted s _ 1 (by decide) (by decide),
    keepsWork_counted s _ 1, keepsObjects_counted s _ 1⟩

end Sys2Proof.Machine
end

section
/-! Proofs of the statement about the releases of a ring and its poll (R253 to R255, R390, R403, R404). -/

namespace Sys2Proof.Machine

open Sys2Proof

/-! ### The events of a ring

One lemma for each event: the conditions under which it takes effect, and the state it then leads to. -/

theorem exec_waitBeatRelease {s : State} {c i b : Nat} (hup : s.coreUp = true)
    (hw : (s.ctx c).ring.waiting = some (i, b)) (hdue : b ≤ s.beat) (hfirst : s.dueBelow 7 b = false) :
    exec (.waitBeatRelease c) s = .next (ended s (s.endDesc c i 0)) := by
  show execWaitBeatRelease c s = _
  simp [execWaitBeatRelease, finish_next, hw, hup, hdue, hfirst]

/-- Every active descriptor but the fence itself heads a loop around it. -/
theorem fence_waits_for_none {r : Ring} {i : Nat} (h : ∀ a ∈ r.active, a.idx = i ∨ ∃ l ∈ r.loops, l.first = a.idx) :
    (r.active.any fun a => a.idx != i && !r.loops.any fun l => l.first == a.idx) = false := by
  rw [List.any_eq_false]
  intro a ha
  rcases h a ha with hi | ⟨l, hl, hfirst⟩
  · simp [hi]
  · have around : (r.loops.any fun l => l.first == a.idx) = true := List.any_eq_true.2 ⟨l, hl, by simp [hfirst]⟩
    simp [around]

/-- No remote write that left the context before operation `u` is still open. -/
theorem fence_has_no_open_write {qs : List Pending} {c u : Nat}
    (h : ∀ q ∈ qs, q.req.srcCtx = c → opWrites q.req.op = true → u ≤ q.req.id) :
    (qs.any fun q => q.req.srcCtx == c && opWrites q.req.op && q.req.id < u) = false := by
  rw [List.any_eq_false]
  intro q hq hopen
  obtain ⟨⟨hc, hop⟩, hid⟩ : (q.req.srcCtx = c ∧ opWrites q.req.op = true) ∧ q.req.id < u := by simpa using hopen
  exact Nat.not_lt.2 (h q hq hc hop) hid

theorem exec_fenceRelease {s : State} {c i u : Nat} (hup : s.coreUp = true) (hf : (s.ctx c).ring.fenced = some (i, u))
    (hidle : ∀ a ∈ (s.ctx c).ring.active, a.idx = i ∨ ∃ l ∈ (s.ctx c).ring.loops, l.first = a.idx)
    (hacked : ∀ q ∈ s.remotes, q.req.srcCtx = c → opWrites q.req.op = true → u ≤ q.req.id) :
    exec (.fenceRelease c) s
      = .next (ended s ((s.modRing c fun r => { r with lostWrite := r.lostWrite.filter fun k => !(k < u) }).endDesc c i
          (if (s.ctx c).ring.lostWrite.any (· < u) then 0x51 else 0))) := by
  show execFenceRelease c s = _
  simp only [execFenceRelease, finish_next, hf, hup, fence_waits_for_none hidle, fence_has_no_open_write hacked,
    Bool.not_true, Bool.or_self, Bool.false_eq_true, if_false]

theorem exec_stepMarkEffect {s : State} {c i n b : Nat} (hup : s.coreUp = true)
    (hm : (s.ctx c).ring.marking = some (i, n, b)) (hdue : b ≤ s.beat) (hfirst : s.dueBelow 4 b = false) :
    exec (.stepMarkEffect c) s = .next (ended s ((s.stepMarkEffect c n).endDesc c i 0)) := by
  show execStepMarkEffect c s = _
  simp [execStepMarkEffect, finish_next, hm, hup, hdue, hfirst]

theorem exec_launchAtRelease {s : State} {c i b : Nat} (hup : s.coreUp = true)
    (hl : (s.ctx c).ring.launching = some (i, b)) (hdue : b ≤ s.beat) (hfirst : s.dueBelow 4 b = false) :
    exec (.launchAtRelease c) s
      = .next (ended s (((s.endDesc c i 0).markFirst c s.beat).runFrom c s.beat (s.cget c O_RING_ENTRIES))) := by
  show execLaunchAtRelease c s = _
  simp [execLaunchAtRelease, finish_next, hl, hup, hdue, hfirst]

/-- A poll at the tick of its ring is not deferred; at tick 0 it comes after the events of the boundary. -/
theorem exec_ringPoll {s : State} {c tick : Nat} (hup : s.coreUp = true) (hserves : s.coreServes c = true)
    (hst : polledState (s.cstate c) = true) (htick : tick < 256)
    (hmoved : (tick + 256 - c % (s.ctx c).pollTicks) % (s.ctx c).pollTicks = 0)
    (hlast : tick = 0 → s.dueBelow 8 s.beat = false) :
    exec (.ringPoll c tick) s = .next (ended s (pollRing (s.cbump c O_POLL_DEFERRED 0) c)) := by
  have after : ¬ (tick = 0 ∧ s.dueBelow 8 s.beat = true) := fun h => by simp [hlast h.1] at h
  show execRingPoll c tick s = _
  simp [execRingPoll, finish_next, hup, hserves, hst, htick, hmoved, after]

/-- Settles O10: one lemma for each event. -/
theorem sequencerEventsComplete : Obligations.SequencerEventsComplete :=
  ⟨fun _ _ _ _ => exec_waitBeatRelease, fun _ _ _ _ => exec_fenceRelease, fun _ _ _ _ _ => exec_stepMarkEffect,
    fun _ _ _ _ => exec_launchAtRelease, fun _ _ _ => exec_ringPoll⟩

end Sys2Proof.Machine
end

section
/-! Proofs of the statement about the objects of the engine that a command of its own writes, and the timers of debug access
(R441, R483 to R492, R513). -/

namespace Sys2Proof.Machine

open Sys2Proof

/-- A write of a flag object, as FLAG_WRITE_CLEAR makes it, is the write of that object. -/
theorem exec_flagWriteClear {s t : State} {p : Path} {k : Nat} {data : Bytes} {i : ObjInfo} (hflags : i.isFlags = true)
    (h : Accepted s p k data Around.none i t) :
    exec (.flagWriteClear p (k / 256) (k % 256) data) s = .next (written s p k data i t) := by
  obtain ⟨⟨_, _, _, hobj⟩, _⟩ := id h
  have row : objAt (k / 256) (k % 256) = some i := hobj
  show execFlagWriteClear p (k / 256) (k % 256) data s = _
  rw [← finish_writeKey h, execFlagWriteClear, row]
  simp only [Option.map_some, Option.getD_some, hflags, if_true]
  rfl

theorem exec_debugChallengeExpiry {s : State} {p : Path} {x : DebugChal}
    (hx : (s.challenges.find? fun x => x.path == p) = some x) (hold : x.beat + challengeBeats < s.beat) :
    exec (.debugChallengeExpiry p) s = .next (ended s (s.dropChallenge p)) := by
  show execDebugChallengeExpiry p s = _
  simp only [execDebugChallengeExpiry, finish_next, hx, gt_iff_lt, hold, if_true]

theorem exec_debugTimeout {s : State} {p : Path} {x : DebugSession}
    (hx : (s.sessions.find? fun x => x.path == p) = some x)
    (hold : 1953125 * s.get O_DEBUG_TIMEOUT_S ≤ 2 * (s.beat - x.beat)) :
    exec (.debugTimeout p) s = .next (ended s (s.closeSession p)) := by
  show execDebugTimeout p s = _
  simp only [execDebugTimeout, finish_next, hx, ge_iff_le, hold, if_true]

/-- Settles O25: each command but the timers is the write of its object. -/
theorem engineObjectWritesComplete : Obligations.EngineObjectWritesComplete :=
  ⟨fun _ _ _ _ _ => finish_writeKey, fun _ _ _ _ _ => finish_writeKey, fun _ _ _ _ _ => finish_writeKey,
    fun _ _ _ _ _ => finish_writeKey, fun _ _ _ _ _ => finish_writeKey, fun _ _ _ _ _ => finish_writeKey,
    fun _ _ _ _ _ => finish_writeKey, fun _ _ _ _ _ => finish_writeKey, fun _ _ _ _ _ _ => exec_flagWriteClear,
    fun _ _ _ => exec_debugChallengeExpiry, fun _ _ _ => exec_debugTimeout⟩

end Sys2Proof.Machine
end

section
/-! Proofs of the statement about the beat (R240 to R251, R525, R526). -/

namespace Sys2Proof.Machine

open Sys2Proof

/-! ### The boundary of a beat -/

/-- What a boundary sends is all that its signals add (R242, R468, R526). -/
theorem State.get_emits (s : State) (l : List Emit) (k : Nat) : (s.emits l).get k = s.get k := by
  unfold State.emits
  induction l generalizing s with
  | nil => rfl
  | cons e l ih => rw [List.foldl_cons, ih, State.get_emit]

theorem State.get_beatSignals (s : State) (k : Nat) : s.beatSignals.get k = s.get k := by
  unfold State.beatSignals
  simp only [apply_ite (State.get · k), State.get_emit, State.get_emits, ite_self]

/-- ENGINE_STATE is the only object that decides whether the core is up. -/
theorem State.coreUp_put_ne (s : State) {k : Nat} (v : Nat) (h : O_ENGINE_STATE ≠ k) : (s.put k v).coreUp = s.coreUp := by
  unfold State.coreUp
  rw [s.get_put_ne v h]
  rfl

/-- The notices of dead nodes sent and the replays of each link are counted within one beat. -/
def State.freshBeat (s : State) : State :=
  { s with deadSent := [], links := s.links.map fun p => (p.1, { p.2 with replays := 0 }) }

/-- The count advances by one, and by a jump on top (R250); an originator runs (R249). -/
def State.advanceCount (s : State) (jump : Nat) : State :=
  let s := { s.put O_BEAT_COUNT ((s.beat + 1 + jump) % 2 ^ 64) with jumpBy := 0 }
  if s.get O_BEAT_ROLE == 1 && s.get O_BEAT_STATE != 1 then s.put O_BEAT_STATE 1 else s

/-- A jump is counted, and ends what it ends (R250, R251). -/
def State.countJump (s : State) (jump : Nat) : State :=
  if jump == 0 then s else (s.bump O_BEAT_JUMP_COUNT jump).beatJump

/-- A boundary with the engine powered, out of reset and not HELD. -/
theorem newBeat_advances {s : State} (hpg : s.corePg = true) (hres : s.resetN = true) (hst : s.get O_BEAT_STATE ≠ 3) :
    newBeat s =
      (let t := (s.freshBeat.advanceCount s.jumpBy).countJump s.jumpBy
       if t.coreUp then t.serviceBeat else t).beatSignals := by
  have runs : ¬ (!s.corePg || !s.resetN || s.get O_BEAT_STATE == 3) = true := by simp [hpg, hres, hst]
  exact if_neg runs

theorem State.get_advanceCount (s : State) (jump : Nat) :
    (s.advanceCount jump).get O_BEAT_COUNT = (s.beat + 1 + jump) % 2 ^ 64 := by
  unfold State.advanceCount
  extract_lets u
  have count : u.get O_BEAT_COUNT = (s.beat + 1 + jump) % 2 ^ 64 := s.get_put_same _ _
  split
  · exact (u.get_put_ne 1 (by decide)).trans count
  · exact count

theorem State.coreUp_advanceCount (s : State) (jump : Nat) : (s.advanceCount jump).coreUp = s.coreUp := by
  unfold State.advanceCount
  extract_lets u
  have same : u.coreUp = s.coreUp := s.coreUp_put_ne _ (by decide)
  split
  · exact (u.coreUp_put_ne 1 (by decide)).trans same
  · exact same

/-- Out of service, at a beat that does not jump, only the count advances before the signals go out. -/
theorem newBeat_out_of_service {s : State} (hpg : s.corePg = true) (hres : s.resetN = true)
    (hst : s.get O_BEAT_STATE ≠ 3) (hdown : s.coreUp = false) (hjump : s.jumpBy = 0) :
    newBeat s = (s.freshBeat.advanceCount 0).beatSignals := by
  have down : (s.freshBeat.advanceCount 0).coreUp = false := (s.freshBeat.coreUp_advanceCount 0).trans hdown
  have steady : (s.freshBeat.advanceCount 0).countJump 0 = s.freshBeat.advanceCount 0 := rfl
  rw [newBeat_advances hpg hres hst, hjump, steady]
  dsimp only
  rw [down, if_neg Bool.false_ne_true]

/-- One boundary of a beat that does not stand still (R240). -/
theorem exec_beatBoundary (s : State) : exec .beatBoundary s = .next (ended s (newBeat s)) := rfl

/-- The count of an engine out of service advances by one. -/
theorem exec_beatBoundary_count {s : State} (hpg : s.corePg = true) (hres : s.resetN = true)
    (hst : s.get O_BEAT_STATE ≠ 3) (hdown : s.coreUp = false) (hjump : s.jumpBy = 0) :
    ∃ t, exec .beatBoundary s = .next t ∧ t.get O_BEAT_COUNT = (s.beat + 1) % 2 ^ 64 := by
  refine ⟨_, exec_beatBoundary s, ?_⟩
  rw [ended_get_engine _ _ (by decide) (by decide) (by decide), newBeat_out_of_service hpg hres hst hdown hjump,
    State.get_beatSignals]
  exact s.freshBeat.get_advanceCount 0

/-! ### Following the beat, and losing it -/

/-- A flit on the uplink of a follower that is not an island of the bypass on that link is accepted (R242, R243). -/
theorem exec_beatFlit {s : State} {l : Nat} (f : BeatFlit) (hpg : s.corePg = true) (hres : s.resetN = true)
    (hby : s.get O_BYPASS_STATE = 0 ∨ l < 8) (hl : l < 12) (hlink : s.linkUp l = true) (hrole : s.get O_BEAT_ROLE = 0)
    (hup : s.get O_BEAT_UPLINK = l) : exec (.beatFlit l f) s = .next (ended s (acceptFlit s l f)) := by
  have stays : ¬ (s.get O_BYPASS_STATE = 1 ∧ 8 ≤ l) := by omega
  show execBeatFlit l f s = _
  simp [execBeatFlit, finish_next, stays, hpg, hres, hl, Nat.not_le.2 hl, hlink, hrole, hup]

/-- HOLDOVER begins at this beat: it is flagged and counted (R248). -/
def State.beginHoldover (s : State) : State :=
  let s := ((s.put O_BEAT_STATE 2).raise O_BEAT_FLAGS 0).bump O_BEAT_LOST_COUNT 1
  { s with holdStart := s.beat }

theorem State.get_beginHoldover_ne (s : State) {k : Nat} (hflags : k ≠ O_BEAT_FLAGS) (hcount : k ≠ O_BEAT_LOST_COUNT) :
    s.beginHoldover.get k = (s.put O_BEAT_STATE 2).get k :=
  (State.get_bump_ne _ 1 hcount).trans (State.get_raise_ne _ 0 hflags)

theorem State.beatState_beginHoldover (s : State) : s.beginHoldover.get O_BEAT_STATE = 2 :=
  (s.get_beginHoldover_ne (by decide) (by decide)).trans (s.get_put_same _ 2)

theorem State.holdStart_beginHoldover (s : State) : s.beginHoldover.holdStart = s.beat :=
  (s.get_beginHoldover_ne (by decide) (by decide)).trans (s.get_put_ne 2 (by decide))

theorem State.bitSet_beginHoldover (s : State) : bitSet s.beginHoldover O_BEAT_FLAGS 0 :=
  (congrArg (· / 2 ^ 0 % 2) (State.get_bump_ne _ 1 (by decide))).trans (State.raise_bit _ O_BEAT_FLAGS 0)

theorem State.lostCount_beginHoldover (s : State) :
    s.beginHoldover.get O_BEAT_LOST_COUNT = (s.get O_BEAT_LOST_COUNT + 1) % 2 ^ 64 := by
  have before : ((s.put O_BEAT_STATE 2).raise O_BEAT_FLAGS 0).get O_BEAT_LOST_COUNT = s.get O_BEAT_LOST_COUNT :=
    (State.get_raise_ne _ 0 (by decide)).trans (s.get_put_ne 2 (by decide))
  rw [← before]
  exact State.get_bump_same _ O_BEAT_LOST_COUNT 1

/-- Two beats have passed without an accepted flit or frame (R248). -/
theorem exec_beatLost {s : State} (hpg : s.corePg = true) (hres : s.resetN = true) (hrole : s.get O_BEAT_ROLE ≠ 1)
    (hst : s.get O_BEAT_STATE = 1) (hseen : s.beatSeen + 3 ≤ s.beat) :
    exec .beatLost s = .next (ended s s.beginHoldover) := by
  show execBeatLost s = _
  simp [execBeatLost, State.beginHoldover, finish_next, hpg, hres, hrole, hst, hseen]

theorem exec_holdoverLimitPassed {s : State} (hst : s.get O_BEAT_STATE = 2)
    (hlong : s.holdStart + s.get O_HOLDOVER_LIMIT ≤ s.beat) :
    exec .holdoverLimitPassed s = .next (ended s (s.raise O_BEAT_FLAGS 1)) := by
  show execHoldoverLimitPassed s = _
  simp [execHoldoverLimitPassed, finish_next, hst, hlong]

theorem exec_beatSkew {s : State} {err : Int} (hpg : s.corePg = true) (hres : s.resetN = true)
    (hst : s.get O_BEAT_STATE = 1) (hbig : 1000 * s.get O_BEAT_SKEW_LIMIT < err.natAbs) (hrun : 16 ≤ s.skewRun) :
    exec (.beatSkew err) s
      = .next (ended s ((s.put O_SKEW_ESTIMATE (err % (2 ^ 32 : Int)).toNat).raise O_BEAT_FLAGS 1)) := by
  show execBeatSkew err s = _
  simp [execBeatSkew, finish_next, hpg, hres, hst, hbig, hrun]

/-- A frame of the timing card with its right CRC is followed (R525). -/
theorem exec_beatInFrame {s : State} (count : Nat) (err : Int) (hpg : s.corePg = true) (hres : s.resetN = true)
    (hrole : s.get O_BEAT_ROLE = 2) :
    exec (.beatInFrame count (crc8Count 7 0 count) err) s
      = .next (ended s { (s.compareBeat count (s.get O_BEAT_STATE == 2)).noteSkew err with
          beatSeen := ((s.compareBeat count (s.get O_BEAT_STATE == 2)).noteSkew err).beat, lastExtern := count }) := by
  show execBeatInFrame count (crc8Count 7 0 count) err s = _
  simp only [execBeatInFrame, finish_next, hpg, hres, hrole, beq_self_eq_true, Bool.and_self, if_true]

/-- Settles O17: one lemma for each command. -/
theorem beatCommandsComplete : Obligations.BeatCommandsComplete := by
  refine ⟨fun s _ _ _ => exec_beatBoundary s, fun _ => exec_beatBoundary_count, fun _ _ f => exec_beatFlit f,
    ?_, fun _ => exec_holdoverLimitPassed, fun _ _ => exec_beatSkew,
    fun _ count err => exec_beatInFrame count err⟩
  intro s hpg hres hrole hst hseen
  have engine {k : Nat} (hk : k < 0x800000) (hmirror : k ≠ O_MIRROR_BYTES) (hnotice : k ≠ O_NOTICES_SENT) :
      (ended s s.beginHoldover).get k = s.beginHoldover.get k := ended_get_engine s _ hk hmirror hnotice
  refine ⟨_, exec_beatLost hpg hres hrole hst hseen, ?_, ?_, ?_, (ended_holdStart s _).trans s.holdStart_beginHoldover⟩
  · exact (engine (by decide) (by decide) (by decide)).trans s.beatState_beginHoldover
  · exact (congrArg (· / 2 ^ 0 % 2) (engine (by decide) (by decide) (by decide))).trans s.bitSet_beginHoldover
  · exact (engine (by decide) (by decide) (by decide)).trans s.lostCount_beginHoldover

end Sys2Proof.Machine
end

section
/-! Proofs of the statement about checkpoints and restores (R265, R498 to R506). -/

namespace Sys2Proof.Machine

open Sys2Proof

/-! ### What a running checkpoint keeps of its background stage

A write of memory copies the chunks it reaches first (R500): of the checkpoint only the list of chunks moves. -/

/-- From `s` to `t` the phase stays that it was, and the running checkpoint too but for its chunks. -/
structure CkptKept (s t : State) : Prop where
  phase : t.get O_CKPT_PHASE = s.get O_CKPT_PHASE
  job : ∀ j, s.ckpt = some j → ∃ chs, t.ckpt = some { j with chunks := chs }

namespace CkptKept

variable {s t u : State}

/-- What leaves the phase and the checkpoint alone. -/
theorem of_eq (hphase : t.get O_CKPT_PHASE = s.get O_CKPT_PHASE) (hckpt : t.ckpt = s.ckpt) : CkptKept s t :=
  ⟨hphase, fun j hj => ⟨j.chunks, hckpt.trans hj⟩⟩

theorem refl (s : State) : CkptKept s s := of_eq rfl rfl

theorem trans (h : CkptKept s t) (k : CkptKept t u) : CkptKept s u := by
  refine ⟨k.phase.trans h.phase, fun j hj => ?_⟩
  obtain ⟨chs, ht⟩ := h.job j hj
  exact k.job { j with chunks := chs } ht

theorem ite {p : Prop} [Decidable p] (h : CkptKept s t) (k : CkptKept s u) : CkptKept s (if p then t else u) := by
  split
  · exact h
  · exact k

theorem put (s : State) {k : Nat} (v : Nat) (h : O_CKPT_PHASE ≠ k) : CkptKept s (s.put k v) := of_eq (s.get_put_ne v h) rfl

theorem bump (s : State) {k : Nat} (n : Nat) (h : O_CKPT_PHASE ≠ k) : CkptKept s (s.bump k n) := put s _ h

theorem cput (s : State) (c : Nat) {k : Nat} (v : Nat) (h : 0x800000 ≤ k) : CkptKept s (s.cput c k v) :=
  put s v (engKey_ne (by decide) h)

theorem modRing (s : State) (c : Nat) (f : Ring → Ring) : CkptKept s (s.modRing c f) := of_eq rfl rfl

theorem copyChunk (s : State) (j : CkptJob) (ch : Nat × Nat) (hj : s.ckpt = some j) : CkptKept s (s.copyChunk j ch) := by
  unfold State.copyChunk
  split
  · exact refl s
  · refine ⟨rfl, fun j' hj' => ?_⟩
    obtain rfl : j = j' := Option.some.inj (hj.symm.trans hj')
    exact ⟨_, rfl⟩

theorem cow (s : State) (q n : Nat) : CkptKept s (s.cow q n) := by
  unfold State.cow
  split
  · exact refl s
  · split
    · exact refl s
    · rename_i j hj _
      clear hj
      generalize List.filter _ _ = chunks
      induction chunks generalizing s with
      | nil => exact refl s
      | cons ch rest ih =>
        rw [List.foldl_cons]
        refine trans ?_ (ih _)
        split
        · rename_i j hj
          exact (copyChunk s j ch hj).trans (bump _ 1 (by decide))
        · exact refl s

theorem wr (s : State) (a : Nat) (bs : Bytes) : CkptKept s (s.wr a bs) :=
  (cow s (addrKey a) bs.length).trans (of_eq rfl rfl)

theorem syncRing (s : State) (c : Nat) : CkptKept s (s.syncRing c) :=
  (cput s c _ (by decide)).trans (.ite (refl _) (wr _ _ _))

theorem mirrorState (s : State) (c : Nat) : CkptKept s (s.mirrorState c) :=
  .ite (of_eq (State.get_put_ne _ _ (show O_CKPT_PHASE ≠ O_MIRROR_BYTES by decide)) rfl) (refl s)

theorem logEvent (s : State) (code sev kind unit ctx detail : Nat) :
    CkptKept s (s.logEvent code sev kind unit ctx detail) :=
  .trans (of_eq rfl rfl) ((put _ _ (by decide)).trans (of_eq rfl rfl))

theorem setCState (s : State) (c st code : Nat) : CkptKept s (s.setCState c st code) :=
  ((cput s c st (by decide)).trans (.ite (logEvent _ _ _ _ _ _ _) (refl _))).trans (mirrorState _ c)

theorem toState (s : State) (c st code : Nat) : CkptKept s (s.toState c st code) :=
  (setCState s c st code).trans (syncRing _ c)

end CkptKept

/-! ### CHECKPOINT and DIGEST_SNAP in front of a ring (R265, R498) -/

section Front

variable {s : State} {c i : Nat} {d : Bytes}

theorem exec_checkpoint (hat : AtFront s c i d 0x41 (s.ckChecks c d)) :
    exec (.checkpoint c) s
      = .next (ended s (({ s.accept c i d with
          ckpt := some ⟨c, i, fld d 24 1, fld d 16 8, fld d 25 1, fld d 28 4, fld d 32 8, fld d 40 8, 1, 0, 0, [], []⟩
          }.put O_CKPT_PHASE 1).hold c (.checkpoint i (fld d 16 8)))) := by
  have pass : firstCode (s.ckChecks c d) = none := hat.2.2
  have unflagged : s.ckFlag 0 = s := rfl
  show execCheckpoint c s = _
  rw [execCheckpoint, s.takeFront_atFront hat (by decide), issueCheckpoint, pass, Option.getD_none, unflagged]
  dsimp only
  rw [s.issueDesc_atFront hat (by decide), finish_next]

theorem exec_digestSnap (hat : AtFront s c i d 0x42 (snapChecks s c d)) :
    exec (.digestSnap c) s
      = .next (ended s ((s.accept c i d).modRing c fun r =>
          { r with pendingSnaps := r.pendingSnaps ++
              [(i, if fld d 16 8 ≤ (s.accept c i d).beat then (s.accept c i d).beat + 1 else fld d 16 8)] })) := by
  show execDigestSnap c s = _
  rw [execDigestSnap, s.takeFront_atFront hat (by decide), issueDigestSnap, s.issueDesc_atFront hat (by decide), finish_next]

end Front

theorem exec_digestSnapCapture {s : State} {c i b : Nat} (hup : s.coreUp = true)
    (hsnap : ((s.ctx c).ring.pendingSnaps.find? fun p => p.2 ≤ s.beat) = some (i, b)) (hfirst : s.dueBelow 1 b = false) :
    exec (.digestSnapCapture c) s
      = .next (ended s (((s.modRing c fun r => { r with pendingSnaps := r.pendingSnaps.erase (i, b) }).snap c).endDesc c i
          0)) := by
  show execDigestSnapCapture c s = _
  simp [execDigestSnapCapture, finish_next, hsnap, hup, hfirst]

/-! ### The stages of a checkpoint (R499 to R504) -/

theorem exec_checkpointCut {s : State} {c i b : Nat} {j : CkptJob} (hup : s.coreUp = true)
    (hcut : (s.ctx c).ring.cutting = some (i, b)) (hj : s.ckpt = some j) (hctx : j.ctx = c) (hidx : j.idx = i)
    (hdue : b ≤ s.beat) (hfirst : s.dueBelow 3 b = false) (hidle : (s.ctx c).cutBusy = false)
    (hst : s.cstate c = 2 ∨ s.cstate c = 3 ∨ s.cstate c = 5) :
    exec (.checkpointCut c) s = .next (ended s (s.takeCut c j)) := by
  have works : (s.cstate c == 2 || s.cstate c == 3 || s.cstate c == 5) = true := by simpa [or_assoc] using hst
  show execCheckpointCut c s = _
  simp [execCheckpointCut, finish_next, hcut, hj, hup, hctx, hidx, Nat.not_lt.2 hdue, hfirst, hidle, works]

/-- Stage 1 ends, whatever the state of the context: the background stage of the same checkpoint begins. -/
theorem exec_checkpointStage1End {s : State} {c : Nat} {j : CkptJob} (hup : s.coreUp = true) (hj : s.ckpt = some j)
    (hctx : j.ctx = c) (hphase : j.phase = 2) :
    ∃ t, exec (.checkpointStage1End c) s = .next (ended s t) ∧
      CkptKept ({ s with ckpt := some { j with phase := 3 } }.put O_CKPT_PHASE 3) t := by
  have taken : (s.coreUp && j.ctx == c && j.phase == 2) = true := by simp [hup, hctx, hphase]
  show ∃ t, execCheckpointStage1End c s = _ ∧ _
  unfold execCheckpointStage1End
  simp only [hj, taken, if_true, finish_next]
  refine ⟨_, rfl, .trans (CkptKept.modRing _ _ _) (.ite (CkptKept.toState _ _ _ _) (CkptKept.syncRing _ _))⟩

/-- The next chunk lies in memory that reads well (R500). -/
theorem exec_backgroundChunkCopy {s : State} {c : Nat} {j : CkptJob} {ch : Nat × Nat} {rest : List (Nat × Nat)}
    {src dst n : Nat} (hup : s.coreUp = true) (hj : s.ckpt = some j) (hctx : j.ctx = c) (hphase : j.phase = 3)
    (hch : j.chunks = ch :: rest) (hspan : j.chunkSpan ch = some (src, dst, n)) (hclean : s.isPoisoned src n = false) :
    exec (.backgroundChunkCopy c) s = .next (ended s (s.copyChunk j ch)) := by
  show execBackgroundChunkCopy c s = _
  simp [execBackgroundChunkCopy, finish_next, hj, hch, hup, hctx, hphase, hspan, hclean]

/-- Without DRAIN the descriptor ends with the seal (R502). -/
theorem exec_checkpointSeal {s : State} {c : Nat} {j : CkptJob} (hup : s.coreUp = true) (hj : s.ckpt = some j)
    (hctx : j.ctx = c) (hphase : j.phase = 3) (hch : j.chunks = []) (hdrain : j.flags % 2 = 0) :
    exec (.checkpointSeal c) s
      = .next (ended s (({ s.sealSlot j with ckpt := none }.put O_CKPT_PHASE 0).endCkptDesc j 0)) := by
  show execCheckpointSeal c s = _
  simp [execCheckpointSeal, finish_next, hj, hup, hctx, hphase, hch, hdrain]

/-- A drain to the host ends well when it is delivered, a module carries it, and the slot reads well (R503). -/
theorem exec_checkpointDrain_host {s : State} {c : Nat} {j : CkptJob} (hup : s.coreUp = true) (hj : s.ckpt = some j)
    (hctx : j.ctx = c) (hphase : j.phase = 4) (hhost : j.flags / 4 % 2 = 1) (hmods : s.hostMods ≠ [])
    (hclean : ∀ sh ∈ j.shards, s.isPoisoned sh.place sh.length = false) :
    exec (.checkpointDrain c true) s
      = .next (ended s (({ s.drainImage j (drainPlaces manifestArea (s.ckEntries j)).2
            (drainPlaces manifestArea (s.ckEntries j)).1 with ckpt := none }.put O_CKPT_PHASE 0).endCkptDesc j 0)) := by
  have reads : (j.shards.any fun sh => s.isPoisoned sh.place sh.length) = false :=
    List.any_eq_false.2 fun sh hsh => by simp [hclean sh hsh]
  have carried : s.hostMods.isEmpty = false := by simp [hmods]
  show execCheckpointDrain c true s = _
  simp only [execCheckpointDrain, finish_next, hj, hup, hctx, hphase, hhost, reads, carried, beq_self_eq_true,
    Bool.and_self, Bool.not_false, if_true]

/-- A checkpoint stops before its seal, whatever the cause (R504). -/
theorem exec_checkpointAbort {s : State} {slot : Nat} {j : CkptJob} (hup : s.coreUp = true) (hj : s.ckpt = some j)
    (hslot : j.slot = slot) (hphase : j.phase < 4) :
    exec (.checkpointAbort slot) s = .next (ended s (s.stopCkpt j false)) := by
  show execCheckpointAbort slot s = _
  simp [execCheckpointAbort, finish_next, hj, hup, hslot, hphase]

/-! ### The end of a verify and of a restore (R505, R506, R509) -/

/-- A manifest is found: the digests of its shards decide. -/
theorem exec_slotVerifyEnd {s : State} {j : RestoreJob} {m : Bytes × List CkEntry} (hup : s.coreUp = true)
    (hj : s.restoring = some j) (hverify : j.verify = true) (hm : readManifest (s.restoreRead j) = some m) :
    exec .slotVerifyEnd s
      = .next (ended s
          (s.restoreEnds (if m.2.all fun e => shardDigest (s.shardBytes j e) == e.digest then 0 else 0xCA))) := by
  show execSlotVerifyEnd s = _
  simp only [execSlotVerifyEnd, finish_next, hj, hup, hverify, hm, Bool.not_true, Bool.or_self, Bool.false_eq_true,
    if_false]

/-- The shards were read without fault, and the record with its digest: it is written, and the restore ends well. -/
theorem exec_restoreFinish {s u : State} {j : RestoreJob} {m : Bytes × List CkEntry} (hup : s.coreUp = true)
    (hj : s.restoring = some j) (hverify : j.verify = false) (hm : readManifest (s.restoreRead j) = some m)
    (hst : s.cstate j.ctx = 1) (hshards : s.restoreShards j m.2 = (u, none))
    (hrec : (m.2.all fun e => e.kind != 0 || shardDigest (u.shardBytes j e) == e.digest) = true) :
    exec .restoreFinish s = .next (ended s ((u.restoreContext j.ctx (u.restoreRecord j m.2)).restoreEnds 0)) := by
  show execRestoreFinish s = _
  simp only [execRestoreFinish, finish_next, hj, hup, hverify, hm, hst, hshards, hrec, bne_self_eq_false, Bool.not_true,
    Bool.or_self, Bool.false_eq_true, if_false]

/-- Settles O9: one lemma for each command and event; only the end of stage 1 can write memory that the background stage
then begun copies first. -/
theorem checkpointCommandsComplete : Obligations.CheckpointCommandsComplete := by
  refine ⟨fun _ _ _ _ => exec_checkpoint, fun _ _ _ _ _ => exec_checkpointCut, ?_,
    fun _ _ _ _ _ _ _ _ => exec_backgroundChunkCopy, fun _ _ _ => exec_checkpointSeal,
    fun _ _ _ => exec_checkpointDrain_host, fun _ _ _ => exec_checkpointAbort, fun _ _ _ => exec_slotVerifyEnd,
    fun _ _ _ _ => exec_restoreFinish, fun _ _ _ _ => exec_digestSnap, fun _ _ _ _ => exec_digestSnapCapture⟩
  intro s c j hup hj hctx hphase
  obtain ⟨t, hexec, hkept⟩ := exec_checkpointStage1End hup hj hctx hphase
  obtain ⟨chs, hjob⟩ := hkept.job _ rfl
  refine ⟨_, hexec, ?_, _, (ended_ckpt s t).trans hjob, rfl, hctx, rfl⟩
  rw [ended_get_engine _ _ (by decide) (by decide) (by decide), hkept.phase]
  exact State.get_put_same _ _ _

end Sys2Proof.Machine
end

section
/-! Proofs of the statement about wiped memory (R303, R304, R500). -/

namespace Sys2Proof.Machine

open Sys2Proof

/-! ### A span of memory set to 0 (R303) -/

/-- A listed byte goes if it lies in the span, and stays otherwise. -/
theorem memZero_cons (k : Nat) (v : Byte) (m : List Host.Cell) (q n : Nat) :
    memZero ((k, v) :: m) q n = if q ≤ k ∧ k < q + n then memZero m q n else (k, v) :: memZero m q n := by
  by_cases h : q ≤ k ∧ k < q + n <;> simp [memZero, List.filter_cons, h]

theorem memByte_cons (k : Nat) (v : Byte) (m : List Host.Cell) (a : Nat) :
    memByte ((k, v) :: m) a = if k = a then v else memByte m a := by
  by_cases h : k = a <;> simp [memByte, h]

/-- Within the span no byte is listed. -/
theorem memByte_zero_in (m : List Host.Cell) {q n a : Nat} (h : q ≤ a ∧ a < q + n) : memByte (memZero m q n) a = 0 := by
  induction m with
  | nil => rfl
  | cons p r ih =>
    obtain ⟨k, v⟩ := p
    rw [memZero_cons]
    split
    · exact ih
    · next hk =>
      have hne : k ≠ a := fun e => hk (e ▸ h)
      rw [memByte_cons, if_neg hne, ih]

/-- Outside it every byte is as it was. -/
theorem memByte_zero_out (m : List Host.Cell) {q n a : Nat} (h : ¬ (q ≤ a ∧ a < q + n)) :
    memByte (memZero m q n) a = memByte m a := by
  induction m with
  | nil => rfl
  | cons p r ih =>
    obtain ⟨k, v⟩ := p
    rw [memZero_cons, memByte_cons]
    split
    · next hk =>
      have hne : k ≠ a := fun e => h (e ▸ hk)
      rw [ih, if_neg hne]
    · rw [memByte_cons, ih]

/-- With no checkpoint under way a wipe copies nothing first (R500). -/
theorem State.wipeSpan_mem (s : State) (q n : Nat) (h : s.ckpt = none) : (s.wipeSpan q n).mem = memZero s.mem q n := by
  simp [State.wipeSpan, State.cow, h, State.unpoison]

/-- A wipe touches what a write of memory touches. -/
theorem State.wipeSpan_shape (s : State) (q n : Nat) :
    ∃ ob p m k, s.wipeSpan q n = { s with objs := ob, poisoned := p, mem := m, ckpt := k } := by
  obtain ⟨ob, p, m, k, h⟩ := s.cow_shape q n
  unfold State.wipeSpan
  dsimp only
  rw [h]
  exact ⟨_, _, _, _, rfl⟩

@[simp] theorem State.wipeSpan_wipingPages (s : State) (q n : Nat) : (s.wipeSpan q n).wipingPages = s.wipingPages := by
  obtain ⟨_, _, _, _, h⟩ := s.wipeSpan_shape q n
  rw [h]

@[simp] theorem State.wipeSpan_wipingExtents (s : State) (q n : Nat) :
    (s.wipeSpan q n).wipingExtents = s.wipingExtents := by
  obtain ⟨_, _, _, _, h⟩ := s.wipeSpan_shape q n
  rw [h]

/-- The page first in its slice leaves the list of those being wiped, and is set to 0 (R303, R304). -/
theorem exec_wipeComplete_page {s : State} {u : Nat} (hup : s.coreUp = true)
    (hfirst : wipesFirst s.wipingPages 24 u = true) :
    exec (.wipeComplete false u true) s
      = .next (ended s
          (({ s with wipingPages := s.wipingPages.filter (· != u) }.wipeSpan (u * 65536) 65536).ownersUp)) := by
  show execWipeComplete false u true s = _
  simp only [execWipeComplete, finish_next, hup, hfirst, Bool.not_true, Bool.false_eq_true, if_false, if_true]

/-- So does the extent first in its stack. -/
theorem exec_wipeComplete_extent {s : State} {u : Nat} (hup : s.coreUp = true)
    (hfirst : wipesFirst s.wipingExtents 4096 u = true) :
    exec (.wipeComplete true u true) s
      = .next (ended s
          (({ s with wipingExtents := s.wipingExtents.filter (· != u) }.wipeSpan (2 ^ 46 + u * 2 ^ 24)
            (2 ^ 24)).ownersUp)) := by
  show execWipeComplete true u true s = _
  simp only [execWipeComplete, finish_next, hup, hfirst, Bool.not_true, Bool.false_eq_true, if_false, if_true]

/-- Settles O35: the wipe drops the listed bytes of the page from memory, and only those. -/
theorem wipedPageReadsZero : Obligations.WipedPageReadsZero := by
  intro s u hup hck hfirst
  have hmem : (ended s (({ s with wipingPages := s.wipingPages.filter (· != u) }.wipeSpan (u * 65536)
      65536).ownersUp)).mem = memZero s.mem (u * 65536) 65536 :=
    (ended_mem _ _).trans (State.wipeSpan_mem _ _ _ hck)
  refine ⟨_, exec_wipeComplete_page hup hfirst, ?_, fun a hlo hhi => ?_, fun a hout => ?_⟩
  · simp [State.ownersUp]
  · rw [hmem, memByte_zero_in _ ⟨hlo, hhi⟩]
  · rw [hmem, memByte_zero_out _ hout]

end Sys2Proof.Machine
end

section
/-! Proofs of the statement about the copies of the tensor mover and of the fabric (R294 to R298, R339). -/

namespace Sys2Proof.Machine

open Sys2Proof

/-- COPY carried out in the mode that its descriptor names, between two tensors (R294). -/
def runCopyMode (s : State) (c i : Nat) (d : Bytes) (a b : TDesc) : State :=
  match fld d 22 1 with
  | 0 => runCopyPlain s c i a b
  | 1 => runCopyBlocks s c i d a b
  | 2 => runCopyBlocks s c i d a b
  | 3 => runExpand1 s c i d a b
  | _ => runExpand2 s c i d a b

section Front

variable {s : State} {c i : Nat} {d : Bytes}

/-- The row of COPY that asks for the mode in front issues it; the handles are read before it is accepted. -/
theorem finish_copy_atFront {mine : Bytes → Bool} (hat : AtFront s c i d 0x10 (copyModeChecks s c d))
    (hmine : mine d = true) :
    finish s (s.takeFront c mine fun i d => issueCopy s c i d)
      = .next (ended s (runCopyMode (s.accept c i d) c i d (s.descOf c (fld d 16 2)) (s.descOf c (fld d 18 2)))) := by
  obtain ⟨hfront, hop, -⟩ := id hat
  have known : opcodes.contains (fld d 0 1) = true := by rw [hop]; decide
  rw [s.takeFront_mine _ hfront known hmine, issueCopy, s.issueDesc_atFront hat (by decide), finish_next]
  rfl

theorem isCopy_atFront {mode : Nat} {checks : List (Option Nat)} (hat : AtFront s c i d 0x10 checks)
    (hmode : fld d 22 1 = mode) : isCopy mode d = true := by
  obtain ⟨-, hop, -⟩ := hat
  simp [isCopy, hop, hmode]

theorem exec_copy (hat : AtFront s c i d 0x10 (copyModeChecks s c d)) (hmode : fld d 22 1 = 0) :
    exec (.copy c) s
      = .next (ended s (runCopyPlain (s.accept c i d) c i (s.descOf c (fld d 16 2)) (s.descOf c (fld d 18 2)))) := by
  obtain ⟨-, hop, -⟩ := id hat
  refine (finish_copy_atFront hat ?_).trans ?_
  · simp [hop, hmode]
  · simp only [runCopyMode, hmode]

theorem exec_copyGather (hat : AtFront s c i d 0x10 (copyModeChecks s c d)) (hmode : fld d 22 1 = 1) :
    exec (.copyGather c) s
      = .next (ended s (runCopyBlocks (s.accept c i d) c i d (s.descOf c (fld d 16 2)) (s.descOf c (fld d 18 2)))) := by
  refine (finish_copy_atFront hat (isCopy_atFront hat hmode)).trans ?_
  simp only [runCopyMode, hmode]

theorem exec_copyScatter (hat : AtFront s c i d 0x10 (copyModeChecks s c d)) (hmode : fld d 22 1 = 2) :
    exec (.copyScatter c) s
      = .next (ended s (runCopyBlocks (s.accept c i d) c i d (s.descOf c (fld d 16 2)) (s.descOf c (fld d 18 2)))) := by
  refine (finish_copy_atFront hat (isCopy_atFront hat hmode)).trans ?_
  simp only [runCopyMode, hmode]

theorem exec_copyExpand1d (hat : AtFront s c i d 0x10 (copyModeChecks s c d)) (hmode : fld d 22 1 = 3) :
    exec (.copyExpand1d c) s
      = .next (ended s (runExpand1 (s.accept c i d) c i d (s.descOf c (fld d 16 2)) (s.descOf c (fld d 18 2)))) := by
  refine (finish_copy_atFront hat (isCopy_atFront hat hmode)).trans ?_
  simp only [runCopyMode, hmode]

theorem exec_copyExpand2d (hat : AtFront s c i d 0x10 (copyModeChecks s c d)) (hmode : fld d 22 1 = 4) :
    exec (.copyExpand2d c) s
      = .next (ended s (runExpand2 (s.accept c i d) c i d (s.descOf c (fld d 16 2)) (s.descOf c (fld d 18 2)))) := by
  refine (finish_copy_atFront hat (isCopy_atFront hat hmode)).trans ?_
  simp only [runCopyMode, hmode]

theorem exec_layout (hat : AtFront s c i d 0x11 (layoutChecks s c d)) :
    exec (.layout c) s
      = .next (ended s (runCopyPlain (s.accept c i d) c i (s.descOf c (fld d 16 2)) (s.descOf c (fld d 18 2)))) := by
  show execLayout c s = _
  rw [execLayout, s.takeFront_atFront hat (by decide), issueLayout, s.issueDesc_atFront hat (by decide), finish_next]

theorem exec_fabricCopy (hat : AtFront s c i d 0x12 (fabCopyChecks s c d)) :
    exec (.fabricCopy c) s = .next (ended s (runFabricCopy (s.accept c i d) c i d)) := by
  show execFabricCopy c s = _
  rw [execFabricCopy, s.takeFront_atFront hat (by decide), issueFabricCopy, s.issueDesc_atFront hat (by decide),
    finish_next]

end Front

/-- The end of a COPY or LAYOUT in progress (R299, R395). -/
theorem exec_tensorMoverDone {s : State} {c idx : Nat} {a : Active} (hup : s.coreUp = true)
    (ha : a ∈ (s.ctx c).ring.active) (hidx : a.idx = idx) (hop : a.op = 0x10 ∨ a.op = 0x11) :
    exec (.tensorMoverDone c idx) s = .next (ended s (s.endDesc c idx 0)) := by
  have moving : ((s.ctx c).ring.active.any fun a => a.idx == idx && (a.op == 0x10 || a.op == 0x11)) = true :=
    List.any_eq_true.2 ⟨a, ha, by simpa [hidx] using hop⟩
  show execTensorMoverDone c idx s = _
  simp only [execTensorMoverDone, finish_next, hup, moving, Bool.not_true, Bool.false_eq_true, if_false, if_true]

/-- Settles O6: one lemma for each command; the modes of COPY share the issue and differ in what runs. -/
theorem copyCommandsComplete : Obligations.CopyCommandsComplete :=
  ⟨fun _ _ _ _ => exec_copy, fun _ _ _ _ => exec_copyGather, fun _ _ _ _ => exec_copyScatter,
    fun _ _ _ _ => exec_copyExpand1d, fun _ _ _ _ => exec_copyExpand2d, fun _ _ _ _ => exec_layout,
    fun _ _ _ _ => exec_fabricCopy, fun _ _ _ _ => exec_tensorMoverDone⟩

end Sys2Proof.Machine
end

section
/-! Proofs of the statement about the control writes of pools, groups and units (R284, R290, R352, R453, R462, R464, R536). -/

namespace Sys2Proof.Machine

open Sys2Proof

/-! ### A write of an action object (R536) -/

/-- The row of an action object of one byte. -/
def ObjInfo.IsByteAction (i : ObjInfo) : Prop := i.ty = .u8 ∧ ∃ n, i.chk = .action n

/-- Past its checks, a write of an action object is the action of the table that holds the object. -/
theorem State.writeObj_action {s : State} {p : Path} {k v : Nat} {i : ObjInfo} (a : Around) (hrow : i.IsByteAction)
    (hv : v < 256) (hpass : s.writeCheck p k i (leBytes 1 v) = none) :
    s.writeObj p k i (leBytes 1 v) a
      = if isCtxObj k then s.writeCtxObj (keyCtx k) (keyBase k) v (leBytes 1 v) i
        else if isPoolObj k then s.writePoolObj (keyPool k) (normKey k) v
        else s.writeEngObj p k v (leBytes 1 v) i a := by
  obtain ⟨hty, n, hchk⟩ := hrow
  have hkept : keptValue i (leNat (leBytes 1 v)) = v := by rw [leNat_leBytes 1 v hv, keptValue, hchk]
  have hlen : (i.ty.len == 0) = false := by rw [hty]; rfl
  simp only [State.writeObj, hpass, hkept, hlen, Bool.false_eq_true, if_false]
  split <;> simp only [*]

/-- A command that writes an action object ends, where the action takes effect, in the state that the action leads to. -/
theorem finish_acts {s t : State} {p : Path} {k v : Nat} {i row : ObjInfo} {act : Eff}
    (hobj : objAt (k / 256) (k % 256) = some row)
    (hwrite : s.writeCheck p k row (leBytes 1 v) = none → s.writeObj p k row (leBytes 1 v) Around.none = act)
    (h : Acts s p k v i act t) :
    finish s (s.writeKey p k (leBytes 1 v) Around.none) = .next (written s p k (leBytes 1 v) i t) := by
  obtain ⟨hreach, hpass, hact⟩ := h
  obtain ⟨-, -, -, hat⟩ := id hreach
  obtain rfl : row = i := Option.some.inj (hobj.symm.trans hat)
  exact finish_writeKey ⟨hreach, (hwrite hpass).trans hact⟩

/-! ### POOL_CTRL (R284, R290) -/

/-- The row found for an object of a pool is that of pool 0 (R433). -/
theorem objAt_pool {u k : Nat} (hu : u < 256) (hk : 0x240000 ≤ k) (hk' : k < 0x240100) :
    objAt (unitKey u k / 256) (unitKey u k % 256) = objAt (k / 256) (k % 256) := by
  have split_key (j : Nat) : j / 256 * 256 + j % 256 = j := Nat.div_add_mod' j 256
  have sub : unitKey u k % 256 = k % 256 := by unfold unitKey; omega
  have row : normKey (unitKey u k) = normKey k := by
    rw [normKey_pool hu hk hk']
    exact (normKey_pool (u := 0) (by decide) hk hk').symm
  have index : normIndex (unitKey u k / 256) = normIndex (k / 256) := by
    unfold normKey at row
    omega
  have inside (j : Nat) (hj : j < 0x250000) : (j / 256 < 65536 && j % 256 < 256) = true := by
    simp only [Bool.and_eq_true, decide_eq_true_eq]
    omega
  unfold objAt
  rw [split_key, split_key, if_pos (inside _ (by unfold unitKey; omega)), if_pos (inside _ (by omega))]
  unfold objInfo
  rw [sub, row, index]

theorem keyPool_unitKey {u k : Nat} (hk : 0x240000 ≤ k) (hk' : k < 0x240100) : keyPool (unitKey u k) = u := by
  unfold keyPool unitKey
  omega

section PoolKey

variable {u k : Nat} (hu : u < 256) (hk : 0x240000 ≤ k) (hk' : k < 0x240100)

include hu hk hk'

theorem isPoolObj_unitKey : isPoolObj (unitKey u k) = true := by
  unfold isPoolObj unitKey
  simp only [Bool.and_eq_true, decide_eq_true_eq]
  omega

theorem isCtxObj_unitKey : isCtxObj (unitKey u k) = false := by
  unfold isCtxObj unitKey
  simp only [Bool.and_eq_false_iff, decide_eq_false_iff_not]
  omega

end PoolKey

/-- The row of POOL_CTRL. -/
def poolCtrlRow : ObjInfo := ⟨.u8, 2, .cond, .action 2⟩

theorem objAt_poolCtrl {u : Nat} (hu : u < 256) :
    objAt (unitKey u O_POOL_CTRL / 256) (unitKey u O_POOL_CTRL % 256) = some poolCtrlRow := by
  rw [objAt_pool hu (by decide) (by decide)]
  decide +kernel

/-- A write of POOL_CTRL of pool `u` is an action on that pool. -/
theorem State.writeObj_poolCtrl {s : State} {p : Path} {u v : Nat} (a : Around) (hu : u < 256) (hv : v < 256)
    (hpass : s.writeCheck p (unitKey u O_POOL_CTRL) poolCtrlRow (leBytes 1 v) = none) :
    s.writeObj p (unitKey u O_POOL_CTRL) poolCtrlRow (leBytes 1 v) a = ctlPool s u v := by
  rw [State.writeObj_action a ⟨rfl, 2, rfl⟩ hv hpass, isCtxObj_unitKey hu (by decide) (by decide),
    isPoolObj_unitKey hu (by decide) (by decide), keyPool_unitKey (by decide) (by decide),
    normKey_pool hu (by decide) (by decide)]
  rfl

/-! ### GROUP_CTRL and UNIT_CTRL (R352, R453, R462, R464) -/

/-- The row of GROUP_CTRL. -/
def groupCtrlRow : ObjInfo := ⟨.u8, 2, .cond, .action 2⟩

theorem objAt_groupCtrl : objAt (O_GROUP_CTRL / 256) (O_GROUP_CTRL % 256) = some groupCtrlRow := by decide +kernel

/-- The row of UNIT_CTRL. -/
def unitCtrlRow : ObjInfo := ⟨.u8, 1, .any, .action 3⟩

theorem objAt_unitCtrl : objAt (O_UNIT_CTRL / 256) (O_UNIT_CTRL % 256) = some unitCtrlRow := by decide +kernel

section Selected

variable {s : State} {p : Path} {v : Nat} (a : Around) (hv : v < 256)

include hv

/-- A write of GROUP_CTRL is an action on the group that the path has selected (R380). -/
theorem State.writeObj_groupCtrl (hpass : s.writeCheck p O_GROUP_CTRL groupCtrlRow (leBytes 1 v) = none) :
    s.writeObj p O_GROUP_CTRL groupCtrlRow (leBytes 1 v) a = ctlGroup s (s.sel p O_GROUP_SELECT) v :=
  State.writeObj_action a ⟨rfl, 2, rfl⟩ hv hpass

/-- A write of UNIT_CTRL is an action on the unit that the path has selected (R475). -/
theorem State.writeObj_unitCtrl (hpass : s.writeCheck p O_UNIT_CTRL unitCtrlRow (leBytes 1 v) = none) :
    s.writeObj p O_UNIT_CTRL unitCtrlRow (leBytes 1 v) a = ctlUnit s (s.sel p O_UNIT_SELECT) v :=
  State.writeObj_action a ⟨rfl, 3, rfl⟩ hv hpass

end Selected

/-- Settles O22: each command is the write of its value to its action object. -/
theorem poolGroupUnitControlCompletes : Obligations.PoolGroupUnitControlCompletes :=
  ⟨fun _ _ _ _ _ hu => finish_acts (objAt_poolCtrl hu) (State.writeObj_poolCtrl _ hu (by decide)),
    fun _ _ _ _ _ hu => finish_acts (objAt_poolCtrl hu) (State.writeObj_poolCtrl _ hu (by decide)),
    fun _ _ _ _ => finish_acts objAt_groupCtrl (State.writeObj_groupCtrl _ (by decide)),
    fun _ _ _ _ => finish_acts objAt_groupCtrl (State.writeObj_groupCtrl _ (by decide)),
    fun _ _ _ _ => finish_acts objAt_unitCtrl (State.writeObj_unitCtrl _ (by decide)),
    fun _ _ _ _ => finish_acts objAt_unitCtrl (State.writeObj_unitCtrl _ (by decide)),
    fun _ _ _ _ => finish_acts objAt_unitCtrl (State.writeObj_unitCtrl _ (by decide))⟩

end Sys2Proof.Machine
end

section
/-! Proofs of the statement about the commands of Guardian (R303, R446, R447, R449 to R462). -/

namespace Sys2Proof.Machine

open Sys2Proof

/-! ### Objects read past the end of a command -/

/-- A bit of an object of the engine, read past the end of a command. -/
theorem bitSet_ended {s t : State} {k b : Nat} (hk : k < 0x800000) (hmirror : k ≠ O_MIRROR_BYTES)
    (hnotice : k ≠ O_NOTICES_SENT) (h : bitSet t k b) : bitSet (ended s t) k b :=
  (congrArg (· / 2 ^ b % 2) (ended_get_engine s t hk hmirror hnotice)).trans h

/-- An object of a pool, read past the end of a command. -/
theorem ended_pget (s t : State) {u k : Nat} (hu : u < 256) (hk : 0x240000 ≤ k) (hk' : k < 0x240100) :
    (ended s t).pget u k = t.pget u k := by
  refine ended_get_engine s t ?_ ?_ ?_
  all_goals
    simp only [unitKey, O_MIRROR_BYTES, O_NOTICES_SENT]
    omega

theorem State.get_ite {p : Prop} [Decidable p] {a b : State} {k v : Nat} (ha : a.get k = v) (hb : b.get k = v) :
    (if p then a else b).get k = v := by
  split
  · exact ha
  · exact hb

@[simp] theorem State.get_drawn (s : State) (k : Nat) : s.drawn.get k = s.get k := rfl

/-! ### The event log (R474) -/

theorem State.get_setLog (s : State) (l : List Bytes) (k : Nat) : ({ s with log := l } : State).get k = s.get k := rfl

section Log

variable (s : State) (code sev kind unit ctx detail : Nat)

theorem State.get_logEvent {k : Nat} (h : k ≠ O_LOG_SEQ_NEXT) :
    (s.logEvent code sev kind unit ctx detail).get k = s.get k := by
  unfold State.logEvent
  dsimp only
  rw [State.get_genUp, State.get_put_ne _ _ h, State.get_setLog]

theorem State.get_raiseLog {k j : Nat} (b : Nat) (hj : j ≠ k) (hlog : j ≠ O_LOG_SEQ_NEXT) :
    (s.raiseLog k b code sev kind unit ctx detail).get j = s.get j :=
  (State.get_logEvent _ _ _ _ _ _ _ hlog).trans (s.get_raise_ne b hj)

theorem State.bitSet_raiseLog {k : Nat} (b : Nat) (hlog : k ≠ O_LOG_SEQ_NEXT) :
    bitSet (s.raiseLog k b code sev kind unit ctx detail) k b :=
  (congrArg (· / 2 ^ b % 2) (State.get_logEvent _ _ _ _ _ _ _ hlog)).trans (s.raise_bit k b)

end Log

/-! ### Faults and scrub (R449 to R457) -/

/-- Is a cell's fault passed over: no cell of an active tile, or one retired already (R451)? -/
def State.cellSilent (s : State) (t cell : Nat) : Bool :=
  !(t < 320 && cell < 264 && s.tileActive t) || (s.tile t).retired.contains cell

section Cell

variable {s : State} {tile cell : Nat} (hup : s.coreUp = true) (htile : tile < 320) (hcell : cell < 264)
  (hact : s.tileActive tile = true) (hfresh : cell ∉ (s.tile tile).retired)

include htile hcell hact hfresh

theorem State.cellSilent_active : s.cellSilent tile cell = false := by
  simp [State.cellSilent, htile, hcell, hact, hfresh]

include hup

theorem exec_cellFault_registerDouble :
    exec (.cellFault tile cell .registerDouble) s = .next (ended s (cellFault s tile cell true)) := by
  show finish s (if !s.coreUp then s else if s.cellSilent tile cell then s else cellFault s tile cell true) = _
  simp only [finish_next, hup, State.cellSilent_active htile hcell hact hfresh, Bool.not_true, Bool.false_eq_true, if_false]

theorem exec_cellFault_registerSingle :
    exec (.cellFault tile cell .registerSingle) s = .next (ended s (s.bump O_REGFILE_CORRECTED 1)) := by
  show finish s (if !s.coreUp then s else if s.cellSilent tile cell then s else s.bump O_REGFILE_CORRECTED 1) = _
  simp only [finish_next, hup, State.cellSilent_active htile hcell hact hfresh, Bool.not_true, Bool.false_eq_true, if_false]

end Cell

/-- The object that holds the time of the last scrub pass. -/
def passObj (hbm : Bool) : Nat := if hbm then O_HBM_PASS_LAST_MS else O_LS_PASS_LAST_MS

/-- A pass that finds nothing ends: its time is kept, and a late one is flagged (R456, R477). -/
theorem exec_scrubPass_clean {s : State} {hbm : Bool} (ms : Nat) (hup : s.coreUp = true)
    (hen : s.get O_SCRUB_ENABLE / 2 ^ (if hbm then 1 else 0) % 2 = 1) :
    ∃ t, exec (.scrubPass hbm ms []) s = .next (ended s t) ∧ t.get (passObj hbm) = ms % 2 ^ 32 := by
  have hflags : passObj hbm ≠ O_GD_FLAGS := by cases hbm <;> decide
  have hlog : passObj hbm ≠ O_LOG_SEQ_NEXT := by cases hbm <;> decide
  have kept : (s.put (passObj hbm) (ms % 2 ^ 32)).get (passObj hbm) = ms % 2 ^ 32 := s.get_put_same _ _
  show ∃ t, execScrubPass hbm ms [] s = _ ∧ _
  unfold execScrubPass
  simp only [hup, hen, List.foldl_nil, Bool.not_true, Bool.false_or, Nat.one_ne_zero, beq_iff_eq, if_false, finish_next]
  exact ⟨_, rfl, State.get_ite ((State.get_raiseLog _ _ _ _ _ _ _ 4 hflags hlog).trans kept) kept⟩

/-! ### Return of a tile (R462, R463) -/

@[simp] theorem State.tile_modTile_same (s : State) (u : Nat) (f : Tile → Tile) : (s.modTile u f).tile u = f (s.tile u) :=
  tblGet_put_same _ _ _ _

/-- A tile that joins again is at work, with GD's epoch. -/
theorem State.tile_unitJoins (s : State) {u : Nat} (hu : u < 0x400) :
    (s.unitJoins u).tile u
      = { s.tile u with state := 0, unitEpoch := (s.tile u).epoch, returnedAt := s.nextItem } := by
  unfold State.unitJoins
  rw [if_neg (Nat.not_le.2 hu)]
  exact s.tile_modTile_same u fun v => { v with state := 0, unitEpoch := v.epoch, returnedAt := s.nextItem }

/-- A tile whose self-test has passed joins, and its return is flagged and logged. -/
theorem exec_unitReturned_tile {s : State} {u : Nat} (hup : s.coreUp = true) (hu : u < 320) (hst : (s.tile u).state = 2) :
    ∃ e, exec (.unitReturned u true) s
      = .next (ended s ((s.unitJoins u).raiseLog O_HEALTH_FLAGS 5 0xF5 0 2 (u % 0x400) 0xFFFF e)) := by
  have low : ¬ 0x400 ≤ u := by omega
  have testing : s.unitState u = 2 := by rw [State.unitState, if_neg low, hst]
  show ∃ e, execUnitReturned u true s = _
  simp only [execUnitReturned, finish_next, hup, hu, testing, low, decide_true, decide_false, Bool.true_or, Bool.not_true,
    Bool.or_self, bne_self_eq_false, Bool.false_eq_true, if_false]
  exact ⟨_, rfl⟩

/-! ### Sequencer cores (R459, R460) -/

section Core

variable {s : State} {core : Nat} (hup : s.coreUp = true)

include hup

theorem exec_sqCoreFault (hcore : core < 4) (hst : s.coreStates.getD core 0 = 0) :
    exec (.sqCoreFault core) s = .next (ended s (coreFault s core)) := by
  show execSqCoreFault core s = _
  simp only [execSqCoreFault, finish_next, hup, hcore, hst, decide_true, beq_self_eq_true, Bool.and_self, if_true]

theorem exec_progressWordAlarm (hcore : core < 4) (hst : s.coreStates.getD core 0 = 0) :
    exec (.progressWordAlarm core) s = .next (ended s (coreFault s core)) := by
  show execProgressWordAlarm core s = _
  simp only [execProgressWordAlarm, finish_next, hup, hcore, hst, decide_true, beq_self_eq_true, Bool.and_self, if_true]

theorem exec_sqCoreRestart (hst : s.coreStates.getD core 0 = 1) :
    exec (.sqCoreRestart core) s
      = .next (ended s
          (({ s with coreStates := s.coreStates.set core 0 }.dropFetched core).genUp O_SQ_CORE_STATE)) := by
  show execSqCoreRestart core s = _
  simp only [execSqCoreRestart, finish_next, hup, hst, beq_self_eq_true, Bool.and_self, if_true]

end Core

/-- Descriptors are dropped from rings; the cores stay as they are. -/
theorem State.coreStates_dropFetched (s : State) (core : Nat) : (s.dropFetched core).coreStates = s.coreStates := by
  unfold State.dropFetched
  generalize List.filter _ _ = rings
  induction rings generalizing s with
  | nil => rfl
  | cons c rest ih => exact ih _

/-! ### Pools that become ACTIVE (R284, R288) -/

/-- Owed credits are sent; no object moves (R146). -/
theorem State.get_grantOwed (s : State) (c : Nat) (relay : Bool) (k : Nat) : (s.grantOwed c relay).get k = s.get k := by
  unfold State.grantOwed
  dsimp only
  generalize (s.ctx c).owed.filter _ = kept
  generalize (s.ctx c).owed = owed
  show (owed.foldl _ s).get k = s.get k
  induction owed generalizing s with
  | nil => rfl
  | cons o rest ih =>
    rw [List.foldl_cons, ih]
    split <;> rfl

/-- Of the engine's objects a new level moves FREE_MIN and LEVEL of its pool (R288). -/
theorem State.get_relevel (s : State) {u k : Nat} (hk : k < 0x800000) (hmin : k ≠ unitKey u O_FREE_MIN)
    (hlevel : k ≠ unitKey u O_LEVEL) : (s.relevel u).get k = s.get k := by
  have raised (t : State) (c b : Nat) : (t.craise c O_MEM_FLAGS b).get k = t.get k :=
    t.get_raise_ne b (engKey_ne hk (by decide))
  have least (t : State) (v : Nat) : (t.pput u O_FREE_MIN v).get k = t.get k := t.get_put_ne v hmin
  have level (t : State) (v : Nat) : (t.pput u O_LEVEL v).get k = t.get k := t.get_put_ne v hlevel
  unfold State.relevel
  simp only [apply_ite (State.get · k), State.get_grantOwed, raised, least, level, ite_self]

theorem State.pget_relevel (s : State) {u k : Nat} (hu : u < 256) (hk : k < 0x240100) (hmin : k ≠ O_FREE_MIN)
    (hlevel : k ≠ O_LEVEL) : (s.relevel u).pget u k = s.pget u k := by
  refine s.get_relevel ?_ ?_ ?_
  all_goals
    unfold unitKey
    omega

theorem State.pget_pput_same (s : State) (u k v : Nat) : (s.pput u k v).pget u k = v := s.get_put_same _ v

theorem State.pget_pput_ne (s : State) (u : Nat) {k j : Nat} (v : Nat) (h : j ≠ k) :
    (s.pput u k v).pget u j = s.pget u j :=
  s.get_put_ne v fun e => h (Nat.add_right_cancel e)

/-- A pool with its ring and counts written is ACTIVE, with every buffer free. -/
theorem exec_poolActive {s : State} {u : Nat} (hup : s.coreUp = true) (hst : s.pget u O_POOL_STATE = 1) :
    exec (.poolActive u) s
      = .next (ended s ((((s.pput u O_POOL_STATE 2).pput u O_FREE_NOW (s.pget u O_BUF_COUNT)).pput u O_FREE_MIN
          (s.pget u O_BUF_COUNT)).relevel u)) := by
  show execPoolActive u s = _
  simp only [execPoolActive, activatePool, finish_next, hup, hst, bne_self_eq_false, Bool.false_eq_true, if_false, if_true]

/-! ### Profile, notices and the latch (R439, R446, R447) -/

theorem exec_profileChange {s : State} (hup : s.coreUp = true) (hnew : s.profileNow ≠ s.get O_PROFILE) :
    exec .profileChange s = .next (ended s ((s.put O_PROFILE s.profileNow).logEvent 0 0 0 0 0xFFFF 0)) := by
  have changed : (s.coreUp && s.profileNow != s.get O_PROFILE) = true := by simp [hup, hnew]
  show execProfileChange s = _
  rw [execProfileChange, finish_next, if_pos changed]

theorem exec_noticeIntervalEnd {s : State} (hdue : s.noticeDue = true) (hfree : s.noticeFree = true)
    (hen : s.get O_NOTICE_ENABLE ≠ 0) (hsum : s.engSummary ≠ 0) :
    exec .noticeIntervalEnd s = .next (ended s s.sendNotice) := by
  show execNoticeIntervalEnd s = _
  simp [execNoticeIntervalEnd, finish_next, hdue, hfree, hen, hsum]

theorem exec_latchCapture {s : State} (hup : s.coreUp = true) (hdue : s.latchDue = true) :
    exec .latchCapture s = .next (ended s (s.latchAll.put O_POWER_PEAK_MW 0).drawn) := by
  show execLatchCapture s = _
  simp only [execLatchCapture, finish_next, hup, hdue, Bool.and_self, if_true]

/-- Settles O19: one lemma for each command, and the objects it names read past its end. -/
theorem guardianEventsComplete : Obligations.GuardianEventsComplete := by
  refine ⟨fun _ _ _ => exec_cellFault_registerDouble, fun _ _ _ => exec_cellFault_registerSingle, ?_, ?_, ?_, ?_,
    fun _ _ => exec_sqCoreFault, fun _ _ => exec_progressWordAlarm, ?_, ?_, fun _ => exec_noticeIntervalEnd, ?_, ?_⟩
  · intro s hbm ms hup hen
    obtain ⟨t, hexec, hms⟩ := exec_scrubPass_clean ms hup hen
    refine ⟨_, hexec, ?_⟩
    cases hbm
    all_goals exact (ended_get_engine s t (by decide) (by decide) (by decide)).trans hms
  · intro s u hup hfirst
    exact ⟨_, exec_wipeComplete_page hup hfirst, by simp [State.ownersUp]⟩
  · intro s u hup hfirst
    exact ⟨_, exec_wipeComplete_extent hup hfirst, by simp [State.ownersUp]⟩
  · intro s u hup hu hst
    obtain ⟨e, hexec⟩ := exec_unitReturned_tile hup hu hst
    have joined : (ended s ((s.unitJoins u).raiseLog O_HEALTH_FLAGS 5 0xF5 0 2 (u % 0x400) 0xFFFF e)).tile u
        = { s.tile u with state := 0, unitEpoch := (s.tile u).epoch, returnedAt := s.nextItem } := by
      rw [← s.tile_unitJoins (Nat.lt_trans hu (by decide)), State.tile, ended_tiles]
      rfl
    exact ⟨_, hexec, by rw [joined], by rw [joined],
      bitSet_ended (by decide) (by decide) (by decide) (State.bitSet_raiseLog _ _ _ _ _ _ _ 5 (by decide))⟩
  · intro s core hup hst
    exact ⟨_, exec_sqCoreRestart hup hst, (ended_coreStates _ _).trans (State.coreStates_dropFetched _ core)⟩
  · intro s hup hnew
    refine ⟨_, exec_profileChange hup hnew, ?_⟩
    rw [ended_get_engine _ _ (by decide) (by decide) (by decide), State.get_logEvent _ _ _ _ _ _ _ (by decide)]
    exact s.get_put_same _ _
  · intro s u hup hu hst
    refine ⟨_, exec_poolActive hup hst, ?_, ?_⟩
    all_goals rw [ended_pget _ _ hu (by decide) (by decide), State.pget_relevel _ hu (by decide) (by decide) (by decide),
      State.pget_pput_ne _ u _ (by decide)]
    · rw [State.pget_pput_ne _ u _ (by decide), State.pget_pput_same]
    · exact State.pget_pput_same _ _ _ _
  · intro s hup hdue
    refine ⟨_, exec_latchCapture hup hdue, ended_latchDue _ _, ?_, ?_⟩
    all_goals rw [ended_get_engine _ _ (by decide) (by decide) (by decide), State.get_drawn]
    · rw [State.get_put_ne _ 0 (by decide)]
      exact State.get_put_same _ _ _
    · exact State.get_put_same _ _ _

end Sys2Proof.Machine
end

section
/-! Proofs of the statements about memory: what a write changes, and the canonical form, which the commands of an engine's
home side, of its wipes and of a ring keep (R303, R319, R331, R333, R339, R427). -/

namespace Sys2Proof.Machine

open Sys2Proof

/-! ### A write of memory (R319, R427) -/

/-- Settles O32: the copies of a running checkpoint come before the bytes that are written. -/
theorem writeThenReadMemory : Obligations.WriteThenReadMemory := State.rd_wr

/-- With no checkpoint under way a write leaves every byte outside its own alone. -/
theorem State.keepsMemoryBut_wr (s : State) (a : Nat) (bs : Bytes) (h : s.ckpt = none) :
    KeepsMemoryBut s (s.wr a bs) (addrKey a) bs.length := by
  intro k hk
  rw [s.wr_mem a bs h, memByte_sets_out _ _ _ (by omega)]

/-- Settles O33: the canonical form is kept even while a checkpoint copies chunks before the write. -/
theorem writeKeepsOtherBytes : Obligations.WriteKeepsOtherBytes :=
  fun s a bs hck => ⟨s.keepsMemoryBut_wr a bs hck, s.wf_wr a bs⟩

/-! ### The head of a line queue (R331, R333, R335) -/

/-- A load reads its part in a line: handed on to the queue of the next line, or answered with the last part. -/
def State.serveLoad (s : State) (l : Nat) (q : Queued) : State :=
  let r := q.req
  let got := q.got ++ memGets s.mem (partOf r l).1 (partOf r l).2.2
  if !lastLine r l then
    s.setQueue (l + 1) ((s.queue (l + 1)).map fun (v : Queued) =>
      if v.req.id == r.id && v.req.srcNode == r.srcNode && !v.silent then { v with got := got } else v)
  else if s.isPoisoned r.addr r.size then s.respond r 0xE9 []
  else s.respond r 0 got

/-- A store writes its part in a line, and is counted and answered with the last part. -/
def State.serveStore (s : State) (l : Nat) (q : Queued) : State :=
  let r := q.req
  let s := (s.wr (partOf r l).1 ((r.data.drop (partOf r l).2.1).take (partOf r l).2.2)).hotCount l 1 0 0
  if lastLine r l then (s.bump O_STORES_APPLIED 1).respond r 0 [] else s

/-- An operation taken from a line queue is applied there. -/
def State.serveHead (s : State) (l : Nat) (q : Queued) : State :=
  match q.req.op with
  | .load => s.serveLoad l q
  | .store | .flaggedStore => s.serveStore l q
  | .add | .min | .max | .cas => s.applyAtomic l q
  | .copyChunk | .copyGet => s

/-- An empty queue is left alone. -/
theorem serveLine_nil {s : State} {l : Nat} (hq : s.queue l = []) : serveLine s l = s := by
  simp only [serveLine, hq]

/-- So is one whose head waits for an earlier line of its request (R333). -/
theorem serveLine_waits {s : State} {l : Nat} (hs : s.servable l = false) : serveLine s l = s := by
  unfold serveLine
  split
  · rfl
  · simp only [hs, Bool.not_false, if_true]

/-- A head that may be served leaves its queue, is applied, and the queues are counted. -/
theorem serveLine_head {s : State} {l : Nat} {q : Queued} {rest : List Queued} (hq : s.queue l = q :: rest)
    (hs : s.servable l = true) : serveLine s l = ((s.setQueue l rest).serveHead l q).countQueues := by
  unfold serveLine
  simp only [hq, hs, Bool.not_true, Bool.false_eq_true, if_false]
  rfl

/-! ### Updates that keep memory canonical -/

/-- If memory is canonical in `s`, it is in `t`. -/
def KeepsCanonical (s t : State) : Prop := Memory.wf s.mem = true → Memory.wf t.mem = true

@[simp] theorem State.watchLine_mem (s : State) (l : Nat) : (s.watchLine l).mem = s.mem := by
  unfold State.watchLine
  dsimp only
  split
  · rfl
  · split <;> rfl

@[simp] theorem State.joinQueues_mem (s : State) (r : RemoteReq) (silent : Bool) : (s.joinQueues r silent).mem = s.mem := by
  show (List.foldl _ s _).mem = s.mem
  generalize linesOf r.addr r.size = lines
  induction lines generalizing s with
  | nil => rfl
  | cons l rest ih => exact (ih _).trans (State.watchLine_mem _ l)

namespace KeepsCanonical

variable {s t u : State}

/-- What leaves memory alone. -/
theorem of_mem (h : t.mem = s.mem) : KeepsCanonical s t := fun hs => by rwa [h]

theorem refl (s : State) : KeepsCanonical s s := id

theorem trans (h : KeepsCanonical s t) (k : KeepsCanonical t u) : KeepsCanonical s u := k ∘ h

theorem ite {p : Prop} [Decidable p] (h : KeepsCanonical s t) (k : KeepsCanonical s u) :
    KeepsCanonical s (if p then t else u) := by
  split
  · exact h
  · exact k

theorem foldl {α : Type} {f : State → α → State} (h : ∀ s a, KeepsCanonical s (f s a)) (l : List α) (s : State) :
    KeepsCanonical s (l.foldl f s) := by
  induction l generalizing s with
  | nil => exact refl s
  | cons a l ih => exact (h s a).trans (ih _)

/-- The end of a command keeps what the command keeps. -/
theorem of_finish (h : KeepsCanonical s u) (ht : finish s u = .next t) : KeepsCanonical s t := by
  obtain rfl : ended s u = t := Host.Outcome.next.inj ht
  exact h.trans (of_mem (ended_mem s u))

theorem wr (s : State) (a : Nat) (bs : Bytes) : KeepsCanonical s (s.wr a bs) := s.wf_wr a bs

theorem wipeSpan (s : State) (q n : Nat) : KeepsCanonical s (s.wipeSpan q n) := s.wf_wipeSpan q n

theorem put (s : State) (k v : Nat) : KeepsCanonical s (s.put k v) := of_mem rfl

theorem raise (s : State) (k b : Nat) : KeepsCanonical s (s.raise k b) := of_mem rfl

theorem modRing (s : State) (c : Nat) (f : Ring → Ring) : KeepsCanonical s (s.modRing c f) := of_mem rfl

theorem snap (s : State) (c : Nat) : KeepsCanonical s (s.snap c) := of_mem rfl

theorem mirrorAll (s : State) (k : MirrorKind) (c : Nat) (v : List (Nat × Nat)) (n : List Nat) (i : List (Nat × Bytes))
    (l : Option Ledger) : KeepsCanonical s (s.mirrorAll k c v n i l) := by
  obtain ⟨_, _, _, _, h⟩ := s.mirrorAll_shape k c v n i l
  rw [h]
  exact of_mem rfl

/-! ### The operations of a ring (R386 to R400) -/

theorem syncRing (s : State) (c : Nat) : KeepsCanonical s (s.syncRing c) :=
  (put s _ _).trans (ite (refl _) (wr _ _ _))

theorem setIndices (s : State) (c cons comp : Nat) : KeepsCanonical s (s.setIndices c cons comp) :=
  (((put s _ _).trans (put _ _ _)).trans (syncRing _ c)).trans (mirrorAll _ _ _ _ _ _ _)

theorem pauseRing (s : State) (c : Nat) (onDesc : Bool) : KeepsCanonical s (s.pauseRing c onDesc) :=
  (modRing s c _).trans (syncRing _ c)

theorem hold (s : State) (c : Nat) (h : Hold) : KeepsCanonical s (s.hold c h) := (modRing s c _).trans (syncRing _ c)

theorem stepConsumer (s : State) (c i : Nat) : KeepsCanonical s (s.stepConsumer c i) :=
  (modRing s c _).trans (setIndices _ c _ _)

theorem advance (s : State) (c : Nat) : KeepsCanonical s (s.advance c) :=
  ite (syncRing s c) ((modRing s c _).trans (setIndices _ c _ _))

theorem writeStatus (s : State) (c i code : Nat) (done : Bool) : KeepsCanonical s (s.writeStatus c i code done) :=
  (wr s _ _).trans (ite (wr _ _ _) (refl _))

theorem raiseIf (s : State) (p : Prop) [Decidable p] (c k b : Nat) : KeepsCanonical s (if p then s.craise c k b else s) :=
  ite (raise s _ _) (refl s)

/-- The end of a descriptor (R393, R395). -/
theorem endDesc (s : State) (c i code : Nat) : KeepsCanonical s (s.endDesc c i code) :=
  ((((writeStatus s c i code true).trans (raiseIf _ _ c _ _)).trans (modRing _ c _)).trans (advance _ c)).trans
    (ite (pauseRing _ c false) (refl _))

/-- The record of a refusal (R388). -/
theorem recordRefusal (s : State) (c i op code : Nat) : KeepsCanonical s (s.recordRefusal c i op code) := of_mem rfl

/-- A refusal (R400). -/
theorem refuseCmd (s : State) (c i : Nat) (d : Bytes) (code : Nat) : KeepsCanonical s (s.refuseCmd c i d code) :=
  have recorded := (writeStatus s c i code false).trans (recordRefusal _ c i (fld d 0 1) code)
  have flagged := ((recorded.trans (raiseIf _ _ c _ _)).trans (raiseIf _ _ c _ _)).trans (raiseIf _ _ c _ _)
  flagged.trans (ite (((wr _ _ _).trans ((modRing _ c _).trans (stepConsumer _ c i))).trans (advance _ c))
    ((modRing _ c _).trans (pauseRing _ c true)))

theorem logEvent (s : State) (code sev kind unit ctx detail : Nat) :
    KeepsCanonical s (s.logEvent code sev kind unit ctx detail) := of_mem rfl

/-- A move of a context to another state (R408). -/
theorem toState (s : State) (c st code : Nat) : KeepsCanonical s (s.toState c st code) :=
  (((put s _ _).trans (ite (logEvent _ _ _ _ _ _ _) (refl _))).trans (mirrorAll _ _ _ _ _ _ _)).trans (syncRing _ c)

theorem writeResult (s : State) (c i v : Nat) : KeepsCanonical s (s.writeResult c i v) := wr s _ _

/-- What an accepted command does first (R395, R408). -/
theorem accept (s : State) (c i : Nat) (d : Bytes) : KeepsCanonical s (s.accept c i d) := by
  have counted (u : State) (k : Nat) : KeepsCanonical u ((u.cbump c O_COMMANDS_ISSUED 1).bump k 1) :=
    (put u _ _).trans (put _ _ _)
  unfold State.accept
  extract_lets running stop active passed marked
  have run : KeepsCanonical s running := ite (toState s c 3 0) (refl s)
  exact (((run.trans (modRing _ c _)).trans (stepConsumer _ c i)).trans (writeResult _ c i 0)).trans (counted _ _)

theorem issueDesc (s : State) (c i : Nat) (d : Bytes) (checks : List (Option Nat)) {run : State → State}
    (h : ∀ t, KeepsCanonical t (run t)) : KeepsCanonical s (s.issueDesc c i d checks run) := by
  rcases s.issueDesc_cases c i d checks run with ⟨code, he⟩ | ⟨_, he⟩
  · rw [he]
    exact refuseCmd s c i d code
  · rw [he]
    exact (accept s c i d).trans (h _)

theorem takeFront (s : State) (c : Nat) (mine : Bytes → Bool) {go : Nat → Bytes → State}
    (h : ∀ i d, KeepsCanonical s (go i d)) : KeepsCanonical s (s.takeFront c mine go) := by
  rcases s.takeFront_cases c mine go with he | ⟨i, d, _, he | he⟩
  · rw [he]
    exact refl s
  · rw [he]
    exact refuseCmd s c i d 0x13
  · rw [he]
    exact h i d

theorem issueDigestSnap (s : State) (c i : Nat) (d : Bytes) : KeepsCanonical s (issueDigestSnap s c i d) := by
  unfold Machine.issueDigestSnap
  exact issueDesc s c i d _ fun u => of_mem rfl

/-- A loop reads its body again, or ends (R406). -/
theorem endIteration (s : State) (c i : Nat) (l : LoopFrame) : KeepsCanonical s (endIteration s c i l) :=
  have refetch (u : State) : KeepsCanonical u (u.refetch c) := modRing u c _
  ((put s _ _).trans (endDesc _ c i 0)).trans
    (ite (((modRing _ c _).trans (setIndices _ c _ _)).trans (refetch _)) ((modRing _ c _).trans (endDesc _ c _ 0)))

/-! ### The home side (R331 to R341) -/

theorem joinQueues (s : State) (r : RemoteReq) (silent : Bool) : KeepsCanonical s (s.joinQueues r silent) :=
  of_mem (s.joinQueues_mem r silent)

theorem respond (s : State) (r : RemoteReq) (status : Nat) (data : Bytes) : KeepsCanonical s (s.respond r status data) :=
  of_mem rfl

theorem invalidAtHome (s : State) (r : RemoteReq) : KeepsCanonical s (s.invalidAtHome r) := of_mem rfl

theorem arriveHome (s : State) (r : RemoteReq) : KeepsCanonical s (arriveHome s r) :=
  ite (joinQueues s r false) (invalidAtHome s r)

theorem homeRequest (s : State) (ok : Bool) (r : RemoteReq) : KeepsCanonical s (homeRequest s ok r) :=
  ite (arriveHome s r) (refl s)

/-- An atomic writes its result (R331). -/
theorem applyAtomic (s : State) (l : Nat) (q : Queued) : KeepsCanonical s (s.applyAtomic l q) :=
  have answered (u : State) (status : Nat) : KeepsCanonical u
      ((q.req :: q.merged).foldl (fun s m => s.respond m status []) u) := foldl (fun s m => respond s m status []) _ u
  have counted : KeepsCanonical s ((s.bump O_ATOMICS_APPLIED 1).hotCount l 0 1 0) := of_mem rfl
  counted.trans (ite (ite (refl _) (answered _ 0xE9))
    ((wr _ _ _).trans (ite (refl _) (ite (respond _ _ _ _) (answered _ 0)))))

/-- The part of a store in a line is written (R333). -/
theorem serveStore (s : State) (l : Nat) (q : Queued) : KeepsCanonical s (s.serveStore l q) :=
  (wr s _ _).trans (ite (of_mem rfl) (of_mem rfl))

theorem serveHead (s : State) (l : Nat) (q : Queued) : KeepsCanonical s (s.serveHead l q) := by
  unfold State.serveHead
  cases q.req.op with
  | load => exact ite (of_mem rfl) (ite (of_mem rfl) (of_mem rfl))
  | store => exact serveStore s l q
  | flaggedStore => exact serveStore s l q
  | add => exact applyAtomic s l q
  | min => exact applyAtomic s l q
  | max => exact applyAtomic s l q
  | cas => exact applyAtomic s l q
  | copyChunk => exact refl s
  | copyGet => exact refl s

/-- The head of a line queue applied (R335). -/
theorem serveLine (s : State) (l : Nat) : KeepsCanonical s (serveLine s l) := by
  cases hq : s.queue l with
  | nil => exact of_mem (congrArg State.mem (serveLine_nil hq))
  | cons q rest =>
    cases hs : s.servable l with
    | false => exact of_mem (congrArg State.mem (serveLine_waits hs))
    | true =>
      have popped : KeepsCanonical s (s.setQueue l rest) := of_mem rfl
      rw [serveLine_head hq hs]
      exact (popped.trans (serveHead _ l q)).trans (of_mem rfl)

theorem drainLines (s : State) (lo hi n : Nat) : KeepsCanonical s (s.drainLines lo hi n) := by
  induction n generalizing s with
  | zero => exact refl s
  | succ n ih =>
    unfold State.drainLines
    refine ite (refl s) ?_
    split
    · exact ite ((serveLine s _).trans (ih _)) (refl s)
    · exact refl s

theorem drainSpan (s : State) (a n : Nat) : KeepsCanonical s (s.drainSpan a n) := drainLines s _ _ _

theorem emits (s : State) (l : List Emit) : KeepsCanonical s (s.emits l) :=
  foldl (f := State.emit) (fun _ _ => of_mem rfl) l s

theorem serveGet (s : State) (r : RemoteReq) : KeepsCanonical s (serveGet s r) :=
  ite (invalidAtHome s r) ((drainSpan s r.addr r.size).trans (ite (respond _ _ _ _) (emits _ _)))

theorem arriveAdd (s : State) (r : RemoteReq) (recent : Bool) : KeepsCanonical s (arriveAdd s r recent) := by
  refine ite (invalidAtHome s r) ?_
  dsimp only
  split
  · exact joinQueues s r false
  · exact ite (joinQueues s r false) (ite ((put s _ _).trans (joinQueues _ r false)) (of_mem rfl))

/-- A chunk writes its bytes (R339). -/
theorem applyChunk (s : State) (r : RemoteReq) : KeepsCanonical s (s.applyChunk r) :=
  ((drainSpan s r.addr r.size).trans (wr _ _ _)).trans (ite (refl _) (joinQueues _ _ true))

theorem fabStep (s : State) (c idx n code : Nat) : KeepsCanonical s (s.fabStep c idx n code) := by
  unfold State.fabStep
  split
  · exact refl s
  · exact ite (of_mem rfl) (trans (t := s.modCtx c _) (of_mem rfl) (endDesc _ c idx code))

theorem arriveChunk (s : State) (r : RemoteReq) : KeepsCanonical s (arriveChunk s r) := by
  unfold Machine.arriveChunk
  split
  · extract_lets c counted
    have applied : KeepsCanonical s counted := (applyChunk s r).trans (put _ _ _)
    split
    · exact applied
    · extract_lets done kept
      have dropped : KeepsCanonical counted kept := ite (of_mem rfl) (refl _)
      exact (applied.trans dropped).trans (fabStep _ _ _ 1 0)
  · exact ite (ite (of_mem rfl) (refl s))
      (ite (invalidAtHome s r) ((applyChunk s r).trans (respond _ _ _ _)))

/-! ### Wipes (R303, R458) -/

theorem retireUnit (s : State) (hbm : Bool) (u : Nat) : KeepsCanonical s (s.retireUnit hbm u) :=
  ite (ite (refl s) (of_mem rfl)) (ite (refl s) (of_mem rfl))

/-- A unit of memory that has been wiped, and is retired when the wipe failed. -/
theorem wiped (s : State) (hbm ok : Bool) (u q n : Nat) : KeepsCanonical s
    (if ok then s.wipeSpan q n else (s.wipeSpan q n).retireUnit hbm u).ownersUp :=
  trans (ite (wipeSpan s q n) ((wipeSpan s q n).trans (retireUnit _ hbm u))) (of_mem rfl)

end KeepsCanonical

/-! ### The commands

One lemma for each kind of command: from its state to the next memory stays canonical. -/

section Commands

variable {s t : State}

theorem exec_homeRequest_keepsCanonical {i : Instr} {r : RemoteReq}
    (hi : i = .load r ∨ i = .store r ∨ i = .min r ∨ i = .max r ∨ i = .cas r ∨ i = .copyChunk r)
    (h : exec i s = .next t) : KeepsCanonical s t := by
  rcases hi with rfl | rfl | rfl | rfl | rfl | rfl
  · exact .of_finish (.ite (.serveGet s r) (.homeRequest s _ r)) h
  · exact .of_finish (.homeRequest s _ r) h
  · exact .of_finish (.homeRequest s _ r) h
  · exact .of_finish (.homeRequest s _ r) h
  · exact .of_finish (.homeRequest s _ r) h
  · exact .of_finish (.ite (.arriveChunk s r) (.refl s)) h

theorem exec_add_keepsCanonical {r : RemoteReq} {recent : Bool} (h : exec (.add r recent) s = .next t) :
    KeepsCanonical s t := .of_finish (.ite (.arriveAdd s r recent) (.refl s)) h

theorem exec_lineQueueService_keepsCanonical {l : Nat} (h : exec (.lineQueueService l) s = .next t) :
    KeepsCanonical s t := .of_finish (.ite (.serveLine s l) (.refl s)) h

theorem exec_wipeComplete_keepsCanonical {extent ok : Bool} {u : Nat} (h : exec (.wipeComplete extent u ok) s = .next t) :
    KeepsCanonical s t := by
  change execWipeComplete extent u ok s = _ at h
  unfold execWipeComplete at h
  refine .of_finish (.ite (.refl s) (.ite (.ite ?_ (.refl s)) (.ite ?_ (.refl s)))) h
  · exact .wiped { s with wipingExtents := s.wipingExtents.filter (· != u) } true ok u _ _
  · exact .wiped { s with wipingPages := s.wipingPages.filter (· != u) } false ok u _ _

variable {c : Nat}

/-- A command that takes the front of its ring. -/
theorem takeFront_keepsCanonical {mine : Bytes → Bool} {go : Nat → Bytes → State} (hgo : ∀ i d, KeepsCanonical s (go i d))
    (h : finish s (s.takeFront c mine go) = .next t) : KeepsCanonical s t := .of_finish (.takeFront s c mine hgo) h

theorem exec_nop_keepsCanonical (h : exec (.nop c) s = .next t) : KeepsCanonical s t :=
  takeFront_keepsCanonical (go := issueNop s c) (fun i d => .issueDesc s c i d _ fun u => .endDesc u c i 0) h

theorem exec_fence_keepsCanonical (h : exec (.fence c) s = .next t) : KeepsCanonical s t :=
  takeFront_keepsCanonical (go := issueFence s c) (fun i d => .issueDesc s c i d _ fun u => .hold u c _) h

theorem exec_waitBeatAbsolute_keepsCanonical (h : exec (.waitBeatAbsolute c) s = .next t) : KeepsCanonical s t :=
  takeFront_keepsCanonical (go := issueWaitBeat s c) (fun i d => .issueDesc s c i d _ fun u => .hold u c _) h

theorem exec_waitBeatRelative_keepsCanonical (h : exec (.waitBeatRelative c) s = .next t) : KeepsCanonical s t :=
  takeFront_keepsCanonical (go := issueWaitBeat s c) (fun i d => .issueDesc s c i d _ fun u => .hold u c _) h

theorem exec_digestSnap_keepsCanonical (h : exec (.digestSnap c) s = .next t) : KeepsCanonical s t :=
  takeFront_keepsCanonical (go := issueDigestSnap s c) (.issueDigestSnap s c) h

theorem exec_endLoop_keepsCanonical (h : exec (.endLoop c) s = .next t) : KeepsCanonical s t := by
  refine takeFront_keepsCanonical (go := issueEndLoop s c) (fun i d => .issueDesc s c i d _ fun u => ?_) h
  cases (s.ctx c).ring.loops.head? with
  | none => exact .refl u
  | some l => exact .endIteration u c i l

theorem exec_waitBeatRelease_keepsCanonical (h : exec (.waitBeatRelease c) s = .next t) : KeepsCanonical s t := by
  change execWaitBeatRelease c s = _ at h
  unfold execWaitBeatRelease at h
  refine .of_finish ?_ h
  split
  · exact .ite (.endDesc s c _ 0) (.refl s)
  · exact .refl s

theorem exec_digestSnapCapture_keepsCanonical (h : exec (.digestSnapCapture c) s = .next t) : KeepsCanonical s t := by
  change execDigestSnapCapture c s = _ at h
  unfold execDigestSnapCapture at h
  refine .of_finish ?_ h
  split
  · exact .ite (((KeepsCanonical.modRing s c _).trans (.snap _ c)).trans (.endDesc _ c _ 0)) (.refl s)
  · exact .refl s

theorem exec_fenceRelease_keepsCanonical (h : exec (.fenceRelease c) s = .next t) : KeepsCanonical s t := by
  change execFenceRelease c s = _ at h
  unfold execFenceRelease at h
  refine .of_finish ?_ h
  split
  · exact .refl s
  · exact .ite (.refl s) ((KeepsCanonical.modRing s c _).trans (.endDesc _ c _ _))

end Commands

/-- Settles O34: what these commands do to memory, they do through writes and wipes. -/
theorem homeCommandsKeepMemoryCanonical : Obligations.HomeCommandsKeepMemoryCanonical := by
  intro s t i hi hs h
  suffices hk : KeepsCanonical s t from hk hs
  rcases hi with ⟨r, hi⟩ | ⟨r, recent, rfl⟩ | ⟨l, rfl⟩ | ⟨e, u, ok, rfl⟩ |
    ⟨c, rfl | rfl | rfl | rfl | rfl | rfl | rfl | rfl | rfl⟩
  · exact exec_homeRequest_keepsCanonical hi h
  · exact exec_add_keepsCanonical h
  · exact exec_lineQueueService_keepsCanonical h
  · exact exec_wipeComplete_keepsCanonical h
  · exact exec_nop_keepsCanonical h
  · exact exec_fence_keepsCanonical h
  · exact exec_waitBeatAbsolute_keepsCanonical h
  · exact exec_waitBeatRelative_keepsCanonical h
  · exact exec_waitBeatRelease_keepsCanonical h
  · exact exec_digestSnap_keepsCanonical h
  · exact exec_digestSnapCapture_keepsCanonical h
  · exact exec_endLoop_keepsCanonical h
  · exact exec_fenceRelease_keepsCanonical h

end Sys2Proof.Machine
end

section
/-! Proofs of the statements about remote memory: what becomes of a late response, what the head of a line queue does to
memory, and where each command of a home and of a source takes effect (R330 to R344, R512, R514). -/

namespace Sys2Proof.Machine

open Sys2Proof

/-! ### What the end of a command sends

Beside what the command itself has sent, mirror records of contexts that become ARMED, and event notices (R408, R446,
R467). -/

/-- Is a message a mirror record or an event notice? -/
def Emit.isReport : Emit → Bool
  | .mirror _ => true
  | .notice _ _ _ _ => true
  | _ => false

/-- From `s` to `t` only mirror records and event notices have been sent. -/
def OnlyReports (s t : State) : Prop := ∃ l, t.out = l ++ s.out ∧ ∀ e ∈ l, e.isReport = true

namespace OnlyReports

variable {s t u : State}

theorem of_out (h : t.out = s.out) : OnlyReports s t := ⟨[], h, by simp⟩

theorem trans (h : OnlyReports s t) (k : OnlyReports t u) : OnlyReports s u := by
  obtain ⟨l, hl, hrep⟩ := h
  obtain ⟨m, hm, krep⟩ := k
  refine ⟨m ++ l, by rw [hm, hl, List.append_assoc], fun e he => ?_⟩
  exact (List.mem_append.1 he).elim (krep e) (hrep e)

theorem ite {p : Prop} [Decidable p] (h : OnlyReports s t) (k : OnlyReports s u) :
    OnlyReports s (if p then t else u) := by
  split
  · exact h
  · exact k

theorem emit (s : State) {e : Emit} (h : e.isReport = true) : OnlyReports s (s.emit e) := ⟨[e], rfl, by simpa using h⟩

theorem mirrorAll (s : State) (k : MirrorKind) (c : Nat) (v : List (Nat × Nat)) (n : List Nat) (i : List (Nat × Bytes))
    (l : Option Ledger) : OnlyReports s (s.mirrorAll k c v n i l) := by
  unfold State.mirrorAll
  split
  · exact ⟨[_], rfl, by simp [Emit.isReport]⟩
  · exact of_out rfl

theorem settleOne (s : State) (c : Nat) : OnlyReports s (s.settleOne c) :=
  ite (trans (t := s.cput c O_CTX_STATE 2) (of_out rfl) (mirrorAll _ _ _ _ _ _ _)) (of_out rfl)

theorem settle (s : State) : OnlyReports s s.settle := by
  unfold State.settle
  generalize s.ctxsIn 4 = draining
  induction draining generalizing s with
  | nil => exact of_out rfl
  | cons c rest ih => exact (settleOne s c).trans (ih _)

theorem sendNotice (s : State) : OnlyReports s s.sendNotice :=
  have sent (u : State) (p : Prop) [Decidable p] (b : Bool) (n : Nat) (m : Bytes) (k : Nat) :
      OnlyReports u (if p then u.emit (.notice b n m k) else u) := ite (emit u rfl) (of_out rfl)
  ((sent s _ _ _ _ _).trans (sent _ _ _ _ _ _)).trans (of_out rfl)

theorem mapAfter (s t : State) : OnlyReports t (State.mapAfter s t) := ite (of_out rfl) (of_out rfl)

theorem noticeAfter (s t : State) : OnlyReports t (State.noticeAfter s t) :=
  ite (ite (sendNotice t) (of_out rfl)) (of_out rfl)

theorem ended (s t : State) : OnlyReports t (ended s t) :=
  (((settle t).trans (mapAfter s _)).trans (noticeAfter s _)).trans (of_out rfl)

/-- What had been sent stays sent. -/
theorem mem_out (h : OnlyReports s t) {e : Emit} (he : e ∈ s.out) : e ∈ t.out := by
  obtain ⟨l, hl, -⟩ := h
  simp [hl, he]

/-- A message of another kind had been sent before. -/
theorem mem_out_of_not_report (h : OnlyReports s t) {e : Emit} (he : e ∈ t.out) (hrep : e.isReport = false) :
    e ∈ s.out := by
  obtain ⟨l, hl, hall⟩ := h
  rw [hl, List.mem_append] at he
  exact he.resolve_left fun hm => by simp [hall e hm] at hrep

end OnlyReports

/-! ### A late response (R344) -/

/-- A response to an operation that has ended, in a context that is not FREE, is counted and flagged, and no more. -/
theorem takeResponse_late {s : State} {id c : Nat} (status : Nat) (data : Bytes) (hst : s.cstate c ≠ 0)
    (hgone : ∀ q ∈ s.remotes, q.req.id ≠ id) (hlapsed : (s.lapsed.find? fun p => p.1 == id) = some (id, c)) :
    takeResponse s id status data = (s.cbump c O_LATE_RESPONSES 1).craise c O_FABRIC_CTX_FLAGS 3 := by
  have none_waits : (s.remotes.find? fun q => q.req.id == id && !q.held) = none :=
    List.find?_eq_none.2 fun q hq => by simp [hgone q hq]
  simp [takeResponse, none_waits, hlapsed, hst]

theorem exec_remoteResponse {s : State} (id status : Nat) (data : Bytes) (hup : s.coreUp = true) :
    exec (.remoteResponse id status data) s = .next (ended s (takeResponse s id status data)) := by
  show execRemoteResponse id status data s = _
  rw [execRemoteResponse, finish_next, if_pos hup]

/-- Settles O49: the response is an event counted in one object of the context and raised in another, and sends nothing. -/
theorem lateResponseIsDiscarded : Obligations.LateResponseIsDiscarded := by
  intro s id status c data hup _ hst hgone hlapsed
  have hexec := exec_remoteResponse id status data hup
  rw [takeResponse_late status data hst hgone hlapsed] at hexec
  refine ⟨_, hexec, cget_counted s c 3 (by decide) (by decide) (by decide), bitSet_counted s c 3 (by decide) (by decide),
    raiseCount_counted s c 3, keepsWork_counted s c 3, keepsObjects_counted s c 3, fun m ok d hd => ?_⟩
  exact (OnlyReports.ended s ((s.cbump c O_LATE_RESPONSES 1).craise c O_FABRIC_CTX_FLAGS 3)).mem_out_of_not_report hd rfl

/-! ### A request within one line (R319, R333, R335) -/

/-- The bytes of a request, at least one, lie in line `l`. -/
structure InLine (r : RemoteReq) (l : Nat) : Prop where
  low : 64 * l ≤ addrKey r.addr
  high : addrKey r.addr + r.size ≤ 64 * l + 64
  some : 0 < r.size

namespace InLine

variable {r : RemoteReq} {l : Nat} (h : InLine r l)

include h

theorem linesOf_eq : linesOf r.addr r.size = [l] := by
  obtain ⟨hlow, hhigh, hsome⟩ := h
  have first : addrKey r.addr / 64 = l := by omega
  have last : (addrKey r.addr + max 1 r.size - 1) / 64 + 1 - l = 1 := by omega
  unfold linesOf
  dsimp only
  rw [first, last]
  simp

theorem lastLine_eq : lastLine r l = true := by simp [lastLine, h.linesOf_eq]

/-- The part of the request in the line is the whole of it. -/
theorem partOf_eq : partOf r l = (addrKey r.addr, 0, r.size) := by
  obtain ⟨hlow, hhigh, -⟩ := h
  simp only [partOf, Nat.max_eq_left hlow, Nat.min_eq_left hhigh, Nat.sub_self, Nat.add_sub_cancel_left]

end InLine

/-- A request that lies in one line waits for no earlier line. -/
theorem State.servable_inLine {s : State} {l : Nat} {q : Queued} {rest : List Queued} (hq : s.queue l = q :: rest)
    (h : InLine q.req l) : s.servable l = true := by
  simp [State.servable, hq, h.linesOf_eq]

/-! ### Stores and atomics at the head of a queue (R331, R333) -/

theorem State.wr_addrKey (s : State) (a : Nat) (bs : Bytes) : s.wr (addrKey a) bs = s.wr a bs := by
  have same : addrKey (addrKey a) = addrKey a := Nat.mod_mod _ _
  simp only [State.wr, same]

/-- With no checkpoint under way a write of memory moves no object (R500). -/
theorem State.get_wr {s : State} (a : Nat) (bs : Bytes) (k : Nat) (h : s.ckpt = none) : (s.wr a bs).get k = s.get k := by
  simp only [State.wr, State.cow, h]
  rfl

theorem State.get_hotCount (s : State) (l st at_ mg k : Nat) : (s.hotCount l st at_ mg).get k = s.get k := rfl

theorem State.get_countQueues (s : State) {k : Nat} (hdepth : k ≠ O_HOT_QUEUE_DEPTH) (hpeak : k ≠ O_HOT_QUEUE_PEAK) :
    s.countQueues.get k = s.get k :=
  (State.get_put_ne _ _ hpeak).trans (State.get_put_ne _ _ hdepth)

/-- A store in one line writes all its bytes, and is counted and answered. -/
theorem State.serveHead_store {s : State} {l : Nat} {q : Queued} (h : InLine q.req l) (hop : q.req.op = .store)
    (hlen : q.req.data.length = q.req.size) :
    s.serveHead l q
      = (((s.wr q.req.addr q.req.data).hotCount l 1 0 0).bump O_STORES_APPLIED 1).respond q.req 0 [] := by
  have whole : (q.req.data.drop 0).take q.req.size = q.req.data := by rw [← hlen]; simp
  simp only [State.serveHead, hop, State.serveStore, h.partOf_eq, h.lastLine_eq, whole, s.wr_addrKey, if_true]

/-- An atomic alone in its record writes its result over the value it has read, and is counted and answered. -/
theorem State.serveHead_atomic {s : State} {l : Nat} {q : Queued}
    (hop : q.req.op = .add ∨ q.req.op = .min ∨ q.req.op = .max ∨ q.req.op = .cas)
    (hclean : s.isPoisoned q.req.addr q.req.size = false) (halone : q.merged = []) (hloud : q.silent = false) :
    ∃ d, s.serveHead l q
      = (((s.bump O_ATOMICS_APPLIED 1).hotCount l 0 1 0).wr q.req.addr (leBytes q.req.size
          (atomicResult q.req (leNat (s.rd q.req.addr q.req.size)) (leNat q.req.data)))).respond q.req 0 d := by
  have applied : s.serveHead l q = s.applyAtomic l q := by
    unfold State.serveHead
    rcases hop with h | h | h | h <;> rw [h]
  have clean : ((s.bump O_ATOMICS_APPLIED 1).hotCount l 0 1 0).isPoisoned q.req.addr q.req.size = false := hclean
  rw [applied]
  unfold State.applyAtomic
  simp only [clean, halone, hloud, List.map_cons, List.map_nil, List.foldl_cons, List.foldl_nil, Bool.false_eq_true,
    if_false]
  split
  · exact ⟨_, rfl⟩
  · exact ⟨_, rfl⟩

/-- Once the core is up the head of a line's queue is served, if it may be. -/
theorem exec_lineQueueService {s : State} (l : Nat) (hup : s.coreUp = true) :
    exec (.lineQueueService l) s = .next (ended s (serveLine s l)) := by
  show execLineQueueService l s = _
  rw [execLineQueueService, finish_next, if_pos hup]

/-- When the service of a line writes `bs` and nothing else, they are read there next, and every other byte is as it was. -/
theorem serveLine_writes {s : State} {l a n : Nat} {bs : Bytes} (hn : bs.length = n)
    (h : (serveLine s l).mem = memSets s.mem (addrKey a) bs) :
    (ended s (serveLine s l)).rd a n = bs ∧ KeepsMemoryBut s (ended s (serveLine s l)) (addrKey a) n := by
  subst hn
  have hmem : (ended s (serveLine s l)).mem = memSets s.mem (addrKey a) bs := (ended_mem s _).trans h
  constructor
  · rw [State.rd, hmem, memGets_sets]
  · intro k hk
    rw [hmem, memByte_sets_out _ _ _ (by omega)]

section Serve

variable {s : State} {l : Nat} {q : Queued} {rest : List Queued} (hup : s.coreUp = true) (hck : s.ckpt = none)
  (hq : s.queue l = q :: rest) (hin : InLine q.req l)

include hup hck hq hin

/-- A store at the head of its line's queue (R333). -/
theorem exec_lineQueueService_store (hop : q.req.op = .store) (hlen : q.req.data.length = q.req.size) :
    ∃ t, exec (.lineQueueService l) s = .next t ∧ t.rd q.req.addr q.req.size = q.req.data ∧
      KeepsMemoryBut s t (addrKey q.req.addr) q.req.size ∧
      t.get O_STORES_APPLIED = (s.get O_STORES_APPLIED + 1) % 2 ^ 64 ∧
      .response q.req.srcNode q.req.id 0 [] ∈ t.out := by
  have served := serveLine_head hq (State.servable_inLine hq hin)
  rw [State.serveHead_store hin hop hlen] at served
  have hmem : (serveLine s l).mem = memSets s.mem (addrKey q.req.addr) q.req.data := by
    rw [served]
    exact State.wr_mem (s.setQueue l rest) _ _ hck
  obtain ⟨hread, hkeeps⟩ := serveLine_writes hlen hmem
  refine ⟨_, exec_lineQueueService l hup, hread, hkeeps, ?_, (OnlyReports.ended s _).mem_out ?_⟩
  · rw [ended_get_engine _ _ (by decide) (by decide) (by decide), served,
      State.get_countQueues _ (by decide) (by decide)]
    refine (State.get_bump_same _ O_STORES_APPLIED 1).trans ?_
    rw [State.get_hotCount, State.get_wr (s := s.setQueue l rest) _ _ _ hck]
    rfl
  · rw [served]
    exact List.mem_cons_self

/-- An atomic at the head of its line's queue (R331). -/
theorem exec_lineQueueService_atomic
    (hop : q.req.op = .add ∨ q.req.op = .min ∨ q.req.op = .max ∨ q.req.op = .cas)
    (hclean : s.isPoisoned q.req.addr q.req.size = false) (halone : q.merged = []) (hloud : q.silent = false) :
    ∃ t, exec (.lineQueueService l) s = .next t ∧
      t.rd q.req.addr q.req.size
        = leBytes q.req.size (atomicResult q.req (leNat (s.rd q.req.addr q.req.size)) (leNat q.req.data)) ∧
      KeepsMemoryBut s t (addrKey q.req.addr) q.req.size ∧
      t.get O_ATOMICS_APPLIED = (s.get O_ATOMICS_APPLIED + 1) % 2 ^ 64 := by
  have served := serveLine_head hq (State.servable_inLine hq hin)
  obtain ⟨d, hd⟩ := State.serveHead_atomic (s := s.setQueue l rest) (l := l) hop hclean halone hloud
  rw [hd] at served
  have hmem : (serveLine s l).mem = memSets s.mem (addrKey q.req.addr)
      (leBytes q.req.size (atomicResult q.req (leNat (s.rd q.req.addr q.req.size)) (leNat q.req.data))) := by
    rw [served]
    exact State.wr_mem (((s.setQueue l rest).bump O_ATOMICS_APPLIED 1).hotCount l 0 1 0) _ _ hck
  obtain ⟨hread, hkeeps⟩ := serveLine_writes (leBytes_length _ _) hmem
  refine ⟨_, exec_lineQueueService l hup, hread, hkeeps, ?_⟩
  rw [ended_get_engine _ _ (by decide) (by decide) (by decide), served, State.get_countQueues _ (by decide) (by decide)]
  refine (State.get_wr (s := ((s.setQueue l rest).bump O_ATOMICS_APPLIED 1).hotCount l 0 1 0) _ _ _ hck).trans ?_
  rw [State.get_hotCount, State.get_bump_same]
  rfl

end Serve

/-! ### The results of atomics (R331) -/

theorem numOp_int32_add (a b : Nat) : numOp .int32 0 a b = (a + b) % 2 ^ 32 := rfl

theorem numOp_int64_add (a b : Nat) : numOp .int64 0 a b = (a + b) % 2 ^ 64 := rfl

theorem numOp_int32_min (a b : Nat) : numOp .int32 1 a b = if signedOf 4 a < signedOf 4 b then a else b := by
  by_cases h : signedOf 4 a < signedOf 4 b <;> simp [numOp, numSize, h]

theorem numOp_int32_max (a b : Nat) : numOp .int32 2 a b = if signedOf 4 a < signedOf 4 b then b else a := by
  by_cases h : signedOf 4 a < signedOf 4 b <;> simp [numOp, numSize, h]

/-- Settles O50: a request in one line is served whole, and an atomic takes its operation from its type. -/
theorem lineServiceApplies : Obligations.LineServiceApplies := by
  refine ⟨fun s l q rest hup hck hq hlow hhigh hsome => ?_, fun r a b => ⟨?_, ?_, ?_, ?_, ?_⟩⟩
  · have hin : InLine q.req l := ⟨hlow, hhigh, hsome⟩
    exact ⟨exec_lineQueueService_store hup hck hq hin, exec_lineQueueService_atomic hup hck hq hin⟩
  · intro hop hty
    simp only [atomicResult, hop, hty, numOp_int32_add]
  · intro hop hty
    simp only [atomicResult, hop, hty, numOp_int64_add]
  · intro hop hty
    simp only [atomicResult, hop, hty, numOp_int32_min]
  · intro hop hty
    simp only [atomicResult, hop, hty, numOp_int32_max]
  · intro hop
    simp [atomicResult, hop]

/-! ### Requests at their home (R331 to R341)

One lemma for each command: the conditions under which it takes effect, and the state it then leads to. -/

section Home

variable {s : State} {r : RemoteReq} (hup : s.coreUp = true) (hok : s.homeOk r.addr r.size = true)

include hup hok

/-- A request of the kind that a command brings, to memory that its home has, joins the queues of its lines. -/
theorem finish_homeRequest {mine : Bool} (hmine : mine = true) :
    finish s (homeRequest s mine r) = .next (ended s (s.joinQueues r false)) := by
  simp only [homeRequest, arriveHome, finish_next, hup, hok, hmine, Bool.and_self, if_true]

theorem exec_load_load (hop : r.op = .load) : exec (.load r) s = .next (ended s (s.joinQueues r false)) := by
  show execLoad r s = _
  rw [← finish_homeRequest hup hok (show (r.op == .load) = true by simp [hop])]
  simp [execLoad, hop]

/-- The request of a get sends the data back in chunks (R339). -/
theorem exec_load_copyGet (hop : r.op = .copyGet)
    (hclean : (s.drainSpan r.addr r.size).isPoisoned r.addr r.size = false) :
    exec (.load r) s
      = .next (ended s ((s.drainSpan r.addr r.size).emits ((chunkList r.size (leNat (r.data.drop 8))).map fun ch =>
          .remote r.srcNode { r with op := .copyChunk, addr := leNat (r.data.take 8) + ch.1, size := ch.2,
                                     data := (s.drainSpan r.addr r.size).rd (r.addr + ch.1) ch.2 }))) := by
  show execLoad r s = _
  simp [execLoad, serveGet, finish_next, hup, hop, hok, hclean]

theorem exec_store (hop : r.op = .store ∨ r.op = .flaggedStore) :
    exec (.store r) s = .next (ended s (s.joinQueues r false)) :=
  finish_homeRequest hup hok (by simpa using hop)

theorem exec_min (hop : r.op = .min) : exec (.min r) s = .next (ended s (s.joinQueues r false)) :=
  finish_homeRequest hup hok (by simp [hop])

theorem exec_max (hop : r.op = .max) : exec (.max r) s = .next (ended s (s.joinQueues r false)) :=
  finish_homeRequest hup hok (by simp [hop])

theorem exec_cas (hop : r.op = .cas) : exec (.cas r) s = .next (ended s (s.joinQueues r false)) :=
  finish_homeRequest hup hok (by simp [hop])

/-- An add with none before it in 32 ns merges with none. -/
theorem exec_add_alone (hop : r.op = .add) : exec (.add r false) s = .next (ended s (s.joinQueues r false)) := by
  have joins : arriveAdd s r false = s.joinQueues r false := by
    unfold arriveAdd
    simp only [hok, Bool.not_true, Bool.false_and, Bool.not_false, Bool.false_eq_true, if_false, if_true]
    split <;> rfl
  show execAdd r false s = _
  simp [execAdd, finish_next, hup, hop, joins]

/-- An add that may merge into the one that waits last on its line, while a merge record is free (R337). -/
theorem exec_add_merged {w : Queued} (hop : r.op = .add) (hw : (s.queue (addrKey r.addr / 64)).getLast? = some w)
    (hmerge : mergeable w r = true)
    (hfree : ((s.queues.map (·.2)).flatten.filter fun v => !v.merged.isEmpty).length < 1024) :
    exec (.add r true) s
      = .next (ended s (((s.setQueue (addrKey r.addr / 64)
          ((s.queue (addrKey r.addr / 64)).dropLast ++ [{ w with merged := w.merged ++ [r] }])).bump O_ADDS_MERGED 1).hotCount
          (addrKey r.addr / 64) 0 0 1)) := by
  have arrives : (s.coreUp && r.op == .add) = true := by simp [hup, hop]
  show execAdd r true s = _
  simp only [execAdd, arriveAdd, finish_next, arrives, hok, hw, hmerge, Nat.not_le.2 hfree, Bool.not_true, Bool.and_self,
    Bool.false_eq_true, if_false, if_true]

/-- A chunk of another engine's put is applied and acknowledged (R339). -/
theorem exec_copyChunk_put (hop : r.op = .copyChunk) (hsrc : r.srcNode ≠ s.node)
    (hctr : r.counter ≠ 0 → s.homeOk r.counter 8 = true) :
    exec (.copyChunk r) s = .next (ended s ((s.applyChunk r).respond r 0 [])) := by
  have no_get : (s.remotes.find? fun q => q.req.id == r.id && r.srcNode == s.node && q.req.op == .copyGet) = none :=
    List.find?_eq_none.2 fun q _ => by simp [hsrc]
  have valid : (!s.homeOk r.addr r.size || (r.counter != 0 && !s.homeOk r.counter 8)) = false := by
    by_cases h0 : r.counter = 0
    · simp [hok, h0]
    · simp [hok, hctr h0]
  show execCopyChunk r s = _
  simp [execCopyChunk, arriveChunk, finish_next, hup, hop, no_get, hsrc, valid]

end Home

/-- Settles O14: one lemma for each command. -/
theorem remoteRequestsComplete : Obligations.RemoteRequestsComplete :=
  ⟨fun _ _ hup hop hok => exec_load_load hup hok hop,
    fun _ _ hup hop hok => exec_load_copyGet hup hok hop,
    fun _ _ hup hop hok => exec_store hup hok hop,
    fun _ _ hup hop hok => exec_min hup hok hop,
    fun _ _ hup hop hok => exec_max hup hok hop,
    fun _ _ hup hop hok => exec_cas hup hok hop,
    fun _ _ hup hop hok => exec_add_alone hup hok hop,
    fun _ _ _ hup hop hok => exec_add_merged hup hok hop,
    fun _ _ hup hop hsrc hok => exec_copyChunk_put hup hok hop hsrc,
    fun _ l hup _ => exec_lineQueueService l hup⟩

/-! ### Operations at their source (R330 to R344) -/

section Source

variable {s : State} (hup : s.coreUp = true)

include hup

/-- A flagged store to another node, inside a window of its context, is issued (R331, R334, R340). -/
theorem exec_flaggedStore {c a : Nat} {data : Bytes} (hc : c < 1024) (hst : s.cstate c ≠ 0)
    (hsize : sizeOk .flaggedStore a data.length = true) (hnode : addrNode a ≠ s.nodeOf c)
    (hwin : (s.ctx c).windowOk a data.length 1 = true) :
    exec (.flaggedStore c a data) s = .next (ended s (s.issueRemote c .flaggedStore a data.length data none)) := by
  have bit : permBit .flaggedStore = 1 := rfl
  show execFlaggedStore c a data s = _
  simp [execFlaggedStore, State.contextAccess, finish_next, hup, hc, hst, hsize, hnode, bit, hwin]

theorem exec_flaggedStoreRelease {c id : Nat} {q : Pending}
    (hq : (s.remotes.find? fun q => q.req.id == id && q.req.srcCtx == c && q.held) = some q)
    (hopen : s.writesOpen c id = false) :
    exec (.flaggedStoreRelease c id) s
      = .next (ended s (({ s with remotes := s.remotes.filter fun v => v.req.id != id } : State).sendRemote
          { q with held := false, issued := s.beat })) := by
  show execFlaggedStoreRelease c id s = _
  simp only [execFlaggedStoreRelease, finish_next, hq, hup, hopen, Bool.not_true, Bool.or_self, Bool.false_eq_true, if_false]

/-- A node that a notice names is held dead (R342). -/
theorem exec_deadNodeNotice {node : Nat} (hnode : node < 2 ^ 15) :
    exec (.deadNodeNotice node) s = .next (ended s (s.nodeDies node)) := by
  have heard : (s.coreUp && decide (node < 2 ^ 15)) = true := by rw [hup, decide_eq_true hnode, Bool.and_self]
  show execDeadNodeNotice node s = _
  rw [execDeadNodeNotice, finish_next, if_pos heard]

variable {id : Nat} {q : Pending} (hq : (s.remotes.find? fun q => q.req.id == id && !q.held) = some q)

include hq

/-- The response to an operation that has not ended ends it (R330). -/
theorem exec_remoteResponse_waiting (status : Nat) (data : Bytes) :
    exec (.remoteResponse id status data) s = .next (ended s (endRemote s q status data)) := by
  rw [exec_remoteResponse id status data hup]
  simp only [takeResponse, hq]

theorem exec_remoteTimeout (hold : q.issued + s.get O_REMOTE_TIMEOUT ≤ s.beat) :
    exec (.remoteTimeout id) s = .next (ended s (s.nodeDies q.node)) := by
  show execRemoteTimeout id s = _
  simp [execRemoteTimeout, finish_next, hq, hup, hold]

/-- The first notice sends the request once more by the next intact route (R343). -/
theorem exec_routeBlocked_retries (hfirst : q.retried = false) (hpath : s.pathTo q.node = true) :
    exec (.routeBlocked id) s
      = .next (ended s ((({ s with remotes := s.remotes.map fun (v : Pending) =>
          if v.req.id == id then { v with retried := true } else v } : State).emit (.remote q.node q.req)).cbump
          q.req.srcCtx O_REROUTED 1)) := by
  show execRouteBlocked id s = _
  simp only [execRouteBlocked, finish_next, hq, hup, hfirst, hpath, Bool.not_true, Bool.or_self, Bool.false_eq_true,
    if_false]

end Source

/-! ### The host's window (R422, R512, R514) -/

/-- An access of `n` bytes at an offset of the host's window, past the checks of its module: a mailbox, the module's page,
an aperture slot, or none of them. -/
def State.hostAccess (s : State) (m off : Nat) (write : Bool) (n : Nat) (data : Bytes) : State :=
  if off + n ≤ 0x10000 then
    if off % 4096 + n > 4096 then s.unmapped m write n
    else if write then s.modMailbox (m * 16 + off / 4096) fun b => b.hostWrite (off % 4096) data
    else s.emit (.hostRead m true (((s.mailbox (m * 16 + off / 4096)).image.drop (off % 4096)).take n))
  else if 0x10000 ≤ off && off + n ≤ 0x10040 then
    if write then s.unmapped m write n
    else (s.emit (.hostRead m true (((s.modulePage m).drop (off - 0x10000)).take n))).drawn
  else if 2 ^ 38 ≤ off && off + n ≤ 2 ^ 38 + 64 * 2 ^ 32 then s.apertureAccess m (off - 2 ^ 38) write n data
  else s.unmapped m write n

/-- A module that is there counts the bytes of an access and carries it out. -/
theorem exec_hostApertureAccess {s : State} {m off n : Nat} {write : Bool} {data : Bytes} (hup : s.coreUp = true)
    (hm : m < 8) (hmod : s.haModules.getD m 0 % 128 ≠ 0) (hlen : write = true → data.length = n) :
    exec (.hostApertureAccess m off write n data) s
      = .next (ended s
          ((s.bump (unitKey m (if write then O_HA_BYTES_IN else O_HA_BYTES_OUT)) n).hostAccess m off write n data)) := by
  have there : (s.haModules.getD m 0 % 128 == 0) = false := beq_false_of_ne hmod
  have sized : (write && data.length != n) = false := by
    cases write with
    | false => rfl
    | true => simp [hlen rfl]
  show execHostApertureAccess m off write n data s = _
  simp only [execHostApertureAccess, finish_next, hup, Nat.not_le.2 hm, there, sized, decide_false, Bool.not_true,
    Bool.or_self, Bool.false_eq_true, if_false]
  rfl

/-- A read is counted among the bytes that go out. -/
theorem exec_hostApertureAccess_read {s : State} {m off n : Nat} (hup : s.coreUp = true) (hm : m < 8)
    (hmod : s.haModules.getD m 0 % 128 ≠ 0) :
    exec (.hostApertureAccess m off false n []) s
      = .next (ended s ((s.bump (unitKey m O_HA_BYTES_OUT) n).hostAccess m off false n [])) :=
  exec_hostApertureAccess hup hm hmod fun h => absurd h Bool.false_ne_true

section Mailbox

variable (s : State) (m : Nat) {box o : Nat} (hbox : box < 16)

include hbox

/-- A write within one mailbox. -/
theorem State.hostAccess_mailboxWrite (data : Bytes) (hend : o + data.length ≤ 4096) (hn : 0 < data.length) :
    s.hostAccess m (4096 * box + o) true data.length data
      = s.modMailbox (m * 16 + box) fun b => b.hostWrite o data := by
  have low : 4096 * box + o + data.length ≤ 0x10000 := by omega
  have quot : (4096 * box + o) / 4096 = box := by omega
  have rem : (4096 * box + o) % 4096 = o := by omega
  simp only [State.hostAccess, low, quot, rem, Nat.not_lt.2 hend, if_true, if_false]

/-- A read within one mailbox. -/
theorem State.hostAccess_mailboxRead {n : Nat} (hend : o + n ≤ 4096) (hn : 0 < n) :
    s.hostAccess m (4096 * box + o) false n []
      = s.emit (.hostRead m true (((s.mailbox (m * 16 + box)).image.drop o).take n)) := by
  have low : 4096 * box + o + n ≤ 0x10000 := by omega
  have quot : (4096 * box + o) / 4096 = box := by omega
  have rem : (4096 * box + o) % 4096 = o := by omega
  simp only [State.hostAccess, low, quot, rem, Nat.not_lt.2 hend, Bool.false_eq_true, if_true, if_false]

end Mailbox

section Aperture

variable {s : State} {m slot o n : Nat} (hn : 0 < n) (hend : o + n ≤ 2 ^ 32)

include hn hend

/-- An access within one aperture slot. -/
theorem State.hostAccess_aperture (write : Bool) (data : Bytes) (hslot : slot < 64) :
    s.hostAccess m (2 ^ 38 + slot * 2 ^ 32 + o) write n data = s.apertureAccess m (slot * 2 ^ 32 + o) write n data := by
  have past_mailboxes : ¬ 2 ^ 38 + slot * 2 ^ 32 + o + n ≤ 0x10000 := by omega
  have past_page : (decide (0x10000 ≤ 2 ^ 38 + slot * 2 ^ 32 + o) && decide (2 ^ 38 + slot * 2 ^ 32 + o + n ≤ 0x10040))
      = false := by
    simp only [Bool.and_eq_false_iff, decide_eq_false_iff_not]
    omega
  have inside : (decide (2 ^ 38 ≤ 2 ^ 38 + slot * 2 ^ 32 + o)
      && decide (2 ^ 38 + slot * 2 ^ 32 + o + n ≤ 2 ^ 38 + 64 * 2 ^ 32)) = true := by
    simp only [Bool.and_eq_true, decide_eq_true_eq]
    omega
  have offset : 2 ^ 38 + slot * 2 ^ 32 + o - 2 ^ 38 = slot * 2 ^ 32 + o := by omega
  unfold State.hostAccess
  rw [if_neg past_mailboxes, past_page, if_neg Bool.false_ne_true, inside, if_pos rfl, offset]

/-- A read of a valid slot is a load of the slot's context (R514). -/
theorem State.apertureAccess_read (hvalid : (s.aperture m slot).flags % 2 = 1)
    (hpages : o + n ≤ (s.aperture m slot).pages * 4096) (hst : s.cstate (s.aperture m slot).ctx ≠ 0) :
    s.apertureAccess m (slot * 2 ^ 32 + o) false n []
      = s.contextAccess (s.aperture m slot).ctx .load ((s.aperture m slot).base + o) n [] (some m) := by
  have quot : (slot * 2 ^ 32 + o) / 2 ^ 32 = slot := by omega
  have rem : (slot * 2 ^ 32 + o) % 2 ^ 32 = o := by omega
  unfold State.apertureAccess
  rw [quot, rem]
  simp [hvalid, hpages, hst]

end Aperture

/-- The state of a context is no object of the engine. -/
theorem State.cstate_bump_engine (s : State) {k : Nat} (hk : k < 0x800000) (n c : Nat) :
    (s.bump k n).cstate c = s.cstate c :=
  s.get_bump_ne n (engKey_ne hk (by decide)).symm

/-- Settles O15: one lemma for each command; an access of the host is counted before it is carried out. -/
theorem remoteSourceComplete : Obligations.RemoteSourceComplete := by
  refine ⟨fun _ _ _ _ hup => exec_flaggedStore hup, fun _ _ _ _ hup => exec_flaggedStoreRelease hup,
    fun _ _ status data _ hup hq => exec_remoteResponse_waiting hup hq status data,
    fun _ _ _ hup => exec_remoteTimeout hup, fun _ _ hup => exec_deadNodeNotice hup,
    fun _ _ _ hup => exec_routeBlocked_retries hup, ?_, ?_, ?_⟩
  · intro s m box o data hup hm hmod hbox hend hn
    rw [exec_hostApertureAccess hup hm hmod fun _ => rfl, State.hostAccess_mailboxWrite _ m hbox data hend hn]
    rfl
  · intro s m box o n hup hm hmod hbox hend hn
    rw [exec_hostApertureAccess_read hup hm hmod, State.hostAccess_mailboxRead _ m hbox hend hn]
    rfl
  · intro s m slot o n hup hm hmod hslot hn hend hvalid hpages hst
    have low : unitKey m O_HA_BYTES_OUT < 0x800000 := by
      unfold unitKey O_HA_BYTES_OUT
      omega
    rw [exec_hostApertureAccess_read hup hm hmod, State.hostAccess_aperture hn hend false [] hslot,
      State.apertureAccess_read (s := s.bump (unitKey m O_HA_BYTES_OUT) n) hn hend hvalid hpages
        fun h => hst ((s.cstate_bump_engine low n _).symm.trans h)]
    rfl

end Sys2Proof.Machine
end

section
/-! Proofs of the statement about frames, links and announcements (R310 to R315, R321 to R329). -/

namespace Sys2Proof.Machine

open Sys2Proof

/-! ### The objects and the layer of a link -/

theorem unitKey_ne {u j k : Nat} (h : j ≠ k) : unitKey u j ≠ unitKey u k := fun e => h (Nat.add_right_cancel e)

/-- An object of a link is none of the objects of the fabric, which come before it. -/
theorem unitKey_link_ne {l j k : Nat} (hj : 0x251000 ≤ j) (hk : k < 0x251000) : unitKey l j ≠ k := by
  unfold unitKey
  omega

/-- An object of a link, read past the end of a command. -/
theorem ended_get_link (s t : State) {l k : Nat} (hl : l < 12) (hk : 0x251000 ≤ k) (hk' : k < 0x251100) :
    (ended s t).get (unitKey l k) = t.get (unitKey l k) := by
  refine ended_get_engine s t ?_ ?_ ?_
  all_goals
    simp only [unitKey, O_MIRROR_BYTES, O_NOTICES_SENT]
    omega

@[simp] theorem State.link_modLink_same (s : State) (l : Nat) (f : Link → Link) : (s.modLink l f).link l = f (s.link l) :=
  tblGet_put_same _ _ _ _

@[simp] theorem ended_link (s t : State) (l : Nat) : (ended s t).link l = t.link l := by
  unfold State.link
  rw [ended_links]

/-! ### Frames (R313, R315) -/

/-- A frame in sequence is accepted: the next number is awaited, and the frame is acknowledged. -/
def State.acceptFrame (s : State) (l seq : Nat) : State :=
  ((s.modLink l fun k => { k with rxNext := (k.rxNext + 1) % 4096, discarding := false }).bump (unitKey l O_FRAMES_RX) 1).emit
    (.ctrl l ⟨some seq, none, []⟩)

theorem State.link_acceptFrame (s : State) (l seq : Nat) :
    (s.acceptFrame l seq).link l = { s.link l with rxNext := ((s.link l).rxNext + 1) % 4096, discarding := false } :=
  s.link_modLink_same l fun k => { k with rxNext := (k.rxNext + 1) % 4096, discarding := false }

theorem State.framesRx_acceptFrame (s : State) (l seq : Nat) :
    (s.acceptFrame l seq).get (unitKey l O_FRAMES_RX) = (s.get (unitKey l O_FRAMES_RX) + 1) % 2 ^ 64 :=
  State.get_bump_same (s.modLink l _) _ 1

section Frame

variable {s : State} {l : Nat} (hup : s.coreUp = true) (hl : l < 12) (hlink : s.linkUp l = true)

include hup hl hlink

/-- A frame on a link that is up, with its right CRC and number, is accepted. -/
theorem exec_frameRx_accepts {tag : Nat} {flit : Bytes} (corrected : Nat) (hcrc : tagCrc tag = frameCrc tag flit)
    (hdata : tagCtrl tag = false) (hseq : tagFrameSeq tag = (s.link l).rxNext) :
    exec (.frameRx l true corrected tag flit) s
      = .next (ended s ((s.bump (unitKey l O_FEC_CORRECTED) corrected).acceptFrame l (tagFrameSeq tag))) := by
  have inSeq : tagFrameSeq tag = ((s.bump (unitKey l O_FEC_CORRECTED) corrected).link l).rxNext := hseq
  have taken : (s.coreUp && decide (l < 12) && s.linkUp l) = true := by rw [hup, decide_eq_true hl, hlink]; rfl
  show execFrameRx l true corrected tag flit s = _
  rw [execFrameRx, finish_next, if_pos taken]
  simp only [takeFrame, State.acceptFrame, hcrc, hdata, ← inSeq, bne_self_eq_false, Bool.not_true, Bool.false_eq_true,
    if_false]

theorem exec_ctrlFrame (f : CtrlFrame) : exec (.ctrlFrame l f) s = .next (ended s (takeCtrl s l f)) := by
  show execCtrlFrame l f s = _
  simp [execCtrlFrame, finish_next, hup, hl, hlink]

/-- A flit for another node leaves on the link that its tag names, when that is up and has room (R323). -/
theorem exec_transitForward_sends {tag k t' : Nat} {flit : Bytes} (src : Nat) (hdest : tagDest tag ≠ s.node)
    (hfar : tagLocal tag = false) (hnext : s.nextLink l tag = some (k, t')) (hk : s.linkUp k = true)
    (hroom : s.replayRoom k = true) :
    exec (.transitForward l tag flit src) s = .next (ended s (s.sendFrame k t' flit)) := by
  show execTransitForward l tag flit src s = _
  simp [execTransitForward, transit, finish_next, hup, hl, hlink, hdest, hfar, hnext, hk, hroom]

/-! ### Lanes and the delay of a link that is up (R244, R314) -/

/-- A link that has measured its delay 4,096 beats ago or earlier measures it again. -/
theorem exec_linkDelayMeasure (delay : Nat) (hdue : (s.link l).measureBeat + 4096 ≤ s.beat) :
    exec (.linkDelayMeasure l delay) s
      = .next (ended s ((s.put (unitKey l O_LINK_DELAY_PS) (delay % 2 ^ 32)).modLink l fun k =>
          { k with measureBeat := s.beat })) := by
  show execLinkDelayMeasure l delay s = _
  simp [execLinkDelayMeasure, finish_next, hup, hl, hlink, hdue]

variable {lane up : Nat} (hlane : lane < 8) (hset : s.get (unitKey l O_LANES_UP) / 2 ^ lane % 2 = 1)
  (hrest : up = s.get (unitKey l O_LANES_UP) - 2 ^ lane)

include hlane hset hrest

/-- With a half of the lanes whole the link goes on in that half. -/
theorem exec_laneFailed_degrades (hhalf : up % 16 = 15 ∨ up / 16 = 15) :
    exec (.laneFailed l lane) s
      = .next (ended s ((((s.put (unitKey l O_LANES_UP) up).raise O_FABRIC_FLAGS 0).setLink l 3).raise
          O_FABRIC_FLAGS 1)) := by
  subst hrest
  show execLaneFailed l lane s = _
  simp [execLaneFailed, finish_next, hup, hl, hlink, hlane, hset, hhalf]

/-- With neither half whole it goes down. -/
theorem exec_laneFailed_down (hlow : up % 16 ≠ 15) (hhigh : up / 16 ≠ 15) :
    exec (.laneFailed l lane) s
      = .next (ended s (((s.put (unitKey l O_LANES_UP) up).raise O_FABRIC_FLAGS 0).linkDown l)) := by
  subst hrest
  show execLaneFailed l lane s = _
  simp [execLaneFailed, finish_next, hup, hl, hlink, hlane, hset, hlow, hhigh]

end Frame

/-- What a link that degrades reads and flags. -/
theorem State.degraded_reads (s : State) (l up : Nat) :
    let t := (((s.put (unitKey l O_LANES_UP) up).raise O_FABRIC_FLAGS 0).setLink l 3).raise O_FABRIC_FLAGS 1
    t.get (unitKey l O_LANES_UP) = up ∧ t.get (unitKey l O_LINK_STATE) = 3 ∧ bitSet t O_FABRIC_FLAGS 0 ∧
      bitSet t O_FABRIC_FLAGS 1 := by
  have lanes_flags : unitKey l O_LANES_UP ≠ O_FABRIC_FLAGS := unitKey_link_ne (by decide) (by decide)
  have state_flags : unitKey l O_LINK_STATE ≠ O_FABRIC_FLAGS := unitKey_link_ne (by decide) (by decide)
  have first : bitSet (((s.put (unitKey l O_LANES_UP) up).raise O_FABRIC_FLAGS 0).setLink l 3) O_FABRIC_FLAGS 0 :=
    (congrArg (· / 2 ^ 0 % 2) (State.get_put_ne _ 3 state_flags.symm)).trans (State.raise_bit _ O_FABRIC_FLAGS 0)
  refine ⟨?_, ?_, State.raise_keeps_bit _ O_FABRIC_FLAGS 1 first, State.raise_bit _ O_FABRIC_FLAGS 1⟩
  · rw [State.get_raise_ne _ 1 lanes_flags, State.setLink, State.get_put_ne _ 3 (unitKey_ne (by decide)),
      State.get_raise_ne _ 0 lanes_flags, State.get_put_same]
  · rw [State.get_raise_ne _ 1 state_flags, State.setLink, State.get_put_same]

/-! ### Training (R310, R314) -/

/-- A link that is down, or has not trained, tries again 1,024 beats after its last attempt. -/
theorem exec_linkRetrain {s : State} {l : Nat} (hup : s.coreUp = true) (hl : l < 12)
    (hst : s.get (unitKey l O_LINK_STATE) = 4 ∨ s.get (unitKey l O_LINK_STATE) = 1)
    (hen : s.get O_LINK_ENABLE / 2 ^ l % 2 = 1) (hdue : (s.link l).trainBeat + 1024 ≤ s.beat) :
    exec (.linkRetrain l) s = .next (ended s ((s.setLink l 1).modLink l fun k => { k with trainBeat := s.beat })) := by
  show execLinkRetrain l s = _
  simp [execLinkRetrain, finish_next, hup, hl, hst, hen, hdue]

theorem exec_linkTrained {s : State} {l gen : Nat} (peer delay : Nat) (hpg : s.corePg = true) (hres : s.resetN = true)
    (hl : l < 12) (hst : s.get (unitKey l O_LINK_STATE) = 1) (hgen : 1 ≤ gen) (hmax : gen ≤ s.linkGenMax.getD l 3) :
    exec (.linkTrained l gen peer delay) s = .next (ended s (linkTrained s l gen peer delay)) := by
  have trains : (s.corePg && s.resetN && decide (l < 12) && s.get (unitKey l O_LINK_STATE) == 1 && decide (1 ≤ gen)
      && decide (gen ≤ s.linkGenMax.getD l 3)) = true := by
    simp only [hpg, hres, hl, hst, hgen, hmax, decide_true, beq_self_eq_true, Bool.and_self]
  show execLinkTrained l gen peer delay s = _
  rw [execLinkTrained, finish_next, if_pos trains]

/-! ### Announcements and the bypass island (R325 to R329) -/

theorem exec_bypassAnnouncement {s : State} (a : Announcement) (hup : s.coreUp = true) :
    exec (.bypassAnnouncement a) s = .next (ended s (takeAnnouncement s a)) := by
  show execBypassAnnouncement a s = _
  rw [execBypassAnnouncement, finish_next, if_pos hup]

theorem exec_returnAnnouncement {s : State} {node : Nat} (hup : s.coreUp = true) (hnode : node < 2 ^ 15) :
    exec (.returnAnnouncement node) s = .next (ended s (takeReturned s node)) := by
  have heard : (s.coreUp && decide (node < 2 ^ 15)) = true := by rw [hup, decide_eq_true hnode, Bool.and_self]
  show execReturnAnnouncement node s = _
  rw [execReturnAnnouncement, finish_next, if_pos heard]

/-- A frame on a spine link of an engine in bypass. -/
theorem exec_bypassFrame {s : State} {l : Nat} (tag : Nat) (flit : Bytes) (src : Nat) (hby : s.get O_BYPASS_STATE = 1)
    (hlow : 8 ≤ l) (hl : l < 12) (hst : s.get (unitKey l O_LINK_STATE) = 5) :
    exec (.bypassFrame l tag flit src) s = .next (ended s (islandFrame s l tag flit src)) := by
  show execBypassFrame l tag flit src s = _
  simp [execBypassFrame, finish_next, hby, hlow, hl, hst]

/-- Settles O16: one lemma for each command; what an accepted frame and a degraded link read is read past the end. -/
theorem linkCommandsComplete : Obligations.LinkCommandsComplete := by
  refine ⟨?_, fun _ _ f hup hl hlink => exec_ctrlFrame hup hl hlink f, fun _ a hup _ => exec_bypassAnnouncement a hup,
    fun _ _ hup hnode _ => exec_returnAnnouncement hup hnode, ?_,
    fun _ _ _ _ hup hl hlane hlink hset hrest => exec_laneFailed_down hup hl hlink hlane hset hrest,
    fun _ _ => exec_linkRetrain, fun _ _ _ peer delay => exec_linkTrained peer delay,
    fun _ _ delay hup hl hlink => exec_linkDelayMeasure hup hl hlink delay,
    fun _ _ _ _ src _ _ hup hl hlink => exec_transitForward_sends hup hl hlink src,
    fun _ _ tag flit src => exec_bypassFrame tag flit src⟩
  · intro s l corrected tag flit hup hl hlink hcrc hdata hseq
    refine ⟨_, exec_frameRx_accepts hup hl hlink corrected hcrc hdata hseq, ?_, ?_, ?_⟩
    · rw [ended_link, State.link_acceptFrame]
      rfl
    · rw [ended_link, State.link_acceptFrame]
    · rw [ended_get_link _ _ hl (by decide) (by decide), State.framesRx_acceptFrame,
        State.get_bump_ne _ _ (unitKey_ne (by decide))]
  · intro s l lane up hup hl hlane hlink hset hrest hhalf
    obtain ⟨hlanes, hstate, hfailed, hdegraded⟩ := s.degraded_reads l up
    refine ⟨_, exec_laneFailed_degrades hup hl hlink hlane hset hrest hhalf, ?_, ?_,
      bitSet_ended (by decide) (by decide) (by decide) hfailed,
      bitSet_ended (by decide) (by decide) (by decide) hdegraded⟩
    · exact (ended_get_link _ _ hl (by decide) (by decide)).trans hlanes
    · exact (ended_get_link _ _ hl (by decide) (by decide)).trans hstate

end Sys2Proof.Machine
end

section
/-! Proofs of the statements about collectives and weight commands (R353 to R363, R366 to R377). -/

namespace Sys2Proof.Machine

open Sys2Proof

/-! ### The five collectives in front of a ring (R353 to R360) -/

section Front

variable {s : State} {c i : Nat} {d : Bytes}

/-- The row of COLLECTIVE that asks for the operation in front issues it, when no other is in progress. -/
theorem finish_collective_atFront {mine : Bytes → Bool} (hat : AtFront s c i d 0x20 (s.collChecks c d))
    (hfree : (s.ctx c).coll = none) (hmine : mine d = true) :
    finish s (s.takeFront c mine fun i d => issueCollective s c i d)
      = .next (ended s (runCollective (s.accept c i d) c i d)) := by
  obtain ⟨hfront, hop, -⟩ := id hat
  have known : opcodes.contains (fld d 0 1) = true := by rw [hop]; decide
  have idle : ¬ (s.ctx c).coll.isSome = true := by simp [hfree]
  rw [s.takeFront_mine _ hfront known hmine, issueCollective, if_neg idle, s.issueDesc_atFront hat (by decide),
    finish_next]

theorem isColl_atFront {op : Nat} {checks : List (Option Nat)} (hat : AtFront s c i d 0x20 checks)
    (hop : fld d 18 1 = op) : isColl op d = true := by
  obtain ⟨-, hcode, -⟩ := hat
  simp [isColl, hcode, hop]

theorem exec_allReduce (hat : AtFront s c i d 0x20 (s.collChecks c d)) (hfree : (s.ctx c).coll = none)
    (hop : fld d 18 1 = 1) : exec (.allReduce c) s = .next (ended s (runCollective (s.accept c i d) c i d)) := by
  obtain ⟨-, hcode, -⟩ := id hat
  exact finish_collective_atFront hat hfree (by simp [hcode, hop])

theorem exec_reduceScatter (hat : AtFront s c i d 0x20 (s.collChecks c d)) (hfree : (s.ctx c).coll = none)
    (hop : fld d 18 1 = 2) : exec (.reduceScatter c) s = .next (ended s (runCollective (s.accept c i d) c i d)) :=
  finish_collective_atFront hat hfree (isColl_atFront hat hop)

theorem exec_allGather (hat : AtFront s c i d 0x20 (s.collChecks c d)) (hfree : (s.ctx c).coll = none)
    (hop : fld d 18 1 = 3) : exec (.allGather c) s = .next (ended s (runCollective (s.accept c i d) c i d)) :=
  finish_collective_atFront hat hfree (isColl_atFront hat hop)

theorem exec_broadcast (hat : AtFront s c i d 0x20 (s.collChecks c d)) (hfree : (s.ctx c).coll = none)
    (hop : fld d 18 1 = 4) : exec (.broadcast c) s = .next (ended s (runCollective (s.accept c i d) c i d)) :=
  finish_collective_atFront hat hfree (isColl_atFront hat hop)

theorem exec_barrier (hat : AtFront s c i d 0x20 (s.collChecks c d)) (hfree : (s.ctx c).coll = none)
    (hop : fld d 18 1 = 5) : exec (.barrier c) s = .next (ended s (runCollective (s.accept c i d) c i d)) :=
  finish_collective_atFront hat hfree (isColl_atFront hat hop)

end Front

/-! ### The events of a collective in progress (R353 to R363)

One lemma for each event: the conditions under which it takes effect, and the state it then leads to. -/

section Coll

variable {s : State} {c : Nat} {k : Coll} (hup : s.coreUp = true) (hk : (s.ctx c).coll = some k)

include hup hk

/-- A COLLECTIVE of a ring is entered once no window is open and its staging buffers are there (R360). -/
theorem exec_collectiveEntry {own : Bytes} (hring : k.caramel = false) (hphase : k.phase = 0)
    (hclosed : ∀ w ∈ (s.ctx c).windows, w.isOpen = false) (hstaged : s.waits c (2 ^ 33) 7 = false)
    (hclean : s.collSource c k = (own, false)) :
    exec (.collectiveEntry c) s = .next (ended s (s.collEnter c k own)) := by
  have closed : (s.ctx c).windows.any Window.isOpen = false := List.any_eq_false.2 fun w hw => by simp [hclosed w hw]
  have enters : (s.coreUp && !k.caramel && k.phase == 0 && !(s.ctx c).windows.any Window.isOpen
      && !s.waits c (2 ^ 33) 7) = true := by
    simp only [hup, hring, hphase, closed, hstaged]; decide
  show execCollectiveEntry c s = _
  simp only [execCollectiveEntry, finish_next, hk, enters, hclean, if_true, Bool.false_eq_true, if_false]

/-- The first entry of another member joins those that are here, and all are compared (R353). -/
theorem exec_collEntryMessage {rank : Nat} (entry : CollEntry) (hst : s.cstate c ≠ 0) (hphase : k.phase = 1)
    (hother : rank ≠ s.collRank k) (hmember : rank < (s.collNodes k).length) (hnew : ∀ e ∈ k.entries, e.1 ≠ rank) :
    exec (.collEntryMessage c rank entry) s
      = .next (ended s ((s.setColl c (some { k with entries := k.entries ++ [(rank, entry)] })).collEntries c)) := by
  have new : (k.entries.any fun e => e.1 == rank) = false := List.any_eq_false.2 fun e he => by simp [hnew e he]
  show execCollEntryMessage c rank entry s = _
  simp [execCollEntryMessage, finish_next, hk, hup, hst, hphase, hother, Nat.not_le.2 hmember, new]

/-- The first contribution of a rank that this member needs joins those that are here (R359). -/
theorem exec_collData {rank : Nat} {data : Bytes} (hphase : k.phase = 1 ∨ k.phase = 2) (hneeded : rank ∈ s.collNeeds k)
    (hlen : data.length = k.inLen) (hnew : ∀ p ∈ k.data, p.1 ≠ rank) :
    exec (.collData c rank data) s
      = .next (ended s (((s.setColl c (some { k with data := k.data ++ [(rank, data)] })).collCheck c).collAllDone c)) := by
  have new : (k.data.any fun p => p.1 == rank) = false := List.any_eq_false.2 fun p hp => by simp [hnew p hp]
  have moving : (k.phase == 1 || k.phase == 2) = true := by simpa using hphase
  show execCollData c rank data s = _
  simp [execCollData, finish_next, hk, hup, moving, hneeded, hlen, new]

/-- Rank 0 keeps the first report of another rank (R361). -/
theorem exec_collDoneReport {rank : Nat} (hroot : s.collRank k = 0) (hphase : k.phase = 2 ∨ k.phase = 3)
    (hmember : rank < (s.collNodes k).length) (hother : rank ≠ 0) (hnew : rank ∉ k.dones) :
    exec (.collDoneReport c rank) s
      = .next (ended s ((s.setColl c (some { k with dones := rank :: k.dones })).collAllDone c)) := by
  have moving : (k.phase == 2 || k.phase == 3) = true := by simpa using hphase
  show execCollDoneReport c rank s = _
  simp [execCollDoneReport, finish_next, hk, hup, hroot, moving, hmember, hother, hnew]

theorem exec_collectiveComplete (hphase : k.phase = 3) (hrank : s.collRank k ≠ 0) :
    exec (.collectiveComplete c) s = .next (ended s (s.collFinish c k)) := by
  show execCollectiveComplete c s = _
  simp [execCollectiveComplete, finish_next, hk, hup, hphase, hrank]

/-- A notice of the collective in progress is kept, and makes this member abort (R362). -/
theorem exec_abortNotice {seq : Nat} (rank code candidate : Nat) (hseq : k.seq = seq) (hphase : k.phase ≠ 4) :
    exec (.abortNotice c rank code seq candidate) s
      = .next (ended s ((s.setColl c (some { k with notices := k.notices ++ [(rank, code, candidate)] })).collAbort c code
          ((s.setColl c (some { k with notices := k.notices ++ [(rank, code, candidate)] })).collCandidate k))) := by
  show execAbortNotice c rank code seq candidate s = _
  simp [execAbortNotice, finish_next, hk, hup, hseq, hphase]

theorem exec_collTimeout (hentered : 1 ≤ k.phase) (hrunning : k.phase ≤ 3)
    (hdue : k.entered + s.cget c O_COLL_TIMEOUT_BEATS ≤ s.beat) :
    exec (.collTimeout c) s = .next (ended s (s.collAbort c 0x44 (s.collCandidate k))) := by
  show execCollTimeout c s = _
  simp [execCollTimeout, finish_next, hk, hup, hentered, hrunning, hdue]

theorem exec_abortSettle (hphase : k.phase = 4) (hdue : k.abortBeat + 64 ≤ s.beat) :
    exec (.abortSettle c) s = .next (ended s (abortSettles s c k)) := by
  show execAbortSettle c s = _
  simp [execAbortSettle, finish_next, hk, hup, hphase, hdue]

end Coll

/-- Settles O7: one lemma for each command; the five collectives share the issue and differ in their operation. -/
theorem collectivesComplete : Obligations.CollectivesComplete :=
  ⟨fun _ _ _ _ => exec_allReduce, fun _ _ _ _ => exec_reduceScatter, fun _ _ _ _ => exec_allGather,
    fun _ _ _ _ => exec_broadcast, fun _ _ _ _ => exec_barrier, fun _ _ _ _ hup hk => exec_collectiveEntry hup hk,
    fun _ _ _ entry _ hup hst hk => exec_collEntryMessage hup hk entry hst,
    fun _ _ _ _ _ hup hk => exec_collData hup hk,
    fun _ _ _ _ hup hk => exec_collDoneReport hup hk, fun _ _ _ => exec_collectiveComplete,
    fun _ _ rank code _ candidate _ hup hk => exec_abortNotice hup hk rank code candidate,
    fun _ _ _ => exec_collTimeout, fun _ _ _ => exec_abortSettle⟩

/-! ### Weight intakes (R366 to R374) -/

section Weights

variable {s : State} {c i : Nat} {d : Bytes}

/-- The row of WEIGHT_INTAKE that asks for the part in front issues it. -/
theorem finish_intake_atFront {mine : Bytes → Bool} (hat : AtFront s c i d 0x21 (intakeChecks s c d))
    (hmine : mine d = true) (src src2 : Bytes) :
    finish s (s.takeFront c mine fun i d => issueIntake s c i d src src2)
      = .next (ended s (runIntake (s.accept c i d) c i d src src2)) := by
  obtain ⟨hfront, hop, -⟩ := id hat
  have known : opcodes.contains (fld d 0 1) = true := by rw [hop]; decide
  rw [s.takeFront_mine _ hfront known hmine, issueIntake, s.issueDesc_atFront hat (by decide), finish_next]

theorem isIntake_atFront {part : Nat} {checks : List (Option Nat)} (hat : AtFront s c i d 0x21 checks)
    (hrows : fld d 49 1 ≠ 3) (hpart : fld d 48 1 = part) : isIntake part d = true := by
  obtain ⟨-, hop, -⟩ := hat
  simp [isIntake, hop, hrows, hpart]

theorem exec_weightIntakeGateUp (src src2 : Bytes) (hat : AtFront s c i d 0x21 (intakeChecks s c d))
    (hrows : fld d 49 1 ≠ 3) (hpart : fld d 48 1 = 0) :
    exec (.weightIntakeGateUp c src src2) s = .next (ended s (runIntake (s.accept c i d) c i d src src2)) :=
  finish_intake_atFront hat (by rw [isIntake_atFront hat hrows hpart, Bool.true_or]) src src2

theorem exec_weightIntakeDown (src : Bytes) (hat : AtFront s c i d 0x21 (intakeChecks s c d))
    (hrows : fld d 49 1 ≠ 3) (hpart : fld d 48 1 = 1) :
    exec (.weightIntakeDown c src) s = .next (ended s (runIntake (s.accept c i d) c i d src [])) :=
  finish_intake_atFront hat (isIntake_atFront hat hrows hpart) src []

theorem exec_weightIntakeRouter (src : Bytes) (hat : AtFront s c i d 0x21 (intakeChecks s c d))
    (hrows : fld d 49 1 ≠ 3) (hpart : fld d 48 1 = 2) :
    exec (.weightIntakeRouter c src) s = .next (ended s (runIntake (s.accept c i d) c i d src [])) :=
  finish_intake_atFront hat (isIntake_atFront hat hrows hpart) src []

theorem exec_weightIntakePack (src : Bytes) (hat : AtFront s c i d 0x21 (intakeChecks s c d)) (hpack : fld d 49 1 = 3) :
    exec (.weightIntakePack c src) s = .next (ended s (runIntake (s.accept c i d) c i d src [])) := by
  obtain ⟨-, hop, -⟩ := id hat
  exact finish_intake_atFront hat (by simp [hop, hpack]) src []

/-- An intake whose slot is not still draining ends (R372, R374). -/
theorem exec_intakeComplete {idx : Nat} {k : Intake} (hup : s.coreUp = true)
    (hk : (s.ctx c).intakes.find? (·.idx == idx) = some k) (hbegun : k.waiting = false) :
    exec (.intakeComplete c idx) s = .next (ended s (finishIntake s c k)) := by
  show execIntakeComplete c idx s = _
  simp [execIntakeComplete, finish_next, hk, hup, hbegun]

/-! ### Slot switches and gradient exports (R375 to R377) -/

/-- A switch in front takes effect no sooner than the next boundary. -/
theorem exec_slotSwitch (hat : AtFront s c i d 0x22 (switchChecks s c d)) :
    exec (.slotSwitch c) s
      = .next (ended s ((s.accept c i d).modCtx c fun x =>
          { x with switch := some ⟨i, fld d 16 4, (s.accept c i d).beat + 1, false, 0⟩, switchSeen := false })) := by
  show execSlotSwitch c s = _
  rw [execSlotSwitch, s.takeFront_atFront hat (by decide), issueSlotSwitch, s.issueDesc_atFront hat (by decide),
    finish_next, Option.getD_none]

theorem exec_slotSwitchEffect {w : Switch} (hup : s.coreUp = true) (hw : (s.ctx c).switch = some w)
    (hpending : w.effective = false) (hdue : w.beat ≤ s.beat) (hfirst : s.dueBelow 5 w.beat = false) :
    exec (.slotSwitchEffect c) s = .next (ended s (s.switchEffect c w)) := by
  show execSlotSwitchEffect c s = _
  simp [execSlotSwitchEffect, finish_next, hw, hup, hpending, hdue, hfirst]

/-- GRAD_EXPORT of a buffer that is there holds the commands behind it (R377). -/
theorem exec_gradExport {p : Nat} (hat : AtFront s c i d 0x23 (exportChecks s c d))
    (hbuffer : (s.accept c i d).gradBuffer c d = some p) :
    exec (.gradExport c) s = .next (ended s ((s.accept c i d).hold c (.gradExport i d))) := by
  have there : ¬ ((s.accept c i d).gradBuffer c d).isNone = true := by simp [hbuffer]
  show execGradExport c s = _
  rw [execGradExport, s.takeFront_atFront hat (by decide), issueGradExport, s.issueDesc_atFront hat (by decide),
    if_neg there, finish_next]

end Weights

/-- Settles O8: one lemma for each command; the parts of WEIGHT_INTAKE share the issue. -/
theorem weightCommandsComplete : Obligations.WeightCommandsComplete :=
  ⟨fun _ _ _ _ => exec_weightIntakeGateUp, fun _ _ _ _ => exec_weightIntakeDown, fun _ _ _ _ => exec_weightIntakeRouter,
    fun _ _ _ _ => exec_weightIntakePack, fun _ _ _ _ => exec_intakeComplete, fun _ _ _ _ => exec_slotSwitch,
    fun _ _ _ => exec_slotSwitchEffect, fun _ _ _ _ _ => exec_gradExport⟩

end Sys2Proof.Machine
end

section
/-! Proofs of the statements that hold of every command: it answers a next state, with the queue it was given, and leaves no
context DRAINING with nothing in progress (R400, R408, R426). -/

namespace Sys2Proof.Machine

open Sys2Proof

/-! ### Every command ends in the same way -/

/-- Whatever state a command leads to, the end of a command follows, and that is a next state. -/
theorem exec_ends (i : Instr) (s : State) : ∃ t, exec i s = .next (ended s t) := by
  cases i <;> exact ⟨_, rfl⟩

/-- Settles O3: the end of a command puts back the queue that the command was given. -/
theorem everyCommandAnswersNextState : Obligations.EveryCommandAnswersNextState := by
  intro i s
  obtain ⟨t, ht⟩ := exec_ends i s
  exact ⟨ended s t, ht, ended_pending s t⟩

/-! ### What the move of a context to ARMED does to CTX_STATE (R408) -/

theorem State.get_mirrorAll (s : State) (kind : MirrorKind) (c : Nat) (vals : List (Nat × Nat)) (nums : List Nat)
    (images : List (Nat × Bytes)) (ledger : Option Ledger) {k : Nat} (hk : k ≠ O_MIRROR_BYTES) :
    (s.mirrorAll kind c vals nums images ledger).get k = s.get k := by
  unfold State.mirrorAll
  split
  · exact State.get_bump_ne _ _ hk
  · rfl

/-- No object of a context is MIRROR_BYTES. -/
theorem ctxKey_ne_mirrorBytes (c : Nat) {k : Nat} (hk : 0x800000 ≤ k) : ctxKey c k ≠ O_MIRROR_BYTES :=
  (engKey_ne (by decide) hk).symm

theorem ctxState_inj {c d : Nat} (h : ctxKey d O_CTX_STATE = ctxKey c O_CTX_STATE) : d = c := by
  unfold ctxKey at h
  omega

theorem State.cstate_armed_same (s : State) (c : Nat) : (s.setCState c 2 0).cstate c = 2 :=
  (State.get_mirrorAll _ _ _ _ _ _ _ (ctxKey_ne_mirrorBytes c (by decide))).trans (s.get_put_same _ 2)

theorem State.cstate_armed_ne (s : State) {c d : Nat} (h : d ≠ c) : (s.setCState c 2 0).cstate d = s.cstate d :=
  s.get_armed c (fun e => h (ctxState_inj e)) (ctxKey_ne_mirrorBytes d (by decide))

@[simp] theorem State.armed_ctx (s : State) (c d : Nat) : (s.setCState c 2 0).ctx d = s.ctx d := by
  obtain ⟨_, _, _, _, h⟩ := s.armed_shape c
  rw [h]
  rfl

/-! ### Every DRAINING context is looked at (R408) -/

/-- Context `c` is not DRAINING with nothing in progress. -/
def SettledAt (s : State) (c : Nat) : Prop := s.cstate c = 4 → (s.ctx c).drainBusy = true

theorem State.settleOne_cases (s : State) (c : Nat) :
    (s.settleOne c = s ∧ SettledAt s c) ∨ s.settleOne c = s.setCState c 2 0 := by
  unfold State.settleOne
  split
  · exact .inr rfl
  · rename_i idle
    exact .inl ⟨rfl, fun h4 => by simpa [h4] using idle⟩

/-- The context looked at is settled. -/
theorem settledAt_settleOne_same (s : State) (c : Nat) : SettledAt (s.settleOne c) c := by
  rcases s.settleOne_cases c with ⟨h, settled⟩ | h
  · rwa [h]
  · intro h4
    rw [h, s.cstate_armed_same c] at h4
    contradiction

/-- A context that is settled stays so while another is looked at. -/
theorem settledAt_settleOne (s : State) {c : Nat} (d : Nat) (hc : SettledAt s c) : SettledAt (s.settleOne d) c := by
  by_cases hd : c = d
  · exact hd ▸ settledAt_settleOne_same s c
  · rcases s.settleOne_cases d with ⟨h, -⟩ | h
    · rwa [h]
    · rw [h]
      unfold SettledAt
      rwa [s.cstate_armed_ne hd, s.armed_ctx]

/-- Once a list of contexts has been looked at, those of the list and those settled before are settled. -/
theorem settledAt_foldl_settleOne (l : List Nat) (s : State) {c : Nat} (h : c ∈ l ∨ SettledAt s c) :
    SettledAt (l.foldl State.settleOne s) c := by
  induction l generalizing s with
  | nil => exact h.resolve_left (by simp)
  | cons d r ih =>
    refine ih (s.settleOne d) ?_
    rcases h with hmem | hset
    · rcases List.mem_cons.1 hmem with rfl | hr
      · exact .inr (settledAt_settleOne_same s c)
      · exact .inl hr
    · exact .inr (settledAt_settleOne s d hset)

/-- A value that is not the default is listed. -/
theorem mem_of_tblGet_ne {α : Type} {d : α} {t : Tbl α} {q : Nat} (h : tblGet d t q ≠ d) : (q, tblGet d t q) ∈ t := by
  induction t with
  | nil => exact absurd rfl h
  | cons p r ih =>
    obtain ⟨k, v⟩ := p
    by_cases hk : k = q
    · subst hk
      simp [tblGet, tblFind]
    · have rest : tblGet d ((k, v) :: r) q = tblGet d r q := by simp [tblGet, tblFind, hk]
      rw [rest] at h ⊢
      exact List.mem_cons_of_mem _ (ih h)

/-- A context is FREE by default (R410). -/
theorem objDefault_ctxState {c : Nat} (hc : c < 1024) : objDefault (ctxKey c O_CTX_STATE) = 0 := by
  have row : normKey O_CTX_STATE = O_CTX_STATE := by decide
  have same : objDefault (ctxKey c O_CTX_STATE) = objDefault O_CTX_STATE := by
    unfold objDefault
    rw [normKey_ctx hc (by decide) (by decide), row]
  rw [same]
  decide +kernel

/-- A DRAINING context is among those that the end of a command looks at. -/
theorem State.mem_ctxsIn_draining {s : State} {c : Nat} (hc : c < 1024) (h4 : s.cstate c = 4) : c ∈ s.ctxsIn 4 := by
  have draining : s.get (ctxKey c O_CTX_STATE) = 4 := h4
  have named : s.get (ctxKey c O_CTX_STATE) ≠ objDefault (ctxKey c O_CTX_STATE) := by
    rw [draining, objDefault_ctxState hc]
    decide
  have listed : (0x800001 + c * 4096, 4) ∈ s.objs := draining ▸ mem_of_tblGet_ne named
  refine List.mem_map.2 ⟨_, List.mem_filter.2 ⟨listed, ?_⟩, ?_⟩
  · simp only [O_CTX_STATE, Bool.and_eq_true, beq_iff_eq, decide_eq_true_eq, and_true]
    omega
  · show (0x800001 + c * 4096 - 0x800000) / 4096 = c
    omega

theorem settled_settle (s : State) : Settled s.settle := fun c hc =>
  settledAt_foldl_settleOne (s.ctxsIn 4) s <| by
    by_cases h4 : s.cstate c = 4
    · exact .inl (State.mem_ctxsIn_draining hc h4)
    · exact .inr fun h => absurd h h4

/-! ### What follows at the end of a command moves no context -/

theorem settled_congr {s t : State} (hstate : ∀ c, t.cstate c = s.cstate c) (hctx : ∀ c, t.ctx c = s.ctx c)
    (h : Settled s) : Settled t := by
  intro c hc h4
  rw [hctx]
  exact h c hc ((hstate c).symm.trans h4)

theorem settled_mapAfter {s t : State} (h : Settled t) : Settled (State.mapAfter s t) := by
  unfold State.mapAfter
  split
  · exact h
  · exact settled_congr (fun _ => rfl) (fun _ => rfl) h

theorem settled_sendNotice {t : State} (h : Settled t) : Settled t.sendNotice := by
  refine settled_congr (fun c => t.get_sendNotice (engKey_ne (by decide) (by decide)).symm) (fun c => ?_) h
  obtain ⟨_, _, e⟩ := t.sendNotice_shape
  rw [e]
  rfl

theorem settled_noticeAfter {s t : State} (h : Settled t) : Settled (State.noticeAfter s t) := by
  unfold State.noticeAfter
  split
  · split
    · exact settled_sendNotice h
    · exact settled_congr (fun _ => rfl) (fun _ => rfl) h
  · exact h

theorem settled_ended (s t : State) : Settled (ended s t) :=
  have noticed : Settled (State.noticeAfter s (State.mapAfter s t.settle)) :=
    settled_noticeAfter (settled_mapAfter (settled_settle t))
  settled_congr (fun _ => rfl) (fun _ => rfl) noticed

/-- Settles O30: a command leaves no idle DRAINING context, whatever it was given; the block that idles leaves what it
was given. -/
theorem stepKeepsSettled : Obligations.StepKeepsSettled := by
  intro s t hs hstep
  unfold step at hstep
  split at hstep
  · cases hstep
    exact hs
  · rename_i i rest _
    obtain ⟨u, hu⟩ := exec_ends i { s with pending := rest }
    rw [hu] at hstep
    cases hstep
    exact settled_ended _ u

/-! ### Reset (R319, R408) -/

/-- At reset every context is FREE. -/
theorem cstate_reset {c : Nat} (hc : c < 1024) : State.reset.cstate c = 0 := by
  have unlisted : tblFind State.reset.objs (ctxKey c O_CTX_STATE) = none := by
    have other : O_ATTEMPTS ≠ ctxKey c O_CTX_STATE := engKey_ne (by decide) (by decide)
    simp [State.reset, tblFind, other]
  show tblGet (objDefault (ctxKey c O_CTX_STATE)) State.reset.objs (ctxKey c O_CTX_STATE) = 0
  rw [tblGet, unlisted, Option.getD_none, objDefault_ctxState hc]

/-- Settles O29: no context is DRAINING, and no byte of memory is listed. -/
theorem resetMeetsInvariants : Obligations.ResetMeetsInvariants :=
  ⟨fun _ hc h4 => absurd ((cstate_reset hc).symm.trans h4) (by decide), rfl⟩

end Sys2Proof.Machine
end

section
/-! Proofs of the statements about COMPLETED and the marks of a descriptor that has ended (R386, R387, R393). -/

namespace Sys2Proof.Machine

open Sys2Proof

/-! ### A run of ended descriptors (R387) -/

/-- COMPLETED comes to stand after a run of ended descriptors, which is as long as it can be or as it may be. -/
theorem completedAfter_run (n : Nat) (l : List Nat) (i : Nat) (hi : i < 2 ^ 32) :
    ∃ m, completedAfter n l i = (i + m) % 2 ^ 32 ∧ (∀ k, k < m → (i + k) % 2 ^ 32 ∈ l) ∧
      (m = n ∨ (i + m) % 2 ^ 32 ∉ l) := by
  induction n generalizing i with
  | zero => exact ⟨0, (Nat.mod_eq_of_lt hi).symm, by simp, .inl rfl⟩
  | succ n ih =>
    have first : (i + 0) % 2 ^ 32 = i := Nat.mod_eq_of_lt hi
    by_cases hmem : i ∈ l
    · obtain ⟨m, hend, hrun, hstop⟩ := ih ((i + 1) % 2 ^ 32) (Nat.mod_lt _ (by decide))
      have next (k : Nat) : ((i + 1) % 2 ^ 32 + k) % 2 ^ 32 = (i + (k + 1)) % 2 ^ 32 := by omega
      refine ⟨m + 1, ?_, fun k hk => ?_, ?_⟩
      · simp only [completedAfter, List.contains_iff_mem, hmem, if_true, hend, next]
      · cases k with
        | zero => rwa [first]
        | succ k => exact next k ▸ hrun k (Nat.lt_of_succ_lt_succ hk)
      · exact hstop.imp (congrArg (· + 1)) (next m ▸ ·)
    · exact ⟨0, by simp only [completedAfter, List.contains_iff_mem, hmem, if_false, first], by simp,
        .inr (by rwa [first])⟩

theorem completedAfter_notMem (n : Nat) {l : List Nat} {i : Nat} (h : i ∉ l) : completedAfter n l i = i := by
  cases n <;> simp [completedAfter, h]

/-! ### The objects that a ring operation moves -/

theorem State.get_cow_ne (s : State) (q n : Nat) {k : Nat} (hk : k ≠ O_COW_STALLS) : (s.cow q n).get k = s.get k := by
  unfold State.cow
  split
  · rfl
  · split
    · rfl
    · rename_i j hj _
      clear hj
      generalize List.filter _ _ = chunks
      induction chunks generalizing s with
      | nil => rfl
      | cons ch rest ih =>
        rw [List.foldl_cons, ih]
        split
        · rename_i j _
          obtain ⟨_, _, _, hcopy⟩ := s.copyChunk_shape j ch
          rw [State.get_bump_ne _ _ hk, hcopy]
          rfl
        · rfl

/-- Of the objects a write of memory moves the counter of a checkpoint's stalls alone (R500). -/
theorem State.get_wr_ne (s : State) (a : Nat) (bs : Bytes) {k : Nat} (hk : k ≠ O_COW_STALLS) :
    (s.wr a bs).get k = s.get k :=
  s.get_cow_ne (addrKey a) bs.length hk

theorem State.cget_wr (s : State) (a : Nat) (bs : Bytes) (c : Nat) {k : Nat} (hk : 0x800000 ≤ k) :
    (s.wr a bs).cget c k = s.cget c k :=
  s.get_wr_ne a bs (engKey_ne (by decide) hk).symm

theorem State.cget_cput_same (s : State) (c k v : Nat) : (s.cput c k v).cget c k = v := s.get_put_same _ v

theorem State.cget_cput_ne (s : State) (c d v : Nat) {j k : Nat} (h : j % 4096 ≠ k % 4096) :
    (s.cput c k v).cget d j = s.cget d j :=
  s.get_put_ne v (ctxKey_ne h)

/-- Of a context's objects only RING_STATE moves when a ring is brought up to date. -/
theorem State.cget_syncRing (s : State) (c d : Nat) {k : Nat} (hk : 0x800000 ≤ k)
    (hstate : k % 4096 ≠ O_RING_STATE % 4096) : (s.syncRing c).cget d k = s.cget d k := by
  have put := s.cget_cput_ne c d (s.ringStateOf c) hstate
  unfold State.syncRing
  dsimp only
  split
  · exact put
  · exact (State.cget_wr _ _ _ d hk).trans put

theorem State.cget_mirrorAll (s : State) (kind : MirrorKind) (c : Nat) (vals : List (Nat × Nat)) (nums : List Nat)
    (images : List (Nat × Bytes)) (ledger : Option Ledger) (d : Nat) {k : Nat} (hk : 0x800000 ≤ k) :
    (s.mirrorAll kind c vals nums images ledger).cget d k = s.cget d k :=
  s.get_mirrorAll kind c vals nums images ledger (ctxKey_ne_mirrorBytes d hk)

theorem State.cget_setIndices (s : State) (c cons comp : Nat) {k : Nat} (hk : 0x800000 ≤ k)
    (hstate : k % 4096 ≠ O_RING_STATE % 4096) :
    (s.setIndices c cons comp).cget c k = ((s.cput c O_CONSUMER cons).cput c O_COMPLETED comp).cget c k :=
  (State.cget_mirrorAll _ _ _ _ _ _ _ c hk).trans (State.cget_syncRing _ c c hk hstate)

theorem State.completed_setIndices (s : State) (c cons comp : Nat) : (s.setIndices c cons comp).cget c O_COMPLETED = comp :=
  (s.cget_setIndices c cons comp (by decide) (by decide)).trans (State.cget_cput_same _ c O_COMPLETED comp)

theorem State.completed_advance (s : State) (c : Nat) :
    (s.advance c).cget c O_COMPLETED
      = completedAfter (s.ctx c).ring.ended.length (s.ctx c).ring.ended (s.cget c O_COMPLETED) := by
  unfold State.advance
  dsimp only
  split
  · rename_i stays
    rw [State.cget_syncRing _ _ _ (by decide) (by decide)]
    exact (beq_iff_eq.1 stays).symm
  · exact State.completed_setIndices _ _ _ _

/-- Settles O40: the run is as long as the list of ended descriptors lets it be. -/
theorem completedFollowsEndedRun : Obligations.CompletedFollowsEndedRun := by
  refine ⟨fun _ _ _ => rfl, fun s c _ hlt => ?_, fun s c _ hout => ?_⟩
  · rw [s.completed_advance c]
    exact completedAfter_run _ _ _ hlt
  · rw [s.completed_advance c, completedAfter_notMem _ hout]

/-! ### The STATUS and DONE bytes of a slot (R387, R393) -/

/-- A write of memory begins no checkpoint. -/
theorem State.ckpt_wr {s : State} (a : Nat) (bs : Bytes) (hck : s.ckpt = none) : (s.wr a bs).ckpt = none := by
  simp [State.wr, State.cow, State.unpoison, hck]

theorem State.slotAddr_wr (s : State) (a : Nat) (bs : Bytes) (c i : Nat) : (s.wr a bs).slotAddr c i = s.slotAddr c i := by
  unfold State.slotAddr
  rw [s.cget_wr a bs c (by decide), s.cget_wr a bs c (by decide)]

section Slot

variable {s : State} {c : Nat} (i : Nat) (hn : 0 < s.cget c O_RING_ENTRIES)
  (hfit : s.cget c O_RING_BASE + 64 + 64 * s.cget c O_RING_ENTRIES < 2 ^ 49)

include hn hfit

/-- The bytes of a slot lie at their addresses in memory. -/
theorem State.addrKey_slot {j : Nat} (hj : j < 64) : addrKey (s.slotAddr c i + j) = s.slotAddr c i + j := by
  have hslot := Nat.mod_lt i hn
  unfold addrKey State.slotAddr
  omega

/-- The ring header ends before the slots begin. -/
theorem State.header_before_slot : addrKey (s.cget c O_RING_BASE + 8) + 9 ≤ s.slotAddr c i := by
  unfold addrKey State.slotAddr
  omega

/-- A descriptor marked as ended holds its status in byte 2 and 01h in byte 3. -/
theorem State.memByte_writeStatus (code : Nat) (hck : s.ckpt = none) :
    memByte (s.writeStatus c i code true).mem (s.slotAddr c i + 2) = BitVec.ofNat 8 code ∧
      memByte (s.writeStatus c i code true).mem (s.slotAddr c i + 3) = 1 := by
  have bytes : (s.writeStatus c i code true).mem
      = memSets (memSets s.mem (s.slotAddr c i + 2) (leBytes 1 code)) (s.slotAddr c i + 3) (leBytes 1 1) := by
    unfold State.writeStatus
    dsimp only
    rw [if_pos rfl, State.wr_mem _ _ _ (s.ckpt_wr _ _ hck), State.wr_mem _ _ _ hck, s.slotAddr_wr,
      State.addrKey_slot i hn hfit (by decide), State.addrKey_slot i hn hfit (by decide)]
  rw [bytes]
  refine ⟨?_, memByte_sets_in _ _ (leBytes 1 1) (i := 0) (by decide)⟩
  rw [memByte_sets_out _ _ _ (by omega)]
  exact memByte_sets_in _ _ (leBytes 1 code) (i := 0) (by simp [leBytes])

end Slot

/-! ### What the ring's own bookkeeping leaves alone (R386, R387)

It writes the engine's bytes of the ring header, and of a context's objects RING_STATE, CONSUMER and COMPLETED. -/

/-- From `s` to `t`, with no checkpoint under way, only the engine's nine bytes of the header of ring `c` and the objects of
the ring's indices and state have moved. -/
structure HeaderOnly (c : Nat) (s t : State) : Prop where
  ckpt : t.ckpt = none
  mem : KeepsMemoryBut s t (addrKey (s.cget c O_RING_BASE + 8)) 9
  objs : ∀ k, 0x800000 ≤ k → k % 4096 ∉ [O_RING_STATE % 4096, O_CONSUMER % 4096, O_COMPLETED % 4096] →
    t.cget c k = s.cget c k

namespace HeaderOnly

variable {c : Nat} {s t u : State}

theorem base (h : HeaderOnly c s t) : t.cget c O_RING_BASE = s.cget c O_RING_BASE := h.objs _ (by decide) (by decide)

theorem trans (h : HeaderOnly c s t) (k : HeaderOnly c t u) : HeaderOnly c s u :=
  ⟨k.ckpt, fun a ha => (k.mem a (by rwa [h.base])).trans (h.mem a ha),
    fun j hj hring => (k.objs j hj hring).trans (h.objs j hj hring)⟩

/-- What touches neither memory nor objects. -/
theorem of_eq (hck : s.ckpt = none) (hckpt : t.ckpt = s.ckpt) (hmem : t.mem = s.mem) (hobjs : t.objs = s.objs) :
    HeaderOnly c s t :=
  ⟨hckpt.trans hck, fun a _ => by rw [hmem], fun k _ _ => State.cget_congr hobjs c k⟩

theorem refl (hck : s.ckpt = none) : HeaderOnly c s s := of_eq hck rfl rfl rfl

theorem ite {p : Prop} [Decidable p] (h : HeaderOnly c s t) (k : HeaderOnly c s u) :
    HeaderOnly c s (if p then t else u) := by
  split
  · exact h
  · exact k

theorem modRing (hck : s.ckpt = none) (f : Ring → Ring) : HeaderOnly c s (s.modRing c f) := of_eq hck rfl rfl rfl

theorem cput (hck : s.ckpt = none) {k : Nat} (v : Nat)
    (hk : k % 4096 ∈ [O_RING_STATE % 4096, O_CONSUMER % 4096, O_COMPLETED % 4096]) : HeaderOnly c s (s.cput c k v) :=
  ⟨hck, fun _ _ => rfl, fun _ _ hj => s.cget_cput_ne c c v fun e => hj (e ▸ hk)⟩

theorem wrHeader (hck : s.ckpt = none) {bs : Bytes} (hlen : bs.length = 9) :
    HeaderOnly c s (s.wr (s.cget c O_RING_BASE + 8) bs) :=
  ⟨State.ckpt_wr _ bs hck, hlen ▸ s.keepsMemoryBut_wr _ bs hck, fun _ hk _ => s.cget_wr _ bs c hk⟩

theorem syncRing (hck : s.ckpt = none) : HeaderOnly c s (s.syncRing c) :=
  have put : HeaderOnly c s (s.cput c O_RING_STATE (s.ringStateOf c)) := cput hck _ (by decide)
  put.trans (ite (refl put.ckpt) (wrHeader put.ckpt (by simp [leBytes_length])))

theorem mirrorAll (hck : s.ckpt = none) (kind : MirrorKind) (vals : List (Nat × Nat)) (nums : List Nat)
    (images : List (Nat × Bytes)) (ledger : Option Ledger) :
    HeaderOnly c s (s.mirrorAll kind c vals nums images ledger) := by
  refine ⟨?_, fun a _ => ?_, fun k hk _ => s.cget_mirrorAll kind c vals nums images ledger c hk⟩
  all_goals
    obtain ⟨_, _, _, _, h⟩ := s.mirrorAll_shape kind c vals nums images ledger
    rw [h]
  exact hck

theorem setIndices (hck : s.ckpt = none) (cons comp : Nat) : HeaderOnly c s (s.setIndices c cons comp) := by
  have consumer : HeaderOnly c s (s.cput c O_CONSUMER cons) := cput hck cons (by decide)
  have both : HeaderOnly c s ((s.cput c O_CONSUMER cons).cput c O_COMPLETED comp) :=
    consumer.trans (cput consumer.ckpt comp (by decide))
  have synced := both.trans (syncRing both.ckpt)
  exact synced.trans (mirrorAll synced.ckpt _ _ _ _ _)

theorem advance (hck : s.ckpt = none) : HeaderOnly c s (s.advance c) := by
  unfold State.advance
  extract_lets r old new passed
  have dropped : HeaderOnly c s passed := modRing hck _
  exact ite (syncRing hck) (dropped.trans (setIndices dropped.ckpt _ _))

theorem pauseRing (hck : s.ckpt = none) (onDesc : Bool) : HeaderOnly c s (s.pauseRing c onDesc) :=
  (modRing hck _).trans (syncRing hck)

end HeaderOnly

/-! ### The end of a descriptor (R393, R395) -/

/-- A descriptor marked as ended: STATUS and DONE in its slot, and COMMAND_ERROR for a status other than 00h and 26h. -/
def State.markEnded (s : State) (c i code : Nat) : State :=
  if code != 0 && code != 0x26 then (s.writeStatus c i code true).craise c O_SQ_FLAGS 2 else s.writeStatus c i code true

theorem State.markEnded_mem (s : State) (c i code : Nat) :
    (s.markEnded c i code).mem = (s.writeStatus c i code true).mem := by
  unfold State.markEnded
  split <;> rfl

theorem State.markEnded_ckpt {s : State} (c i code : Nat) (hck : s.ckpt = none) : (s.markEnded c i code).ckpt = none := by
  have written : (s.writeStatus c i code true).ckpt = none := State.ckpt_wr _ _ (s.ckpt_wr _ _ hck)
  unfold State.markEnded
  split <;> exact written

theorem State.cget_markEnded (s : State) (c i code : Nat) {k : Nat} (hk : 0x800000 ≤ k)
    (hflags : k % 4096 ≠ O_SQ_FLAGS % 4096) : (s.markEnded c i code).cget c k = s.cget c k := by
  have written : (s.writeStatus c i code true).cget c k = s.cget c k :=
    (State.cget_wr _ _ _ c hk).trans (s.cget_wr _ _ c hk)
  unfold State.markEnded
  split
  · exact (State.get_raise_ne _ 2 (ctxKey_ne hflags)).trans written
  · exact written

/-- After the marks only the ring's bookkeeping follows. -/
theorem HeaderOnly.endDesc {s : State} (c i code : Nat) (hck : s.ckpt = none) :
    HeaderOnly c (s.markEnded c i code) (s.endDesc c i code) :=
  have listed := HeaderOnly.modRing (c := c) (State.markEnded_ckpt c i code hck) _
  have moved := listed.trans (HeaderOnly.advance listed.ckpt)
  moved.trans (.ite (HeaderOnly.pauseRing moved.ckpt false) (.refl moved.ckpt))

/-- Settles O41: the marks stand where the ring's bookkeeping does not write. -/
theorem endedDescriptorIsMarked : Obligations.EndedDescriptorIsMarked := by
  intro s c i code _ hck _ hn hfit
  have only := HeaderOnly.endDesc c i code hck
  have base : (s.markEnded c i code).cget c O_RING_BASE = s.cget c O_RING_BASE :=
    s.cget_markEnded c i code (by decide) (by decide)
  have header := State.header_before_slot i hn hfit
  have kept (j : Nat) : memByte (s.endDesc c i code).mem (s.slotAddr c i + j)
      = memByte (s.writeStatus c i code true).mem (s.slotAddr c i + j) := by
    rw [only.mem _ (by rw [base]; omega), s.markEnded_mem]
  obtain ⟨status, done⟩ := State.memByte_writeStatus i hn hfit code hck
  rw [State.addrKey_slot i hn hfit (by decide), State.addrKey_slot i hn hfit (by decide), kept, kept]
  refine ⟨status, done, fun h0 h26 => ?_⟩
  have raised : bitSet (s.markEnded c i code) (ctxKey c O_SQ_FLAGS) 2 := by
    rw [State.markEnded, if_pos (by simp [h0, h26])]
    exact State.raise_bit _ _ 2
  exact (congrArg (· / 2 ^ 2 % 2) (only.objs O_SQ_FLAGS (by decide) (by decide))).trans raised

end Sys2Proof.Machine
end

section
/-! Proofs of the statements about the sequencer's own commands, completed or refused (R252, R255, R265, R396, R400, R403 to
R406). -/

namespace Sys2Proof.Machine

open Sys2Proof

/-! ### The sequencer's own commands in front of a ring, with every check passed -/

section Front

variable {s : State} {c i : Nat} {d : Bytes}

theorem exec_nop (hat : AtFront s c i d 0x00 (bareChecks s c d)) :
    exec (.nop c) s = .next (ended s ((s.accept c i d).endDesc c i 0)) := by
  show execNop c s = _
  rw [execNop, s.takeFront_atFront hat (by decide), issueNop, s.issueDesc_atFront hat (by decide), finish_next]

theorem exec_fence (hat : AtFront s c i d 0x35 (bareChecks s c d)) :
    exec (.fence c) s = .next (ended s ((s.accept c i d).hold c (.fence i (s.accept c i d).nextId))) := by
  show execFence c s = _
  rw [execFence, s.takeFront_atFront hat (by decide), issueFence, s.issueDesc_atFront hat (by decide), finish_next]

/-- Both modes of WAIT_BEAT hold the ring up to the boundary that the mode names (R403). -/
theorem finish_waitBeat_atFront {mine : Bytes → Bool} (hat : AtFront s c i d 0x31 (waitChecks s c d))
    (hmine : mine d = true) :
    finish s (s.takeFront c mine fun i d => issueWaitBeat s c i d)
      = .next (ended s ((s.accept c i d).hold c (.waitBeat i ((s.accept c i d).waitTarget d)))) := by
  obtain ⟨hfront, hop, -⟩ := id hat
  have known : opcodes.contains (fld d 0 1) = true := by rw [hop]; decide
  rw [s.takeFront_mine _ hfront known hmine, issueWaitBeat, s.issueDesc_atFront hat (by decide), finish_next]

theorem exec_waitBeatAbsolute (hat : AtFront s c i d 0x31 (waitChecks s c d)) (hmode : fld d 24 1 = 0) :
    exec (.waitBeatAbsolute c) s
      = .next (ended s ((s.accept c i d).hold c (.waitBeat i ((s.accept c i d).waitTarget d)))) := by
  obtain ⟨-, hop, -⟩ := id hat
  exact finish_waitBeat_atFront hat (by simp [hop, hmode])

theorem exec_waitBeatRelative (hat : AtFront s c i d 0x31 (waitChecks s c d)) (hmode : fld d 24 1 = 1) :
    exec (.waitBeatRelative c) s
      = .next (ended s ((s.accept c i d).hold c (.waitBeat i ((s.accept c i d).waitTarget d)))) := by
  obtain ⟨-, hop, -⟩ := id hat
  exact finish_waitBeat_atFront hat (by simp [hop, hmode])

/-- When every check of LOOP_MEM passes, those of its operands do, and the count is within the trip limit (R406). -/
theorem loopChecks_pass (h : firstCode (loopChecks s c i d) = none) :
    firstCode (loopEarly s c d) = none ∧ s.rdNat (fld d 16 8) 4 ≤ s.cget c O_LOOP_TRIP_MAX := by
  obtain ⟨hshape, hlimits⟩ := (firstCode_append _ _).1 h
  obtain ⟨hearly, -⟩ := (firstCode_append _ _).1 hshape
  obtain ⟨htrips, -⟩ := (firstCode_cons _ _).1 hlimits
  exact ⟨hearly, by simpa using (need_none _ _).1 htrips⟩

/-- LOOP_MEM is entered once PRODUCER covers its body, no earlier command writes memory and its count reads well (R187). -/
theorem exec_loopMem (hat : AtFront s c i d 0x33 (loopChecks s c i d))
    (hcovered : fld d 24 2 ≤ idxDiff (s.ctx c).ring.producer i) (hquiet : (s.ctx c).writing = false)
    (hclean : s.isPoisoned (fld d 16 8) 4 = false) :
    exec (.loopMem c) s
      = .next (ended s (enterLoop (s.accept c i d) c i (fld d 24 2) (s.rdNat (fld d 16 8) 4))) := by
  obtain ⟨-, -, hpass⟩ := id hat
  obtain ⟨hearly, htrips⟩ := loopChecks_pass hpass
  show execLoopMem c s = _
  rw [execLoopMem, s.takeFront_atFront hat (by decide), issueLoopMem]
  simp only [hearly, hquiet, hclean, Nat.not_lt.2 hcovered, gt_iff_lt, Nat.not_lt.2 htrips, decide_false, Bool.and_false,
    Bool.or_false, Option.isSome_none, Bool.false_eq_true, if_false]
  rw [s.issueDesc_atFront hat (by decide), finish_next]

theorem exec_endLoop {l : LoopFrame} (hat : AtFront s c i d 0x34 (endLoopChecks s c i d))
    (hloop : (s.ctx c).ring.loops.head? = some l) :
    exec (.endLoop c) s = .next (ended s (endIteration (s.accept c i d) c i l)) := by
  show execEndLoop c s = _
  rw [execEndLoop, s.takeFront_atFront hat (by decide), issueEndLoop, s.issueDesc_atFront hat (by decide), hloop,
    finish_next]

theorem exec_cancelBatch {w : Window} (hat : AtFront s c i d 0x40 (cancelChecks s c d))
    (hopen : ((s.accept c i d).ctx c).findOpen (fld d 16 4) = some w)
    (hearly : w.deadlineDue (s.accept c i d).beat = false) :
    exec (.cancelBatch c) s = .next (ended s (((s.accept c i d).abandon c w 0x26).endDesc c i 0)) := by
  show execCancelBatch c s = _
  rw [execCancelBatch, s.takeFront_atFront hat (by decide), issueCancelBatch, s.issueDesc_atFront hat (by decide),
    State.cancelTag, hopen, finish_next]
  simp only [hearly, Bool.false_eq_true, if_false]

theorem exec_stepMark (hat : AtFront s c i d 0x30 (markChecks s c d)) :
    exec (.stepMark c) s
      = .next (ended s ((((s.accept c i d).modRing c fun r =>
            { r with step := fld d 16 8, stepped := true, afterLaunchAt := none }).modCtx c fun x =>
            { x with mbCounts := x.mbCounts.filter fun p => p.1 != fld d 16 8 }).hold c
          (.stepMark i (fld d 16 8)
            ((s.ctx c).ring.afterLaunchAt.getD
              ((((s.accept c i d).modRing c fun r =>
                { r with step := fld d 16 8, stepped := true, afterLaunchAt := none }).modCtx c fun x =>
                { x with mbCounts := x.mbCounts.filter fun p => p.1 != fld d 16 8 }).beat + 1))
            (fld d 24 1 % 2 == 1)))) := by
  show execStepMark c s = _
  rw [execStepMark, s.takeFront_atFront hat (by decide), issueStepMark]
  dsimp only
  rw [s.issueDesc_atFront hat (by decide), finish_next]

/-- A LAUNCH_AT whose beat has not begun holds the ring up to it (R255). -/
theorem exec_launchAt (hat : AtFront s c i d 0x32 (launchChecks s c i d))
    (hahead : (s.accept c i d).beat < fld d 16 8) :
    exec (.launchAt c) s = .next (ended s ((s.accept c i d).hold c (.launchAt i (fld d 16 8) false))) := by
  show execLaunchAt c s = _
  rw [execLaunchAt, s.takeFront_atFront hat (by decide), issueLaunchAt, s.issueDesc_atFront hat (by decide),
    if_pos hahead, finish_next]

end Front

/-- Settles O4: one lemma for each command; the modes of WAIT_BEAT share the issue. -/
theorem sequencerCommandsComplete : Obligations.SequencerCommandsComplete :=
  ⟨fun _ _ _ _ => exec_nop, fun _ _ _ _ => exec_fence, fun _ _ _ _ => exec_waitBeatAbsolute,
    fun _ _ _ _ => exec_waitBeatRelative, fun _ _ _ _ => exec_loopMem, fun _ _ _ _ _ => exec_endLoop,
    fun _ _ _ _ _ => exec_cancelBatch, fun _ _ _ _ => exec_stepMark, fun _ _ _ _ => exec_launchAt⟩

/-! ### Refusals (R400) -/

section Refused

variable {s : State} {c i : Nat} {d : Bytes} {mine : Bytes → Bool} {go : Nat → Bytes → State}
  (hf : s.front c = some (i, d))

include hf

/-- A command in front that is issued and fails a check is refused with the code of the first that fails. -/
theorem finish_takeFront_refused {op code : Nat} {checks : List (Option Nat)} {run : State → State}
    (hop : fld d 0 1 = op) (hknown : op ∈ opcodes) (hmine : mine d = true)
    (hgo : go i d = s.issueDesc c i d checks run) (hc : firstCode checks = some code) :
    finish s (s.takeFront c mine go) = .next (ended s (s.refuseCmd c i d code)) := by
  have known : opcodes.contains (fld d 0 1) = true := by rwa [hop, List.contains_iff_mem]
  rw [s.takeFront_mine go hf known hmine, hgo, s.issueDesc_fail run known hc, finish_next]

/-- An opcode that no command has is refused by whichever command takes the descriptor. -/
theorem finish_takeFront_unknown (hop : fld d 0 1 ∉ opcodes) :
    finish s (s.takeFront c mine go) = .next (ended s (s.refuseCmd c i d 0x13)) := by
  rw [s.takeFront_unknown mine go hf (by simpa using hop), finish_next]

end Refused

/-- Settles O36: each command issues its descriptor with its own checks, a layer command when there is room for a window and
a COLLECTIVE when none is in progress. -/
theorem ringCommandsRefuse : Obligations.RingCommandsRefuse := by
  refine ⟨?nop, ?fence, ?waitBeat, ?cancelBatch, ?stepMark, ?layerFwd, ?reduceScatter, ?unknown⟩
  case nop =>
    intro s c i d code hf hop hc
    exact finish_takeFront_refused hf hop (by decide) (by simp [hop]) (by rw [issueNop]) hc
  case fence =>
    intro s c i d code hf hop hc
    exact finish_takeFront_refused hf hop (by decide) (by simp [hop]) (by rw [issueFence]) hc
  case waitBeat =>
    intro s c i d code hf hop hmode hc
    exact finish_takeFront_refused hf hop (by decide) (by simp [hop, hmode]) (by rw [issueWaitBeat]) hc
  case cancelBatch =>
    intro s c i d code hf hop hc
    exact finish_takeFront_refused hf hop (by decide) (by simp [hop]) (by rw [issueCancelBatch]) hc
  case stepMark =>
    intro s c i d code hf hop hc
    exact finish_takeFront_refused hf hop (by decide) (by simp [hop]) (by rw [issueStepMark]) hc
  case layerFwd =>
    intro s c i d code hf hop hroom hc
    exact finish_takeFront_refused hf hop (by decide) (by simp [hop])
      (by rw [issueLayerFwd, hroom, if_neg Bool.false_ne_true]) hc
  case reduceScatter =>
    intro s c i d code hf hop hkind hfree hc
    exact finish_takeFront_refused hf hop (by decide) (by simp [isColl, hop, hkind])
      (by rw [issueCollective, hfree, if_neg (by decide)]) hc
  case unknown =>
    exact fun _ _ _ _ hf hop =>
      ⟨finish_takeFront_unknown hf hop, finish_takeFront_unknown hf hop, finish_takeFront_unknown hf hop⟩

end Sys2Proof.Machine
end

section
/-! Proofs of the statements about the control writes of a context and of its ring (R402, R408, R409, R536, R537). -/

namespace Sys2Proof.Machine

open Sys2Proof

/-! ### CTX_CTRL and RING_CTRL as action objects (R536) -/

/-- The row of CTX_CTRL. -/
def ctxCtrlRow : ObjInfo := ⟨.u8, 2, .cond, .action 7⟩

theorem objAt_ctxCtrl {c : Nat} (hc : c < 1024) :
    objAt (ctxKey c O_CTX_CTRL / 256) (ctxKey c O_CTX_CTRL % 256) = some ctxCtrlRow := by
  rw [objAt_ctx hc (by decide) (by decide)]
  decide +kernel

/-- The row of RING_CTRL. -/
def ringCtrlRow : ObjInfo := ⟨.u8, 2, .cond, .action 3⟩

theorem objAt_ringCtrl {c : Nat} (hc : c < 1024) :
    objAt (ctxKey c O_RING_CTRL / 256) (ctxKey c O_RING_CTRL % 256) = some ringCtrlRow := by
  rw [objAt_ctx hc (by decide) (by decide)]
  decide +kernel

section Ctx

variable {s : State} {p : Path} {c v : Nat} (a : Around) (hc : c < 1024) (hv : v < 256)

include hc hv

/-- Past its checks, a write of an action object of a context is the object's own write. -/
theorem State.writeObj_ctxAction {k : Nat} {i : ObjInfo} (hk : 0x800000 ≤ k) (hk' : k < 0x801000)
    (hrow : i.IsByteAction) (hpass : s.writeCheck p (ctxKey c k) i (leBytes 1 v) = none) :
    s.writeObj p (ctxKey c k) i (leBytes 1 v) a = s.writeCtxObj c k v (leBytes 1 v) i := by
  rw [State.writeObj_action a hrow hv hpass, isCtxObj_ctxKey hc hk hk', if_pos rfl, keyCtx_ctxKey hk hk',
    keyBase_ctxKey hk hk']

theorem State.writeObj_ctxCtrl (hpass : s.writeCheck p (ctxKey c O_CTX_CTRL) ctxCtrlRow (leBytes 1 v) = none) :
    s.writeObj p (ctxKey c O_CTX_CTRL) ctxCtrlRow (leBytes 1 v) a = ctlCtx s c v :=
  State.writeObj_ctxAction a hc hv (by decide) (by decide) ⟨rfl, 7, rfl⟩ hpass

theorem State.writeObj_ringCtrl (hpass : s.writeCheck p (ctxKey c O_RING_CTRL) ringCtrlRow (leBytes 1 v) = none) :
    s.writeObj p (ctxKey c O_RING_CTRL) ringCtrlRow (leBytes 1 v) a = ctlRing s c v :=
  State.writeObj_ctxAction a hc hv (by decide) (by decide) ⟨rfl, 3, rfl⟩ hpass

end Ctx

section Writes

variable {s t : State} {p : Path} {c : Nat} {i : ObjInfo} (hc : c < 1024) {v : Nat} (hv : v < 256)

include hc hv

/-- A command that writes CTX_CTRL ends in the state that its action leads to (R408). -/
theorem finish_ctxCtrl (h : Acts s p (ctxKey c O_CTX_CTRL) v i (ctlCtx s c v) t) :
    finish s (s.writeKey p (ctxKey c O_CTX_CTRL) (leBytes 1 v) Around.none)
      = .next (written s p (ctxKey c O_CTX_CTRL) (leBytes 1 v) i t) :=
  finish_acts (objAt_ctxCtrl hc) (State.writeObj_ctxCtrl _ hc hv) h

/-- A command that writes RING_CTRL ends in the state that its action leads to (R402). -/
theorem finish_ringCtrl (h : Acts s p (ctxKey c O_RING_CTRL) v i (ctlRing s c v) t) :
    finish s (s.writeKey p (ctxKey c O_RING_CTRL) (leBytes 1 v) Around.none)
      = .next (written s p (ctxKey c O_RING_CTRL) (leBytes 1 v) i t) :=
  finish_acts (objAt_ringCtrl hc) (State.writeObj_ringCtrl _ hc hv) h

end Writes

/-- Settles O21: each command is the write of its value to CTX_CTRL or RING_CTRL, and the value names the action. -/
theorem contextControlCompletes : Obligations.ContextControlCompletes :=
  ⟨fun _ _ _ _ _ hc => finish_ctxCtrl hc (by decide), fun _ _ _ _ _ hc => finish_ctxCtrl hc (by decide),
    fun _ _ _ _ _ hc => finish_ctxCtrl hc (by decide), fun _ _ _ _ _ hc => finish_ctxCtrl hc (by decide),
    fun _ _ _ _ _ hc => finish_ctxCtrl hc (by decide), fun _ _ _ _ _ hc => finish_ctxCtrl hc (by decide),
    fun _ _ _ _ _ hc => finish_ctxCtrl hc (by decide), fun _ _ _ _ _ hc => finish_ringCtrl hc (by decide),
    fun _ _ _ _ _ hc => finish_ringCtrl hc (by decide), fun _ _ _ _ _ hc => finish_ringCtrl hc (by decide)⟩

/-! ### Control writes that the state of the context does not allow (R402, R408) -/

section Conflict

variable {s : State} {c : Nat}

theorem ctlClaim_conflict (h : s.cstate c ≠ 0) : ctlClaim s c = .error 0x21 := by simp [ctlClaim, h]

theorem ctlArm_conflict (h : s.cstate c ≠ 1) : ctlArm s c = .error 0x21 := by simp [ctlArm, h]

theorem ctlDisarm_conflict (h : s.cstate c ≠ 2) : ctlDisarm s c = .error 0x21 := by simp [ctlDisarm, h]

theorem ctlDrain_conflict (h : s.cstate c ≠ 3) : ctlDrain s c = .error 0x21 := by simp [ctlDrain, h]

theorem ctlHalt_conflict (h2 : s.cstate c ≠ 2) (h3 : s.cstate c ≠ 3) (h4 : s.cstate c ≠ 4) :
    ctlHalt s c = .error 0x21 := by simp [ctlHalt, State.working, h2, h3, h4]

theorem ctlResume_conflict (h : s.cstate c ≠ 5) : ctlResume s c = .error 0x21 := by simp [ctlResume, h]

theorem ctlRelease_conflict (h : s.cstate c = 0 ∨ s.cstate c = 3 ∨ s.cstate c = 4 ∨ s.cstate c = 7) :
    ctlRelease s c = .error 0x21 := by
  have busy : ¬ (s.cstate c == 1 || s.cstate c == 2 || s.cstate c == 5 || s.cstate c == 6) = true := by
    simp only [Bool.or_eq_true, beq_iff_eq]
    omega
  exact if_neg busy

variable (hrun : (s.ctx c).ring.paused = false)

include hrun

theorem ctlContinue_conflict : ctlContinue s c = .error 0x21 := by simp [ctlContinue, hrun]

theorem ctlSkip_conflict : ctlSkip s c = .error 0x21 := by simp [ctlSkip, hrun]

theorem ctlFlush_conflict (h : s.cstate c ≠ 5) : ctlFlush s c = .error 0x21 := by simp [ctlFlush, hrun, h]

end Conflict

/-- Settles O45: each action looks first at the state of the context, or at the pause of the ring. -/
theorem contextControlConflicts : Obligations.ContextControlConflicts := fun _ _ =>
  ⟨ctlClaim_conflict, ctlArm_conflict, ctlDisarm_conflict, ctlDrain_conflict, ctlHalt_conflict, ctlResume_conflict,
    ctlRelease_conflict, fun hrun => ⟨ctlContinue_conflict hrun, ctlSkip_conflict hrun, ctlFlush_conflict hrun⟩⟩

end Sys2Proof.Machine
end

section
/-! Proofs of the statement about raising and clearing flags (R441, R442). -/

namespace Sys2Proof.Machine

open Sys2Proof

/-- Settles O53: raising writes one bit and one count, clearing the bits of its mask. -/
theorem flagsRaiseAndClear : Obligations.FlagsRaiseAndClear := by
  constructor
  · intro s k b hb
    exact ⟨s.raise_bit k b, s.raiseCount_raise_same k b, fun _ => s.raise_bit_ne k, fun _ => s.get_raise_ne b,
      fun _ _ => s.raiseCount_raise_ne hb⟩
  · intro s k mask
    exact ⟨s.clearBits_bit k mask, fun _ => s.get_clearBits_ne mask, s.clearBits_raises k mask⟩

end Sys2Proof.Machine
end

section
/-! Proofs of the statement about the writes of the engine's action objects (R439, R454, R465, R473, R479, R486, R492, R502,
R505, R536). -/

namespace Sys2Proof.Machine

open Sys2Proof

/-! ### An action object of the engine (R536) -/

/-- The object of a key is an action object of one byte, of the engine and of no context or pool, described by `row`; a
write of a value to it does `act`. -/
structure EngineAction (k : Nat) (row : ObjInfo) (act : State → Path → Nat → Around → Eff) : Prop where
  objAt_key : objAt (k / 256) (k % 256) = some row
  isByteAction : row.IsByteAction
  notCtxObj : isCtxObj k = false
  notPoolObj : isPoolObj k = false
  writeEngObj : ∀ (s : State) (p : Path) (v : Nat) (d : Bytes) (a : Around), s.writeEngObj p k v d row a = act s p v a

/-- Past its checks, a write of an action object of the engine is its action. -/
theorem EngineAction.writeObj {k v : Nat} {row : ObjInfo} {act : State → Path → Nat → Around → Eff}
    (hk : EngineAction k row act) {s : State} {p : Path} (a : Around) (hv : v < 256)
    (hpass : s.writeCheck p k row (leBytes 1 v) = none) : s.writeObj p k row (leBytes 1 v) a = act s p v a := by
  rw [State.writeObj_action a hk.isByteAction hv hpass, hk.notCtxObj, hk.notPoolObj, ← hk.writeEngObj s p v (leBytes 1 v) a]
  rfl

/-- A command that writes an action object of the engine ends in the state that its action leads to. -/
theorem EngineAction.finish_writeKey {k v : Nat} {row i : ObjInfo} {act : State → Path → Nat → Around → Eff}
    (hk : EngineAction k row act) {s t : State} {p : Path} (a : Around) (hv : v < 256)
    (h : Acts s p k v i (act s p v a) t) :
    finish s (s.writeKey p k (leBytes 1 v) a) = .next (written s p k (leBytes 1 v) i t) := by
  obtain ⟨hreach, hpass, hact⟩ := h
  obtain ⟨-, -, -, hat⟩ := id hreach
  obtain rfl : row = i := Option.some.inj (hk.objAt_key.symm.trans hat)
  rw [State.writeKey_accepted ⟨hreach, (hk.writeObj a hv hpass).trans hact⟩]
  rfl

/-! ### The action objects

Each with its row of the manual's tables and the action that a write of `v` takes. -/

theorem engineAction_twinCtrl :
    EngineAction O_TWIN_CTRL ⟨.u8, 2, .any, .action 3⟩ fun s _ v a => ctlTwin s v a :=
  ⟨by decide +kernel, ⟨rfl, 3, rfl⟩, rfl, rfl, fun _ _ _ _ _ => rfl⟩

theorem engineAction_slotCtrl :
    EngineAction O_SLOT_CTRL ⟨.u8, 2, .cond, .action 4⟩ fun s _ v _ => ctlSlot s v :=
  ⟨by decide +kernel, ⟨rfl, 4, rfl⟩, rfl, rfl, fun _ _ _ _ _ => rfl⟩

theorem engineAction_restoreCtrl :
    EngineAction O_RESTORE_CTRL ⟨.u8, 2, .cond, .action 1⟩ fun s _ v a => ctlRestoreWrite s v a :=
  ⟨by decide +kernel, ⟨rfl, 1, rfl⟩, rfl, rfl, fun _ _ _ _ _ => rfl⟩

theorem engineAction_debugCtrl :
    EngineAction O_DEBUG_CTRL ⟨.u8, 1, .any, .action 1⟩ fun s p v _ => ctlDebug s p v :=
  ⟨by decide +kernel, ⟨rfl, 1, rfl⟩, rfl, rfl, fun _ _ _ _ _ => rfl⟩

theorem engineAction_resetCtrl :
    EngineAction O_RESET_CTRL ⟨.u8, 2, .any, .action 1⟩ fun s _ v _ => ctlReset s v :=
  ⟨by decide +kernel, ⟨rfl, 1, rfl⟩, rfl, rfl, fun _ _ _ _ _ => rfl⟩

theorem engineAction_engineQuarantine :
    EngineAction O_ENGINE_QUARANTINE ⟨.u8, 2, .any, .action 1⟩ fun s _ _ _ => ctlEngineQuarantine s :=
  ⟨by decide +kernel, ⟨rfl, 1, rfl⟩, rfl, rfl, fun _ _ _ _ _ => rfl⟩

theorem engineAction_latchCtrl :
    EngineAction O_LATCH_CTRL ⟨.u8, 1, .any, .action 1⟩ fun s _ _ _ => ctlLatch s :=
  ⟨by decide +kernel, ⟨rfl, 1, rfl⟩, rfl, rfl, fun _ _ _ _ _ => rfl⟩

/-! ### The values of SLOT_CTRL (R486, R502) -/

theorem ctlSlot_discard (s : State) {slot : Nat} (h : slot < 2) : ctlSlot s (slot + 1) = ctlSlotDiscard s slot := by
  match slot, h with
  | 0, _ => rfl
  | 1, _ => rfl

theorem ctlSlot_verify (s : State) {slot : Nat} (h : slot < 2) : ctlSlot s (slot + 3) = ctlSlotVerify s slot := by
  match slot, h with
  | 0, _ => rfl
  | 1, _ => rfl

/-- Settles O23: each command is the write of its value to its action object, with what the command brings beside it. -/
theorem engineControlCompletes : Obligations.EngineControlCompletes := by
  refine ⟨?pair, ?unpair, ?handback, ?slotDiscard, ?slotVerify, ?restore, ?debugClose, ?warmReset, ?engineQuarantine,
    ?latchCtrl⟩
  case pair =>
    exact fun _ _ _ _ _ hreach hpass hact =>
      engineAction_twinCtrl.finish_writeKey _ (by decide) ⟨hreach, hpass, hact⟩
  case unpair =>
    exact fun _ _ _ _ _ hreach hpass hact =>
      engineAction_twinCtrl.finish_writeKey _ (by decide) ⟨hreach, hpass, hact⟩
  case handback => exact fun _ _ _ _ => engineAction_twinCtrl.finish_writeKey _ (by decide)
  case slotDiscard =>
    intro s p slot i t hslot h
    rw [← ctlSlot_discard s hslot] at h
    exact engineAction_slotCtrl.finish_writeKey _ (by omega) h
  case slotVerify =>
    intro s p slot i t hslot h
    rw [← ctlSlot_verify s hslot] at h
    exact engineAction_slotCtrl.finish_writeKey _ (by omega) h
  case restore => exact fun _ _ image _ _ => engineAction_restoreCtrl.finish_writeKey ⟨none, some image⟩ (by decide)
  case debugClose => exact fun _ _ _ _ => engineAction_debugCtrl.finish_writeKey _ (by decide)
  case warmReset => exact fun _ _ _ _ => engineAction_resetCtrl.finish_writeKey _ (by decide)
  case engineQuarantine => exact fun _ _ _ _ => engineAction_engineQuarantine.finish_writeKey _ (by decide)
  case latchCtrl => exact fun _ _ _ _ => engineAction_latchCtrl.finish_writeKey _ (by decide)

end Sys2Proof.Machine
end

section
/-! Proofs of the statement about the operations of the dictionary (R422 to R431, R442, R444). -/

namespace Sys2Proof.Machine

open Sys2Proof

/-! ### Operations on one object (R425) -/

section Object

variable {s : State} {p : Path} {op ver index sub off len : Nat} {final : Bool} {data : Bytes} {i : ObjInfo}

/-- A command that asks for an operation on one object ends, where the request reaches that object, with the operation
carried out. -/
theorem finish_reaches (h : Reaches s p (pathReq op ver index sub off len final data) i) (h5 : op ≠ 5) (h8 : op ≠ 8) :
    finish s (s.dictRequest p (pathReq op ver index sub off len final data) Around.none)
      = .next (ended s (s.serveObj p (pathReq op ver index sub off len final data) i Around.none)) := by
  rw [finish_next, State.dictRequest_reaches Around.none h h5 h8]

/-- A WRITE that its object accepts is mirrored and answered (R426, R467). -/
theorem exec_write {t : State} (h : Reaches s p (pathReq 2 ver index sub 0 data.length false data) i)
    (hwrite : s.writeObj p (index * 256 + sub) i data Around.none = .ok t) :
    exec (.write p ver index sub data) s
      = .next (ended s (s.wrote t p (pathReq 2 ver index sub 0 data.length false data) i)) := by
  have served : s.serveWrite p (pathReq 2 ver index sub 0 data.length false data) i Around.none
      = s.wrote t p (pathReq 2 ver index sub 0 data.length false data) i := by
    have at_key : s.writeObj p (pathReq 2 ver index sub 0 data.length false data).key i
        (pathReq 2 ver index sub 0 data.length false data).data Around.none = .ok t := hwrite
    rw [State.serveWrite, at_key]
  rw [← served]
  exact finish_reaches h (by decide) (by decide)

end Object

/-! ### Staged writes (R430) -/

/-- A staged write with no segment for 1,024 beats is dropped, and its flag is raised. -/
theorem exec_dictSegmentAbandoned {s : State} {index sub : Nat} {e : Staged} (hup : s.coreUp = true)
    (hstaged : s.stagedOf (index * 256 + sub) = some e) (hold : e.beat + 1024 ≤ s.beat) :
    exec (.dictSegmentAbandoned index sub) s
      = .next (ended s ((s.unstage (index * 256 + sub)).raise O_DICT_FLAGS 1)) := by
  show execDictSegmentAbandoned index sub s = _
  simp [execDictSegmentAbandoned, finish_next, hstaged, hup, hold]

/-! ### Operations on an index and on a list of objects (R425) -/

/-- ENUMERATE names an index, and is served once its path takes it up. -/
theorem exec_enumerate {s : State} {p : Path} {index : Nat} (ver off : Nat) (hwaits : s.reqWaits p index = false)
    (hroom : ∀ n, p = .vc0 n → s.heldVc0 < 64) :
    exec (.enumerate p ver index off) s
      = .next (ended s (s.serveEnum p (pathReq 5 ver index 0 off 0 false []))) :=
  congrArg (finish s) (State.dictRequest_up (r := pathReq 5 ver index 0 off 0 false []) Around.none hwaits hroom)

/-- The data of a READ_BATCH: an entry of four bytes for each object. -/
def batchData (entries : List (Nat × Nat)) : Bytes :=
  (entries.map fun e => leBytes 2 e.1 ++ leBytes 1 e.2 ++ [0]).flatten

theorem batchData_length (entries : List (Nat × Nat)) : (batchData entries).length = 4 * entries.length := by
  unfold batchData
  induction entries with
  | nil => rfl
  | cons e rest ih =>
    simp only [List.map_cons, List.flatten_cons, List.length_append, List.length_cons, List.length_nil, leBytes_length, ih]
    omega

/-- READ_BATCH names its objects in its data, and is served once its path takes it up. -/
theorem exec_readBatch {s : State} {p : Path} (entries : List (Nat × Nat)) (hwaits : s.reqWaits p 0 = false)
    (hroom : ∀ n, p = .vc0 n → s.heldVc0 < 64) :
    exec (.readBatch p 2 entries) s
      = .next (ended s (s.serveBatch p (pathReq 8 2 0 0 0 (4 * entries.length) false (batchData entries)))) := by
  rw [← batchData_length]
  exact congrArg (finish s)
    (State.dictRequest_up (r := pathReq 8 2 0 0 0 (batchData entries).length false (batchData entries)) Around.none hwaits
      hroom)

/-! ### Mailboxes (R422) -/

theorem exec_mailboxPoll {s : State} {m : Nat} (hup : s.dictUp = true) (hm : m < 8) :
    exec (.mailboxPoll m) s = .next (ended s ((List.range 16).foldl (fun s i => s.pollBox m i) s)) := by
  show execMailboxPoll m s = _
  simp only [execMailboxPoll, finish_next, hup, hm, decide_true, Bool.and_self, if_true]

/-- Settles O26: a request that reaches its object has its operation carried out there; ENUMERATE and READ_BATCH name none,
and are served as they are taken up. -/
theorem dictionaryOperationsComplete : Obligations.DictionaryOperationsComplete :=
  ⟨fun _ _ _ _ _ _ h => finish_reaches h (by decide) (by decide),
    fun _ _ _ _ _ _ _ _ => exec_write,
    fun _ _ _ _ _ _ _ _ h => finish_reaches h (by decide) (by decide),
    fun _ _ _ _ _ _ _ _ _ _ h _ _ _ => finish_reaches h (by decide) (by decide),
    fun _ _ _ _ => exec_dictSegmentAbandoned,
    fun _ _ ver _ off hwaits hroom _ => exec_enumerate ver off hwaits hroom,
    fun _ _ _ _ _ _ h => finish_reaches h (by decide) (by decide),
    fun _ _ _ _ _ _ _ h _ => finish_reaches h (by decide) (by decide),
    fun _ _ entries hwaits hroom _ _ _ => exec_readBatch entries hwaits hroom,
    fun _ _ => exec_mailboxPoll⟩

end Sys2Proof.Machine
end

section
/-! Proofs of the statement about management over MCTP and SPDM (R419, R420, R436, R494, R495). The completion codes, the code
bytes and the order of the SPDM requests are the model's own choice (assumption log entry 81). -/

namespace Sys2Proof.Machine

open Sys2Proof

/-! ### MCTP control messages (R420) -/

/-- The bus owner assigns an address of 7 bits (R419). -/
theorem exec_entdaa (s : State) {addr : Nat} (h : addr < 128) :
    exec (.entdaa addr) s = .next (ended s { s with i3cAddr := some addr }) := by
  show execEntdaa addr s = _
  rw [execEntdaa, if_pos h, finish_next]

/-- A command that answers a control message ends, on a binding that responds, with the answer sent. -/
theorem finish_mctpAnswer {s : State} {b : Binding} (hup : s.bindingUp b = true) (name : String) (d : Bytes) :
    finish s (s.mctpAnswer b name d) = .next (ended s (s.emit (.mctp b name d))) := by
  rw [finish_next, State.mctpAnswer, if_pos hup]

/-- Whether a binding responds does not depend on the endpoint IDs. -/
theorem State.bindingUp_put_eid (s : State) (b : Binding) (eid : Nat) :
    (s.put (eidObj b) eid).bindingUp b = s.bindingUp b := by
  cases b with
  | i3c => rfl
  | smbus => exact congrArg (· == 1) (s.get_put_ne eid (by decide))

/-- An endpoint ID, read past the end of a command. -/
theorem ended_get_eid (s t : State) (b : Binding) : (ended s t).get (eidObj b) = t.get (eidObj b) := by
  cases b with
  | i3c => exact ended_get_engine s t (by decide) (by decide) (by decide)
  | smbus => exact ended_get_engine s t (by decide) (by decide) (by decide)

/-- SET_ENDPOINT_ID with an ID that is neither reserved nor the broadcast keeps the ID and answers it. -/
theorem exec_setEndpointId {s : State} {b : Binding} {eid : Nat} (hup : s.bindingUp b = true) (hpos : 0 < eid)
    (hlt : eid < 255) :
    exec (.setEndpointId b eid) s
      = .next (ended s ((s.put (eidObj b) eid).emit (.mctp b "SET_ENDPOINT_ID" ([0] ++ leBytes 1 eid)))) := by
  have zero : (eid == 0) = false := beq_false_of_ne (Nat.pos_iff_ne_zero.1 hpos)
  have answers : (s.put (eidObj b) eid).bindingUp b = true := (s.bindingUp_put_eid b eid).trans hup
  show execSetEndpointId b eid s = _
  simp only [execSetEndpointId, finish_next, State.mctpAnswer, hup, answers, zero, ge_iff_le, Nat.not_le.2 hlt, decide_false,
    Bool.not_true, Bool.or_self, Bool.false_eq_true, if_false, if_true]

/-! ### SPDM (R494, R495) -/

section Request

variable {s : State} (hready : s.spdmBusy = false)

include hready

/-- An SPDM request that comes in its order, once the engine is not busy, is answered. -/
theorem finish_spdm {from_ : Nat} {go : State → State} {u : State} (horder : from_ ≤ s.spdmState) (hgo : go s = u) :
    finish s (s.spdm from_ go) = .next (ended s u) := by
  simp only [State.spdm, finish_next, hready, Nat.not_lt.2 horder, hgo, Bool.false_eq_true, if_false]

theorem exec_getVersion :
    exec .getVersion s = .next (ended s ({ s with spdmState := 1 }.emit (.spdm "VERSION" [0x12, 0x13]))) :=
  finish_spdm hready (Nat.zero_le _) rfl

theorem exec_getCapabilities (horder : 1 ≤ s.spdmState) :
    exec .getCapabilities s
      = .next (ended s ({ s with spdmState := 2 }.emit (.spdm "CAPABILITIES" (leBytes 4 0x36 ++ leBytes 4 4096)))) :=
  finish_spdm hready horder rfl

theorem exec_negotiateAlgorithms (horder : 2 ≤ s.spdmState) :
    exec .negotiateAlgorithms s
      = .next (ended s ({ s with spdmState := 3 }.emit
          (.spdm "ALGORITHMS" (leBytes 4 0x80 ++ leBytes 4 0x02 ++ leBytes 4 0x04)))) :=
  finish_spdm hready horder rfl

variable (horder : 3 ≤ s.spdmState)

include horder

theorem exec_getDigests :
    exec .getDigests s = .next (ended s (s.emit (.spdm "DIGESTS" ([1] ++ sha384 certChain)))) :=
  finish_spdm hready horder rfl

/-- An offset within the chain is answered with bytes of it. -/
theorem exec_getCertificate_inside {off : Nat} (len : Nat) (hoff : off < Config.certificateLen 0) :
    ∃ d, exec (.getCertificate 0 off len) s = .next (ended s (s.emit (.spdm "CERTIFICATE" d))) := by
  have inside : ¬ ((0 : Nat) != 0 || decide (off ≥ Config.certificateLen 0)) = true := by simpa using hoff
  exact ⟨_, finish_spdm hready horder (if_neg inside)⟩

/-- An offset beyond the chain is an error. -/
theorem exec_getCertificate_beyond {off : Nat} (len : Nat) (hoff : ¬ off < Config.certificateLen 0) :
    exec (.getCertificate 0 off len) s = .next (ended s (s.emit (.spdm "ERROR InvalidRequest" []))) := by
  have beyond : ((0 : Nat) != 0 || decide (off ≥ Config.certificateLen 0)) = true := by simpa using hoff
  exact finish_spdm hready horder (if_pos beyond)

/-- A challenge with a nonce of 32 bytes is answered with the engine's own nonce, which is drawn afresh. -/
theorem exec_challenge {nonce : Bytes} (hlen : nonce.length = 32) :
    ∃ d, exec (.challenge 0 nonce) s = .next (ended s (s.emit (.spdm "CHALLENGE_AUTH" d)).drawn) := by
  have sized : ¬ ((0 : Nat) != 0 || nonce.length != 32) = true := by simpa using hlen
  exact ⟨_, finish_spdm hready horder (if_neg sized)⟩

/-- A request for measurements names a block, their count or all of them, and brings a nonce where it asks for a signature. -/
theorem exec_getMeasurements {index : Nat} {signed : Bool} {nonce : Bytes} (hindex : index ≤ 7 ∨ index = 0xFF)
    (hlen : signed = true → nonce.length = 32) :
    ∃ d, exec (.getMeasurements index signed nonce) s = .next (ended s (s.emit (.spdm "MEASUREMENTS" d)).drawn) := by
  have known : ¬ (7 < index ∧ index ≠ 0xFF) := by omega
  have sized : ¬ (signed = true ∧ nonce.length ≠ 32) := fun ⟨hsigned, hshort⟩ => hshort (hlen hsigned)
  have accepted : ¬ ((decide (7 < index) && index != 0xFF) || (signed && nonce.length != 32)) = true := by
    simpa only [Bool.or_eq_true, Bool.and_eq_true, decide_eq_true_eq, bne_iff_ne] using not_or_intro known sized
  exact ⟨_, finish_spdm hready horder (if_neg accepted)⟩

end Request

/-- What a command has sent last has been sent at its end. -/
theorem mem_out_ended_emit (s u : State) (e : Emit) : e ∈ (ended s (u.emit e)).out :=
  (OnlyReports.ended s (u.emit e)).mem_out List.mem_cons_self

theorem mem_out_ended_emit_drawn (s u : State) (e : Emit) : e ∈ (ended s (u.emit e).drawn).out :=
  (OnlyReports.ended s (u.emit e).drawn).mem_out List.mem_cons_self

/-- Settles O27: one lemma for each request; what its answer sends and keeps is read past the end of the command. -/
theorem managementCommandsComplete : Obligations.ManagementCommandsComplete := by
  refine ⟨fun s _ => exec_entdaa s, ?setEndpointId, fun _ _ hup => finish_mctpAnswer hup _ _,
    fun _ _ hup => finish_mctpAnswer hup _ _, fun _ _ hup => finish_mctpAnswer hup _ _,
    fun _ _ hup => finish_mctpAnswer hup _ _, ?getVersion, ?getCapabilities, ?negotiateAlgorithms, ?getDigests,
    ?getCertificate, ?challenge, ?getMeasurements⟩
  case setEndpointId =>
    exact fun s b eid hup hpos hlt => ⟨_, exec_setEndpointId hup hpos hlt,
      (ended_get_eid s _ b).trans (s.get_put_same _ eid), mem_out_ended_emit _ _ _⟩
  case getVersion =>
    exact fun _ hready => ⟨_, exec_getVersion hready, ended_spdmState _ _, mem_out_ended_emit _ _ _⟩
  case getCapabilities =>
    exact fun _ hready horder => ⟨_, exec_getCapabilities hready horder, ended_spdmState _ _, mem_out_ended_emit _ _ _⟩
  case negotiateAlgorithms =>
    exact fun _ hready horder =>
      ⟨_, exec_negotiateAlgorithms hready horder, ended_spdmState _ _, mem_out_ended_emit _ _ _⟩
  case getDigests => exact fun _ hready horder => ⟨_, exec_getDigests hready horder, mem_out_ended_emit _ _ _⟩
  case getCertificate =>
    intro s off len hready horder
    by_cases hoff : off < Config.certificateLen 0
    · obtain ⟨d, hexec⟩ := exec_getCertificate_inside hready horder len hoff
      exact ⟨_, d, hexec, by rw [if_pos hoff]; exact mem_out_ended_emit _ _ _⟩
    · exact ⟨_, [], exec_getCertificate_beyond hready horder len hoff, by
        rw [if_neg hoff]; exact mem_out_ended_emit _ _ _⟩
  case challenge =>
    intro s nonce hready horder hlen
    obtain ⟨d, hexec⟩ := exec_challenge hready horder hlen
    exact ⟨_, d, hexec, mem_out_ended_emit_drawn _ _ _⟩
  case getMeasurements =>
    intro s index signed nonce hready horder hindex hlen
    obtain ⟨d, hexec⟩ := exec_getMeasurements hready horder hindex hlen
    exact ⟨_, d, hexec, mem_out_ended_emit_drawn _ _ _⟩

end Sys2Proof.Machine
end

section
/-! Proofs of the statements about one step of the block: the queue of commands (the model's own choice, assumption log
entry 1). -/

namespace Sys2Proof.Machine

open Sys2Proof

/-- Settles O1: a step is the command in front, carried out with the queue's rest. -/
theorem stepRunsFrontCommand : Obligations.StepRunsFrontCommand := by
  intro s c rest hqueue
  unfold step
  rw [hqueue]

/-- Settles O2: with no command in front a step leaves the state as it is. -/
theorem stepIdlesOnEmptyQueue : Obligations.StepIdlesOnEmptyQueue := by
  intro s hqueue
  unfold step
  rw [hqueue]

end Sys2Proof.Machine
end

section
/-! Proofs of the statement about the engine's quarantine, with what it shares with the losses of power and the resets: the
contexts that are lost and the island in bypass (R325, R454, R455). -/

namespace Sys2Proof.Machine

open Sys2Proof

/-! ### Objects that are dropped from the store (R412) -/

section Filter

variable {α : Type} {p : Nat → Bool} {k : Nat}

theorem tblFind_filter_kept (t : Tbl α) (hk : p k = true) : tblFind (t.filter fun e => p e.1) k = tblFind t k := by
  induction t with
  | nil => rfl
  | cons e r ih =>
    obtain ⟨j, v⟩ := e
    by_cases hj : j = k
    · subst hj
      simp [tblFind, hk]
    · by_cases hp : p j = true <;> simp [tblFind, hp, hj, ih]

theorem tblFind_filter_dropped (t : Tbl α) (hk : p k = false) : tblFind (t.filter fun e => p e.1) k = none := by
  induction t with
  | nil => rfl
  | cons e r ih =>
    obtain ⟨j, v⟩ := e
    by_cases hj : j = k
    · subst hj
      simpa [List.filter_cons, hk] using ih
    · by_cases hp : p j = true <;> simp [tblFind, hp, hj, ih]

/-- An object that is not dropped reads as before. -/
theorem State.get_filter_kept {s t : State} (h : t.objs = s.objs.filter fun e => p e.1) (hk : p k = true) :
    t.get k = s.get k := by
  unfold State.get tblGet
  rw [h, tblFind_filter_kept _ hk]

/-- One that is dropped reads its default. -/
theorem State.get_filter_dropped {s t : State} (h : t.objs = s.objs.filter fun e => p e.1) (hk : p k = false) :
    t.get k = objDefault k := by
  unfold State.get tblGet
  rw [h, tblFind_filter_dropped _ hk]
  rfl

end Filter

/-! ### CTX_STATE past the end of a command (R408) -/

/-- Only a DRAINING context moves when those are looked at. -/
theorem State.cstate_settleOne {s : State} {c : Nat} (d : Nat) (h : s.cstate c ≠ 4) :
    (s.settleOne d).cstate c = s.cstate c := by
  by_cases hd : c = d
  · subst hd
    have stays : ¬ (s.cstate c == 4 && !(s.ctx c).drainBusy) = true := by simp [h]
    rw [State.settleOne, if_neg stays]
  · rcases s.settleOne_cases d with ⟨heq, -⟩ | heq
    · rw [heq]
    · rw [heq, s.cstate_armed_ne hd]

theorem State.cstate_foldl_settleOne (l : List Nat) {s : State} {c : Nat} (h : s.cstate c ≠ 4) :
    (l.foldl State.settleOne s).cstate c = s.cstate c := by
  induction l generalizing s with
  | nil => rfl
  | cons d r ih =>
    have one := s.cstate_settleOne d h
    exact (ih (one ▸ h)).trans one

/-- A context that is not DRAINING has the state that its command left. -/
theorem ended_cstate (s : State) {t : State} {c : Nat} (h : t.cstate c ≠ 4) : (ended s t).cstate c = t.cstate c := by
  have noticed (u : State) : (State.noticeAfter s u).cstate c = u.cstate c := by
    unfold State.noticeAfter
    split
    · split
      · exact u.get_sendNotice (engKey_ne (by decide) (by decide)).symm
      · rfl
    · rfl
  have mapped : (State.mapAfter s t.settle).cstate c = t.settle.cstate c := by
    unfold State.mapAfter
    split <;> rfl
  exact ((noticed _).trans mapped).trans (State.cstate_foldl_settleOne _ h)

/-! ### A checkpoint that stops (R504) -/

theorem State.abortCkpt_shape (s : State) :
    ∃ ob r g st ck re, s.abortCkpt =
      { s with objs := ob, raises := r, gens := g, ckptStates := st, ckpt := ck, restoring := re } := by
  unfold State.abortCkpt
  dsimp only
  split
  · exact ⟨_, _, _, _, _, _, rfl⟩
  · split
    · exact ⟨_, _, _, _, _, _, rfl⟩
    · split <;> exact ⟨_, _, _, _, _, _, rfl⟩

/-- Of the objects it moves those of the checkpoint. -/
theorem State.get_abortCkpt (s : State) {k : Nat} (hphase : k ≠ O_CKPT_PHASE) (hflags : k ≠ O_CKPT_FLAGS)
    (hcount : k ≠ O_CHECKPOINTS_ABORTED) : s.abortCkpt.get k = s.get k := by
  have idle (u : State) (h : u.objs = s.objs) : (u.put O_CKPT_PHASE 0).get k = s.get k :=
    (u.get_put_ne 0 hphase).trans (State.get_congr h k)
  have counted (u : State) : ((u.raise O_CKPT_FLAGS 5).bump O_CHECKPOINTS_ABORTED 1).get k = u.get k :=
    (State.get_bump_ne _ 1 hcount).trans (u.get_raise_ne 5 hflags)
  unfold State.abortCkpt
  dsimp only
  split
  · exact idle _ rfl
  · split
    · exact idle _ rfl
    · rw [counted]
      split <;> exact idle { s with restoring := none, ckpt := none } rfl

/-! ### The contexts are lost (R454) -/

@[simp] theorem State.loseContexts_ctxs (s : State) : s.loseContexts.ctxs = [] := rfl

@[simp] theorem State.loseContexts_corePg (s : State) : s.loseContexts.corePg = s.corePg := by
  obtain ⟨_, _, _, _, _, _, h⟩ := s.abortCkpt_shape
  exact (congrArg State.corePg h :)

@[simp] theorem State.loseContexts_tempRegion (s : State) : s.loseContexts.tempRegion = s.tempRegion := by
  obtain ⟨_, _, _, _, _, _, h⟩ := s.abortCkpt_shape
  exact (congrArg State.tempRegion h :)

/-- An object of the engine, those of the checkpoint apart, stays. -/
theorem State.get_loseContexts (s : State) {k : Nat} (hk : isCtxOrPool k = false) (hphase : k ≠ O_CKPT_PHASE)
    (hflags : k ≠ O_CKPT_FLAGS) (hcount : k ≠ O_CHECKPOINTS_ABORTED) : s.loseContexts.get k = s.get k :=
  (State.get_filter_kept (s := s.abortCkpt) (p := fun j => !isCtxOrPool j) rfl (by simp [hk])).trans
    (s.get_abortCkpt hphase hflags hcount)

/-- Every context is FREE, with nothing in it. -/
theorem State.cstate_loseContexts (s : State) {c : Nat} (hc : c < 1024) : s.loseContexts.cstate c = 0 := by
  have dropped : isCtxOrPool (ctxKey c O_CTX_STATE) = true := by
    have low : 0x800000 ≤ ctxKey c O_CTX_STATE := by unfold ctxKey O_CTX_STATE; omega
    have high : ctxKey c O_CTX_STATE < 0xC00000 := by unfold ctxKey O_CTX_STATE; omega
    simp [isCtxOrPool, low, high]
  rw [← objDefault_ctxState hc]
  exact State.get_filter_dropped (s := s.abortCkpt) (p := fun j => !isCtxOrPool j) rfl (by simp [dropped])

/-! ### The island in bypass (R325) -/

/-- A link when the island enters bypass: a rack link goes down, a spine link goes through the island. -/
def State.bypassLink (s : State) (l : Nat) : State :=
  let st := s.get (unitKey l O_LINK_STATE)
  let s := s.modLink l fun k => { k with replay := [], discarding := false, trainBeat := s.beat }
  if st == 0 then s else if l < 8 then s.setLink l 4 else if st == 2 || st == 3 then s.setLink l 5 else s

theorem State.bypassLink_shape (s : State) (l : Nat) : ∃ ob li, s.bypassLink l = { s with objs := ob, links := li } := by
  unfold State.bypassLink
  dsimp only
  split
  · exact ⟨_, _, rfl⟩
  · split
    · exact ⟨_, _, rfl⟩
    · split <;> exact ⟨_, _, rfl⟩

theorem State.get_bypassLink (s : State) {l k : Nat} (hk : k ≠ unitKey l O_LINK_STATE) :
    (s.bypassLink l).get k = s.get k := by
  have set (u : State) (v : Nat) : (u.setLink l v).get k = u.get k := u.get_put_ne v hk
  have layer (f : Link → Link) : (s.modLink l f).get k = s.get k := rfl
  unfold State.bypassLink
  simp only [apply_ite (State.get · k), set, layer, ite_self]

theorem State.get_announce (s : State) (mk : Nat → Announcement) (k : Nat) : (s.announce mk).get k = s.get k := rfl

/-- Every link, and the announcement of the bypass. -/
def State.bypassLinks (s : State) : State :=
  let s := (List.range 12).foldl State.bypassLink s
  s.announce fun n => .bypass s.node n

theorem State.bypassLinks_shape (s : State) :
    ∃ ob li se an e, s.bypassLinks = { s with objs := ob, links := li, serial := se, announced := an, out := e } := by
  have every (l : List Nat) : ∃ ob li, l.foldl State.bypassLink s = { s with objs := ob, links := li } := by
    induction l using List.reverseRecOn with
    | nil => exact ⟨s.objs, s.links, rfl⟩
    | append_singleton r l ih =>
      obtain ⟨_, _, hr⟩ := ih
      obtain ⟨ob, li, hl⟩ := (r.foldl State.bypassLink s).bypassLink_shape l
      exact ⟨ob, li, by rw [List.foldl_append, List.foldl_cons, List.foldl_nil, hl, hr]⟩
  obtain ⟨_, _, h⟩ := every (List.range 12)
  unfold State.bypassLinks
  rw [h]
  exact ⟨_, _, _, _, _, rfl⟩

theorem State.get_bypassLinks (s : State) {k : Nat} (hk : ∀ l, l < 12 → k ≠ unitKey l O_LINK_STATE) :
    s.bypassLinks.get k = s.get k := by
  have every (l : List Nat) (hl : ∀ i ∈ l, i < 12) : (l.foldl State.bypassLink s).get k = s.get k := by
    induction l using List.reverseRecOn with
    | nil => rfl
    | append_singleton r i ih =>
      rw [List.foldl_append, List.foldl_cons, List.foldl_nil, State.get_bypassLink _ (hk i (hl i (by simp)))]
      exact ih fun j hj => hl j (List.mem_append_left _ hj)
  unfold State.bypassLinks
  dsimp only
  rw [State.get_announce]
  exact every _ fun _ hi => List.mem_range.1 hi

theorem State.enterBypass_eq (s : State) :
    s.enterBypass = if s.get O_BYPASS_STATE == 1 then s
      else ((s.put O_BYPASS_STATE 1).bumpW 32 O_BYPASS_ENTRIES 1).bypassLinks := rfl

theorem State.enterBypass_shape (s : State) :
    ∃ ob li se an e, s.enterBypass = { s with objs := ob, links := li, serial := se, announced := an, out := e } := by
  rw [s.enterBypass_eq]
  split
  · exact ⟨s.objs, s.links, s.serial, s.announced, s.out, rfl⟩
  · obtain ⟨ob, li, se, an, e, h⟩ := ((s.put O_BYPASS_STATE 1).bumpW 32 O_BYPASS_ENTRIES 1).bypassLinks_shape
    exact ⟨ob, li, se, an, e, h⟩

/-- Of the objects the island's entry moves its own and the states of the links. -/
theorem State.get_enterBypass (s : State) {k : Nat} (hstate : k ≠ O_BYPASS_STATE) (hcount : k ≠ O_BYPASS_ENTRIES)
    (hlink : ∀ l, l < 12 → k ≠ unitKey l O_LINK_STATE) : s.enterBypass.get k = s.get k := by
  rw [s.enterBypass_eq]
  split
  · rfl
  · exact (State.get_bypassLinks _ hlink).trans ((State.get_put_ne _ _ hcount).trans (s.get_put_ne 1 hstate))

/-- The states of the links lie together. -/
theorem ne_linkState {k : Nat} (hk : k < 0x251000 ∨ 0x251C00 ≤ k) : ∀ l, l < 12 → k ≠ unitKey l O_LINK_STATE := by
  intro l hl
  unfold unitKey O_LINK_STATE
  omega

theorem State.bypassState_enterBypass (s : State) : s.enterBypass.get O_BYPASS_STATE = 1 := by
  rw [s.enterBypass_eq]
  split
  · rename_i already
    exact beq_iff_eq.1 already
  · exact (State.get_bypassLinks _ (ne_linkState (.inr (by decide)))).trans
      ((State.get_put_ne _ _ (by decide)).trans (s.get_put_same _ 1))

/-! ### The engine quarantines itself (R454, R455) -/

/-- A quarantine logged, and the twin told of it. -/
def State.standDown (s : State) : State :=
  let s := s.raiseLog O_GD_FLAGS 3 0xEB 4 0 0 0xFFFF 0
  if s.paired then s.emit .yield else s

theorem State.quarantineEngine_eq (s : State) :
    s.quarantineEngine = if s.get O_ENGINE_STATE == 3 then s
      else (s.standDown.loseContexts.put O_ENGINE_STATE 3).enterBypass := rfl

@[simp] theorem State.quarantineEngine_tempRegion (s : State) : s.quarantineEngine.tempRegion = s.tempRegion := by
  have told : s.standDown.tempRegion = s.tempRegion := by
    unfold State.standDown
    dsimp only
    split <;> rfl
  rw [s.quarantineEngine_eq]
  split
  · rfl
  · obtain ⟨_, _, _, _, _, h⟩ := (s.standDown.loseContexts.put O_ENGINE_STATE 3).enterBypass_shape
    rw [h]
    exact s.standDown.loseContexts_tempRegion.trans told

theorem State.bitSet_standDown (s : State) : bitSet s.standDown O_GD_FLAGS 3 := by
  have told : s.standDown.get O_GD_FLAGS = (s.raiseLog O_GD_FLAGS 3 0xEB 4 0 0 0xFFFF 0).get O_GD_FLAGS := by
    unfold State.standDown
    exact State.get_ite (State.get_emit _ _ _) rfl
  exact (congrArg (· / 2 ^ 3 % 2) told).trans (s.bitSet_raiseLog _ _ _ _ _ _ 3 (by decide))

section Quarantine

variable {s : State} (hup : s.coreUp = true)

include hup

/-- An engine whose core is up is not quarantined yet. -/
theorem State.quarantineEngine_up :
    s.quarantineEngine = (s.standDown.loseContexts.put O_ENGINE_STATE 3).enterBypass := by
  have serving : s.get O_ENGINE_STATE ≠ 3 := by
    intro h3
    simp [State.coreUp, h3] at hup
  rw [s.quarantineEngine_eq, if_neg (by simpa using serving)]

theorem State.engineState_quarantineEngine : s.quarantineEngine.get O_ENGINE_STATE = 3 := by
  rw [State.quarantineEngine_up hup,
    State.get_enterBypass _ (by decide) (by decide) (ne_linkState (.inl (by decide)))]
  exact State.get_put_same _ _ _

theorem State.bypassState_quarantineEngine : s.quarantineEngine.get O_BYPASS_STATE = 1 := by
  rw [State.quarantineEngine_up hup]
  exact State.bypassState_enterBypass _

theorem State.bitSet_quarantineEngine : bitSet s.quarantineEngine O_GD_FLAGS 3 := by
  unfold bitSet
  rw [State.quarantineEngine_up hup,
    State.get_enterBypass _ (by decide) (by decide) (ne_linkState (.inr (by decide))), State.get_put_ne _ 3 (by decide),
    State.get_loseContexts _ (by decide) (by decide) (by decide) (by decide)]
  exact s.bitSet_standDown

theorem State.cstate_quarantineEngine {c : Nat} (hc : c < 1024) : s.quarantineEngine.cstate c = 0 := by
  have engine {j : Nat} (hj : j < 0x800000) : ctxKey c O_CTX_STATE ≠ j := by
    unfold ctxKey O_CTX_STATE
    omega
  rw [State.quarantineEngine_up hup]
  refine (State.get_enterBypass _ (engine (by decide)) (engine (by decide)) (ne_linkState (.inr ?_))).trans
    ((State.get_put_ne _ 3 (engine (by decide))).trans (State.cstate_loseContexts _ hc))
  unfold ctxKey O_CTX_STATE
  omega

theorem State.ctx_quarantineEngine (c : Nat) : s.quarantineEngine.ctx c = Ctx.init := by
  obtain ⟨_, _, _, _, _, h⟩ := (s.standDown.loseContexts.put O_ENGINE_STATE 3).enterBypass_shape
  rw [State.quarantineEngine_up hup, h]
  rfl

end Quarantine

/-- A fault of the spine that cannot be corrected quarantines the engine (R451, R454). -/
theorem exec_cellFault_spine {s : State} (tile cell : Nat) (hup : s.coreUp = true) :
    exec (.cellFault tile cell .spineUncorrectable) s = .next (ended s s.quarantineEngine) := by
  show execCellFault tile cell .spineUncorrectable s = _
  simp only [execCellFault, finish_next, hup, Bool.not_true, Bool.false_eq_true, if_false]

/-- An engine that reads QUARANTINED is not up. -/
theorem State.coreUp_of_quarantined {s : State} (h : s.get O_ENGINE_STATE = 3) : s.coreUp = false := by
  simp [State.coreUp, h]

/-- Settles O60: what the quarantine leaves is read past the end of the command. That every context is lost on a paired
engine too is the model's own choice (assumption log entry 67). -/
theorem quarantineEndsEveryContext : Obligations.QuarantineEndsEveryContext := by
  intro s tile cell hup
  have engine {k : Nat} (hk : k < 0x800000) (hmirror : k ≠ O_MIRROR_BYTES) (hnotice : k ≠ O_NOTICES_SENT) :
      (ended s s.quarantineEngine).get k = s.quarantineEngine.get k := ended_get_engine s _ hk hmirror hnotice
  have state : (ended s s.quarantineEngine).get O_ENGINE_STATE = 3 :=
    (engine (by decide) (by decide) (by decide)).trans (State.engineState_quarantineEngine hup)
  refine ⟨_, exec_cellFault_spine tile cell hup, state, State.coreUp_of_quarantined state, fun c hc => ⟨?_, ?_⟩, ?_, ?_⟩
  · have free := State.cstate_quarantineEngine hup hc
    exact (ended_cstate s (by rw [free]; decide)).trans free
  · exact (ended_ctx s _ c).trans (State.ctx_quarantineEngine hup c)
  · exact (engine (by decide) (by decide) (by decide)).trans (State.bypassState_quarantineEngine hup)
  · exact bitSet_ended (by decide) (by decide) (by decide) (State.bitSet_quarantineEngine hup)

end Sys2Proof.Machine
end

section
/-! Proofs of the statement about pins, power, heat and the steps of a start (R478 to R482, R529 to R532). What a power-on
keeps beside fuses is the model's own choice (assumption log entry 71). -/

namespace Sys2Proof.Machine

open Sys2Proof

/-! ### Power-on of VAON (R478) -/

/-- The fuses among the objects. -/
def isFuse (k : Nat) : Bool := k == O_LC_STATE || k == O_OWNER_SLOTS_LEFT

/-- The engine as the power-on of VAON leaves it: all at its reset value but for fuses, memory and pins. -/
def State.powerOn (s : State) : State :=
  { State.reset with
    objs := State.reset.objs ++ s.objs.filter fun p => isFuse p.1
    attempts := [{ firstAttempt with lc := s.get O_LC_STATE }]
    mem := s.mem, stackCaps := s.stackCaps, ownerKey := s.ownerKey, ownerRetired := s.ownerRetired
    resetN := s.resetN, corePg := s.corePg, pwrAlert := s.pwrAlert, serial := s.serial
    out := s.out, freeCtr := s.freeCtr }

theorem exec_vaonPowerOn (s : State) : exec .vaonPowerOn s = .next (ended s s.powerOn) := rfl

/-- The one object that reset lists is no fuse. -/
theorem State.lcState_powerOn (s : State) : s.powerOn.get O_LC_STATE = s.get O_LC_STATE := by
  have listed : tblFind s.powerOn.objs O_LC_STATE = tblFind (s.objs.filter fun p => isFuse p.1) O_LC_STATE := rfl
  unfold State.get tblGet
  rw [listed, tblFind_filter_kept _ (by decide)]

/-! ### Board control (R478, R529) -/

/-- A power-on reset begins with step 0, whatever the pins read. -/
theorem State.beginReset_powerOn (s : State) :
    (s.beginReset 1).startStep = some 0 ∧ (s.beginReset 1).resetN = s.resetN ∧ (s.beginReset 1).corePg = s.corePg ∧
      (s.beginReset 1).thermTrip = s.thermTrip := by
  obtain ⟨_, _, _, _, _, h⟩ := ((s.powerReset 1).put O_LAST_RESET_KIND 1).enterBypass_shape
  unfold State.beginReset
  rw [h]
  exact ⟨rfl, rfl, rfl, rfl⟩

theorem exec_resetNLow {s : State} (hpin : s.resetN = true) :
    exec .resetNLow s = .next (ended s (State.beginReset { s with resetN := false, thermTrip := false } 1)) := by
  show execResetNLow s = _
  rw [execResetNLow, if_pos hpin, finish_next]

theorem exec_resetNHigh {s : State} (hpin : s.resetN = false) :
    exec .resetNHigh s = .next (ended s { s with resetN := true }) := by
  show execResetNHigh s = _
  rw [execResetNHigh, if_neg (by simp [hpin]), finish_next]

/-- The core supply fails: sessions and a running start are dropped. -/
def State.corePgDown (s : State) : State :=
  { s with corePg := false, startStep := none, sessions := [], challenges := [], spdmState := 0, measured := [] }

theorem exec_corePgFall {s : State} (hpin : s.corePg = true) :
    exec .corePgFall s = .next (ended s s.corePgDown.loseContexts.enterBypass) := by
  show execCorePgFall s = _
  rw [execCorePgFall, if_pos hpin, finish_next]
  rfl

theorem State.corePgFall_reads (s : State) :
    s.corePgDown.loseContexts.enterBypass.corePg = false ∧ s.corePgDown.loseContexts.enterBypass.ctxs = [] := by
  obtain ⟨_, _, _, _, _, h⟩ := s.corePgDown.loseContexts.enterBypass_shape
  rw [h]
  exact ⟨s.corePgDown.loseContexts_corePg, rfl⟩

/-- The core supply is back: a power-on reset, unless a start waits for it. -/
def State.corePgUp (s : State) : State :=
  let s := { s with corePg := true }
  if s.startStep == some 0 then s else s.beginReset 1

theorem exec_corePgRise {s : State} (hpin : s.corePg = false) : exec .corePgRise s = .next (ended s s.corePgUp) := by
  show execCorePgRise s = _
  rw [execCorePgRise, if_neg (by simp [hpin]), finish_next]
  rfl

theorem State.corePgUp_reads (s : State) : s.corePgUp.corePg = true ∧ s.corePgUp.startStep = some 0 := by
  obtain ⟨start, -, supply, -⟩ := State.beginReset_powerOn { s with corePg := true }
  unfold State.corePgUp
  dsimp only
  split
  · rename_i waits
    exact ⟨rfl, beq_iff_eq.1 waits⟩
  · exact ⟨supply, start⟩

/-! ### Power, heat and the start (R481, R530, R531) -/

/-- The clock steps leave the temperatures as they were measured. -/
theorem State.heatSteps_tempRegion (s : State) (t : Int) : (s.heatSteps t).tempRegion = s.tempRegion := by
  unfold State.heatSteps
  simp only [apply_ite State.tempRegion, ite_self]

section Running

variable {s : State} (hpg : s.corePg = true) (hres : s.resetN = true)

include hpg hres

/-- The power of the last beat is kept, whatever follows from it. -/
theorem exec_powerControl (beatMw meanMw : Nat) :
    ∃ t, exec (.powerControl beatMw meanMw) s = .next (ended s t) ∧ t.get O_POWER_MW = beatMw % 2 ^ 32 := by
  have measured (v : Nat) :
      ((s.put O_POWER_MW (beatMw % 2 ^ 32)).put O_POWER_PEAK_MW v).get O_POWER_MW = beatMw % 2 ^ 32 :=
    (State.get_put_ne _ v (by decide)).trans (s.get_put_same _ _)
  have on : ¬ (!s.corePg || !s.resetN) = true := by simp [hpg, hres]
  show ∃ t, execPowerControl beatMw meanMw s = _ ∧ _
  unfold execPowerControl
  rw [if_neg on, finish_next]
  refine ⟨_, rfl, ?_⟩
  extract_lets cap metered limited
  have kept : limited.get O_POWER_MW = beatMw % 2 ^ 32 := State.get_ite (measured _) (measured _)
  exact State.get_ite kept (State.get_ite (State.get_ite kept kept) kept)

theorem exec_thermalControl (temps : List Int) :
    ∃ t, exec (.thermalControl temps) s = .next (ended s t) ∧ t.tempRegion = temps := by
  have on : ¬ (!s.corePg || !s.resetN) = true := by simp [hpg, hres]
  show ∃ t, execThermalControl temps s = _ ∧ _
  unfold execThermalControl
  rw [if_neg on, finish_next]
  refine ⟨_, rfl, ?_⟩
  extract_lets hottest kept shown limited
  have measured : limited.tempRegion = temps := by
    show (if hottest > 10500 then shown.exceed else shown).tempRegion = temps
    split <;> rfl
  split
  · exact limited.quarantineEngine_tempRegion.trans measured
  · exact (limited.heatSteps_tempRegion hottest).trans measured

/-- The running step of a die that is not SCRAPPED ends. -/
theorem exec_startStep {k : Nat} (r : StepResult) (hstep : s.startStep = some k) (hlc : s.get O_LC_STATE ≠ 4) :
    exec (.startStep r) s = .next (ended s (startStep s k r)) := by
  have runs : (s.corePg && s.resetN && s.get O_LC_STATE != 4) = true := by simp [hpg, hres, hlc]
  show execStartStep r s = _
  simp only [execStartStep, finish_next, hstep, runs, if_true]

end Running

/-- Settles O20: one lemma for each pin and event; what it leaves is read past the end of the command. -/
theorem powerAndStartComplete : Obligations.PowerAndStartComplete := by
  refine ⟨fun s => ?vaonPowerOn, fun s hpin => ?resetNLow, fun _ => exec_resetNHigh, fun s hpin => ?corePgFall,
    fun s hpin => ?corePgRise, fun _ => rfl, fun _ => rfl, fun s beatMw meanMw hpg hres => ?powerControl,
    fun s temps hpg hres => ?thermalControl, fun _ _ r hpg hres => exec_startStep hpg hres r⟩
  case vaonPowerOn =>
    exact ⟨_, exec_vaonPowerOn s, ended_startStep _ _, ended_ctxs _ _, ended_raises _ _, ended_mem _ _,
      (ended_get_engine _ _ (by decide) (by decide) (by decide)).trans s.lcState_powerOn, ended_ownerKey _ _⟩
  case resetNLow =>
    obtain ⟨start, low, -, trip⟩ := State.beginReset_powerOn { s with resetN := false, thermTrip := false }
    exact ⟨_, exec_resetNLow hpin, (ended_resetN _ _).trans low, (ended_thermTrip _ _).trans trip,
      (ended_startStep _ _).trans start⟩
  case corePgFall =>
    obtain ⟨down, lost⟩ := s.corePgFall_reads
    exact ⟨_, exec_corePgFall hpin, (ended_corePg _ _).trans down, (ended_ctxs _ _).trans lost,
      (ended_get_engine _ _ (by decide) (by decide) (by decide)).trans (State.bypassState_enterBypass _)⟩
  case corePgRise =>
    obtain ⟨up, start⟩ := s.corePgUp_reads
    exact ⟨_, exec_corePgRise hpin, (ended_corePg _ _).trans up, (ended_startStep _ _).trans start⟩
  case powerControl =>
    obtain ⟨_, hexec, hpower⟩ := exec_powerControl hpg hres beatMw meanMw
    exact ⟨_, hexec, (ended_get_engine _ _ (by decide) (by decide) (by decide)).trans hpower⟩
  case thermalControl =>
    obtain ⟨_, hexec, htemps⟩ := exec_thermalControl hpg hres temps
    exact ⟨_, hexec, (ended_tempRegion _ _).trans htemps⟩

end Sys2Proof.Machine
end

section
/-! What the twin's own state (the probe, a takeover under way, the redirects) keeps through the work of the rings, of the
pools and of the exchange, and through the taking up of a context (R129 to R151, R386 to R409, R467 to R471). -/

namespace Sys2Proof.Machine

open Sys2Proof

/-! ### The twin's own state -/

/-- From `s` to `t` the probe, the takeover under way and the redirects stay. -/
structure TwinKept (s t : State) : Prop where
  probing : t.probing = s.probing
  taking : t.taking = s.taking
  redirects : t.redirects = s.redirects

namespace TwinKept

variable {s t u : State}

theorem refl (s : State) : TwinKept s s := ⟨rfl, rfl, rfl⟩

theorem trans (h : TwinKept s t) (k : TwinKept t u) : TwinKept s u :=
  ⟨k.probing.trans h.probing, k.taking.trans h.taking, k.redirects.trans h.redirects⟩

theorem ite {p : Prop} [Decidable p] (h : TwinKept s t) (k : TwinKept s u) : TwinKept s (if p then t else u) := by
  split
  · exact h
  · exact k

theorem foldl {α : Type} {f : State → α → State} (h : ∀ s a, TwinKept s (f s a)) (l : List α) (s : State) :
    TwinKept s (l.foldl f s) := by
  induction l generalizing s with
  | nil => exact refl s
  | cons a l ih => exact (h s a).trans (ih _)

theorem put (s : State) (k v : Nat) : TwinKept s (s.put k v) := ⟨rfl, rfl, rfl⟩

theorem raise (s : State) (k b : Nat) : TwinKept s (s.raise k b) := ⟨rfl, rfl, rfl⟩

theorem genUp (s : State) (k : Nat) : TwinKept s (s.genUp k) := ⟨rfl, rfl, rfl⟩

theorem emit (s : State) (e : Emit) : TwinKept s (s.emit e) := ⟨rfl, rfl, rfl⟩

theorem modCtx (s : State) (c : Nat) (f : Ctx → Ctx) : TwinKept s (s.modCtx c f) := ⟨rfl, rfl, rfl⟩

theorem modPool (s : State) (p : Nat) (f : Pool → Pool) : TwinKept s (s.modPool p f) := ⟨rfl, rfl, rfl⟩

theorem modMailbox (s : State) (m : Nat) (f : Mailbox → Mailbox) : TwinKept s (s.modMailbox m f) := ⟨rfl, rfl, rfl⟩

theorem logEvent (s : State) (code sev kind unit ctx detail : Nat) :
    TwinKept s (s.logEvent code sev kind unit ctx detail) := ⟨rfl, rfl, rfl⟩

theorem wr (s : State) (a : Nat) (bs : Bytes) : TwinKept s (s.wr a bs) := by
  obtain ⟨_, _, _, _, h⟩ := s.wr_shape a bs
  rw [h]
  exact ⟨rfl, rfl, rfl⟩

theorem mirrorAll (s : State) (k : MirrorKind) (c : Nat) (v : List (Nat × Nat)) (n : List Nat) (i : List (Nat × Bytes))
    (l : Option Ledger) : TwinKept s (s.mirrorAll k c v n i l) := by
  obtain ⟨_, _, _, _, h⟩ := s.mirrorAll_shape k c v n i l
  rw [h]
  exact ⟨rfl, rfl, rfl⟩

end TwinKept

/-! ### The rings (R386 to R395) -/

/-- From `s` to `t` the twin's own state stays, and the objects of the engine but for the counters of mirrored bytes and of
a checkpoint's stalls. -/
structure EngineKept (s t : State) : Prop extends TwinKept s t where
  objs : ∀ k, k < 0x800000 → k ≠ O_MIRROR_BYTES → k ≠ O_COW_STALLS → t.get k = s.get k

namespace EngineKept

variable {s t u : State}

theorem refl (s : State) : EngineKept s s := ⟨.refl s, fun _ _ _ _ => rfl⟩

theorem trans (h : EngineKept s t) (k : EngineKept t u) : EngineKept s u :=
  ⟨h.toTwinKept.trans k.toTwinKept, fun j hj hm hc => (k.objs j hj hm hc).trans (h.objs j hj hm hc)⟩

theorem ite {p : Prop} [Decidable p] (h : EngineKept s t) (k : EngineKept s u) : EngineKept s (if p then t else u) := by
  split
  · exact h
  · exact k

theorem foldl {α : Type} {f : State → α → State} (h : ∀ s a, EngineKept s (f s a)) (l : List α) (s : State) :
    EngineKept s (l.foldl f s) := by
  induction l generalizing s with
  | nil => exact refl s
  | cons a l ih => exact (h s a).trans (ih _)

/-- What leaves every object alone. -/
theorem of_objs (h : TwinKept s t) (hobjs : t.objs = s.objs) : EngineKept s t :=
  ⟨h, fun k _ _ _ => State.get_congr hobjs k⟩

theorem cput (s : State) (c v : Nat) {k : Nat} (hk : 0x800000 ≤ k) : EngineKept s (s.cput c k v) :=
  ⟨.put s _ v, fun _ hj _ _ => s.get_put_ne v (engKey_ne hj hk)⟩

theorem craise (s : State) (c b : Nat) {k : Nat} (hk : 0x800000 ≤ k) : EngineKept s (s.craise c k b) :=
  ⟨.raise s _ b, fun _ hj _ _ => s.get_raise_ne b (engKey_ne hj hk)⟩

theorem modRing (s : State) (c : Nat) (f : Ring → Ring) : EngineKept s (s.modRing c f) := of_objs (.modCtx s c _) rfl

theorem wr (s : State) (a : Nat) (bs : Bytes) : EngineKept s (s.wr a bs) :=
  ⟨.wr s a bs, fun _ _ _ hstalls => s.get_wr_ne a bs hstalls⟩

theorem mirrorAll (s : State) (k : MirrorKind) (c : Nat) (v : List (Nat × Nat)) (n : List Nat) (i : List (Nat × Bytes))
    (l : Option Ledger) : EngineKept s (s.mirrorAll k c v n i l) :=
  ⟨.mirrorAll s k c v n i l, fun _ _ hbytes _ => s.get_mirrorAll k c v n i l hbytes⟩

theorem syncRing (s : State) (c : Nat) : EngineKept s (s.syncRing c) :=
  (cput s c _ (by decide)).trans (ite (refl _) (wr _ _ _))

theorem setIndices (s : State) (c cons comp : Nat) : EngineKept s (s.setIndices c cons comp) :=
  (((cput s c cons (by decide)).trans (cput _ c comp (by decide))).trans (syncRing _ c)).trans (mirrorAll _ _ _ _ _ _ _)

theorem pauseRing (s : State) (c : Nat) (onDesc : Bool) : EngineKept s (s.pauseRing c onDesc) :=
  (modRing s c _).trans (syncRing _ c)

theorem advance (s : State) (c : Nat) : EngineKept s (s.advance c) :=
  ite (syncRing s c) ((modRing s c _).trans (setIndices _ c _ _))

theorem writeStatus (s : State) (c i code : Nat) (done : Bool) : EngineKept s (s.writeStatus c i code done) :=
  (wr s _ _).trans (ite (wr _ _ _) (refl _))

theorem endDesc (s : State) (c i code : Nat) : EngineKept s (s.endDesc c i code) :=
  ((((writeStatus s c i code true).trans (ite (craise _ c 2 (by decide)) (refl _))).trans (modRing _ c _)).trans
    (advance _ c)).trans (ite (pauseRing _ c false) (refl _))

theorem handOut (s : State) (e : Emit) : EngineKept s (s.handOut e) := by
  unfold State.handOut
  split
  · exact of_objs (.modMailbox s _ _) rfl
  · exact of_objs (.emit s e) rfl

/-! ### The mirror that is acknowledged, and that stops (R467, R469, R473) -/

theorem acknowledge (s : State) (seq : Nat) : EngineKept s (s.acknowledge seq) :=
  have left : EngineKept s { s with unacked := s.unacked.filter fun (u : Unacked) => seq < u.seq } :=
    of_objs ⟨rfl, rfl, rfl⟩ rfl
  (left.trans (foldl (f := State.handOut) handOut _ _)).trans (foldl (fun s (e : Nat × Nat) => endDesc s e.1 e.2 0) _ _)

theorem wipeUnits (s : State) (pages extents : List Nat) : EngineKept s (s.wipeUnits pages extents) :=
  ite (refl s) (of_objs ⟨rfl, rfl, rfl⟩ rfl)

theorem dropShadows (s : State) : EngineKept s s.dropShadows :=
  have dropped (u : State) : EngineKept u { u with partnerPages := [], partnerExtents := [], shadows := [] } :=
    of_objs ⟨rfl, rfl, rfl⟩ rfl
  ((acknowledge s s.mirrorNext).trans (dropped _)).trans (wipeUnits _ _ _)

end EngineKept

namespace TwinKept

theorem syncRing (s : State) (c : Nat) : TwinKept s (s.syncRing c) := (EngineKept.syncRing s c).toTwinKept

theorem endDesc (s : State) (c i code : Nat) : TwinKept s (s.endDesc c i code) := (EngineKept.endDesc s c i code).toTwinKept

theorem setCState (s : State) (c st code : Nat) : TwinKept s (s.setCState c st code) :=
  ((put s _ st).trans (ite (logEvent _ _ _ _ _ _ _) (refl _))).trans (mirrorAll _ _ _ _ _ _ _)

theorem toState (s : State) (c st code : Nat) : TwinKept s (s.toState c st code) :=
  (setCState s c st code).trans (syncRing _ c)

/-! ### Pools (R145, R286 to R288) -/

theorem grantOwed (s : State) (c : Nat) (relay : Bool) : TwinKept s (s.grantOwed c relay) := by
  unfold State.grantOwed
  extract_lets owed granted
  have sent : TwinKept s granted := foldl (fun u _ => ite (emit u _) (refl u)) owed s
  exact sent.trans (modCtx _ c _)

theorem relevel (s : State) (p : Nat) : TwinKept s (s.relevel p) := by
  have flagged (u : State) (q : Prop) [Decidable q] (c b : Nat) : TwinKept u (if q then u.craise c O_MEM_FLAGS b else u) :=
    ite (raise u _ b) (refl u)
  have granted (u : State) (q : Prop) [Decidable q] (c : Nat) (relay : Bool) :
      TwinKept u (if q then u.grantOwed c relay else u) := ite (grantOwed u c relay) (refl u)
  unfold State.relevel
  extract_lets free least old new levelled c black red pools
  have moved : TwinKept s red := (((put s _ _).trans (put _ _ _)).trans (flagged _ _ c 1)).trans (flagged _ _ c 0)
  exact ite (put s _ _) (ite ((moved.trans (granted _ _ c false)).trans (granted _ _ c true)) moved)

theorem giveBufs (s : State) (p c tag role n : Nat) : TwinKept s (s.giveBufs p c tag role n) :=
  ite (refl s) (((modPool s p _).trans (put _ _ _)).trans (relevel _ p))

theorem releaseUse (s : State) (c tag role : Nat) : TwinKept s (s.releaseUse c tag role) := by
  unfold State.releaseUse
  extract_lets p withdrawn given
  have left : TwinKept s given := (modPool s p _).trans (giveBufs withdrawn p c tag role _)
  exact left.trans (modPool _ p _)

theorem shrinkUse (s : State) (c tag role n : Nat) : TwinKept s (s.shrinkUse c tag role n) :=
  ite (giveBufs s _ c tag role _) (refl s)

/-! ### Windows that end (R17, R18, R147, R220, R409) -/

theorem crumbEnter (s : State) (c tag : Nat) : TwinKept s (s.crumbEnter c tag) :=
  (((ite (put s _ _) (refl s)).trans (modCtx _ c _)).trans (genUp _ _)).trans (mirrorAll _ _ _ _ _ _ _)

theorem closeNotices (s : State) (c : Nat) (w : Window) : TwinKept s (s.closeNotices c w) :=
  (put s _ _).trans (foldl (fun _ _ => emit _ _) _ _)

theorem releaseWindow (s : State) (c : Nat) (w : Window) : TwinKept s (s.releaseWindow c w) :=
  foldl (fun s r => releaseUse s c w.holder r) _ s

theorem closeStage (s : State) (c slot layer : Nat) : TwinKept s (s.closeStage c slot layer) :=
  ite (refl s) (modCtx s c _)

theorem setSlot (s : State) (c i st : Nat) : TwinKept s (s.setSlot c i st) :=
  ite (refl s) ((modCtx s c _).trans (genUp _ _))

theorem settleSlots (s : State) (c : Nat) : TwinKept s (s.settleSlots c) := by
  have slot (u : State) (i : Nat) (f : Ctx → Ctx) : TwinKept u ((u.modCtx c f).setSlot c i 2) :=
    (modCtx u c f).trans (setSlot _ c i 2)
  unfold State.settleSlots
  extract_lets settled
  have switched : TwinKept s settled := by
    unfold settled
    split
    · exact ite (modCtx s c _) (refl s)
    · exact refl s
  exact switched.trans (foldl (fun u i => ite (slot u i _) (refl u)) _ _)

theorem endWindow (s : State) (c : Nat) (w : Window) (code : Nat) : TwinKept s (s.endWindow c w code) := by
  unfold State.endWindow
  extract_lets dropped told closed
  have left : TwinKept s told := (modCtx s c _).trans (mirrorAll dropped _ c _ _ _ _)
  have staged : TwinKept s closed := left.trans (ite (closeStage told c _ _) (refl told))
  exact ((staged.trans (endDesc closed c _ code)).trans (settleSlots _ c)).trans (modCtx _ c _)

theorem abandon (s : State) (c : Nat) (w : Window) (code : Nat) : TwinKept s (s.abandon c w code) := by
  unfold State.abandon
  extract_lets noticed entered counted released freed forgotten
  have crumbed : TwinKept s entered := (ite (closeNotices s c w) (refl s)).trans (crumbEnter noticed c w.tag)
  have missed : TwinKept s counted := crumbed.trans (ite ((put entered _ _).trans (put _ _ _)) (refl entered))
  have given : TwinKept s freed :=
    (missed.trans (releaseWindow counted c w)).trans (ite (refl released) (releaseUse released c _ 5))
  exact (given.trans (ite (modCtx freed c _) (refl freed))).trans (endWindow forgotten c w code)

theorem enterHalted (s : State) (c code : Nat) (cause : Option Window) : TwinKept s (s.enterHalted c code cause) :=
  ((put s _ code).trans (toState _ c 5 code)).trans (foldl (fun s w => abandon s c w _) _ _)

theorem endStep (s : State) (c code : Nat) (cause : Option Window) : TwinKept s (s.endStep c code cause) :=
  ite (enterHalted s c code cause) (refl s)

/-! ### What waits to be sent (R129 to R140) -/

theorem emits (s : State) (l : List Emit) : TwinKept s (s.emits l) := foldl (f := State.emit) emit l s

theorem setCredit (s : State) (c n v : Nat) : TwinKept s (s.setCredit c n v) := modCtx s c _

theorem flow (r : Pumped) (c : Nat) (w : Window) (f : Flow) : TwinKept r.st (r.flow c w f).st := by
  unfold Pumped.flow
  extract_lets s keep dead blocked n total k flits sent credited recorded counted done marked
  split
  · exact refl _
  · split
    · exact refl _
    · split
      · exact raise _ _ 0
      · have left : TwinKept s counted :=
          ((ite (refl s) (setCredit s c _ _)).trans (emits credited _)).trans (put recorded _ _)
        exact left.trans (ite (emit counted _) (refl counted))

theorem pumpWindow (s : State) (c : Nat) (w : Window) : TwinKept s (s.pumpWindow c w) := by
  have flows (l : List Flow) (r : Pumped) : TwinKept r.st (l.foldl (fun r f => r.flow c w f) r).st := by
    induction l generalizing r with
    | nil => exact refl _
    | cons f l ih => exact (flow r c w f).trans (ih _)
  unfold State.pumpWindow
  extract_lets flowed sent pumped
  have kept : TwinKept s pumped := (flows w.flows ⟨s, [], 0, false⟩).trans (modCtx flowed.st c _)
  exact kept.trans (ite ((raise pumped _ 1).trans (endStep _ c 0x37 _)) (refl pumped))

theorem pumpOut (s : State) (c : Nat) (o : RelayOut) : TwinKept s (s.pumpOut c o).1 := by
  unfold State.pumpOut
  extract_lets n k credited sent
  split
  · exact refl s
  · split
    · exact raise s _ 0
    · exact (ite (refl s) (setCredit s c n _)).trans (ite (emit _ _) (refl _))

theorem pumpHeld (s : State) (c : Nat) (h : RelayHeld) : TwinKept s (s.pumpHeld c h).1 := by
  have outs (l : List RelayOut) (a : State × List RelayOut) :
      TwinKept a.1 (l.foldl (fun a o => let v := a.1.pumpOut c o; (v.1, a.2 ++ [v.2])) a).1 := by
    induction l generalizing a with
    | nil => exact refl _
    | cons o l ih => exact (pumpOut a.1 c o).trans (ih ((a.1.pumpOut c o).1, a.2 ++ [(a.1.pumpOut c o).2]))
  exact outs h.outs (s, [])

theorem freeHeld (s : State) (c : Nat) : TwinKept s (s.freeHeld c) :=
  ite (refl s) ((modCtx s c _).trans (foldl (fun s _ => shrinkUse s c _ 3 _) _ _))

theorem pump (s : State) (c : Nat) : TwinKept s (s.pump c) := by
  unfold State.pump
  refine (foldl (fun u j => ?_) _ s).trans (freeHeld _ c)
  split
  · split
    · exact ite (pumpWindow u c _) (refl u)
    · exact refl u
  · split
    · exact (pumpHeld u c _).trans (modCtx _ c _)
    · exact refl u

/-! ### A context taken up (R469, R473) -/

theorem applyVals (s : State) (c : Nat) (vals : List (Nat × Nat)) : TwinKept s (s.applyVals c vals) :=
  foldl (fun s _ => ite (put s _ _) (ite (refl s) (put s _ _))) vals s

theorem rebuildPool (s : State) (p : Nat) : TwinKept s (s.rebuildPool p) := (wr s _ _).trans ⟨rfl, rfl, rfl⟩

theorem applyImage (s : State) (c : Nat) (e : Nat × Bytes) : TwinKept s (s.applyImage c e) := by
  have written (a : Nat) (bs : Bytes) (f : Ctx → Ctx) : TwinKept s ((s.wr a bs).modCtx c f) :=
    (wr s a bs).trans (modCtx _ c f)
  unfold State.applyImage
  dsimp only
  split
  · exact (modCtx s c _).trans (genUp _ _)
  · exact ite (refl s) ⟨rfl, rfl, rfl⟩
  · exact ite (rebuildPool s _) (refl s)
  · split
    · exact ite (refl s) (written _ _ _)
    · exact refl s
  · split
    · exact ite (refl s) (written _ _ _)
    · exact refl s

theorem applyRecord (s : State) (c : Nat) (vals : List (Nat × Nat)) (images : List (Nat × Bytes)) :
    TwinKept s (s.applyRecord c vals images) :=
  (applyVals s c vals).trans (foldl (fun s e => applyImage s c e) images _)

theorem clearCtx (s : State) (c : Nat) : TwinKept s (s.clearCtx c) := ⟨rfl, rfl, rfl⟩

theorem assume (s : State) (c : Nat) (sh : Shadow) (cause : Nat) : TwinKept s (s.assume c sh cause) := by
  unfold State.assume
  extract_lets st0 st cleared dropped recorded stepped keep kept active router filled reserve pool reserved halted header
  refine ite (refl s) ?_
  have given : TwinKept s recorded :=
    (((clearCtx s c).trans (t := cleared) (u := dropped) ⟨rfl, rfl, rfl⟩).trans (applyRecord _ c _ _)).trans ⟨rfl, rfl, rfl⟩
  have held : TwinKept s reserved :=
    ((given.trans (put _ _ _)).trans (modCtx _ c _)).trans (ite (refl _) ((put _ _ _).trans (put _ _ _)))
  have ringed : TwinKept s header := (held.trans (ite (refl _) (put _ _ _))).trans (ite (refl _) (wr _ _ _))
  exact ((ringed.trans (put _ _ _)).trans (put _ _ _)).trans (toState _ c st cause)

end TwinKept

end Sys2Proof.Machine
end

section
/-! Proofs of the statement about the twin (R465 to R473): pairing, the mirror, heartbeats, the probe, takeover, redirects and
handback. -/

namespace Sys2Proof.Machine

open Sys2Proof

/-- An engine in TWIN_STATE 2 is paired. -/
theorem State.paired_of_twinState {s : State} (h : s.get O_TWIN_STATE = 2) : s.paired = true := by simp [State.paired, h]

/-! ### Pairing and the mirror (R465, R467) -/

/-- The twin is PAIRED: heartbeats are awaited from this beat on. -/
def State.pairedNow (s : State) : State :=
  let s := { s.put O_TWIN_STATE 2 with lastHeart := s.beat, heartMissed := 0, probing := none, taking := none }
  s.raiseLog O_TWIN_FLAGS 0 0xF8 0 8 0 0xFFFF (s.get O_PARTNER_NODE)

section Mirror

variable {s : State} (hup : s.coreUp = true)

include hup

theorem exec_pairingComplete (hst : s.get O_TWIN_STATE = 1) (hall : s.unacked = []) :
    exec .pairingComplete s = .next (ended s s.pairedNow) := by
  have acknowledged : (s.coreUp && s.get O_TWIN_STATE == 1 && s.unacked.isEmpty) = true := by simp [hup, hst, hall]
  show execPairingComplete s = _
  rw [execPairingComplete, if_pos acknowledged, finish_next]
  rfl

/-- A record of another kind than the journal's is taken while PAIRING or PAIRED. -/
theorem exec_mirrorRecord {r : MirrorRec} (hkind : r.kind ≠ .journal)
    (hst : s.get O_TWIN_STATE = 1 ∨ s.get O_TWIN_STATE = 2) (hc : r.ctx < 1024) :
    exec (.mirrorRecord r) s = .next (ended s (takeMirror s r)) := by
  have joined : (s.paired || s.get O_TWIN_STATE == 1) = true := by simpa [State.paired] using hst.symm
  show execMirrorRecord r s = _
  simp [execMirrorRecord, finish_next, hup, hkind, joined, hc]

theorem exec_mirrorAcknowledgement (seq : Nat) :
    exec (.mirrorAcknowledgement seq) s = .next (ended s (s.acknowledge seq)) := by
  show execMirrorAcknowledgement seq s = _
  rw [execMirrorAcknowledgement, if_pos hup, finish_next]

theorem exec_mirrorLag {u : Unacked} {rest : List Unacked} (hst : s.get O_TWIN_STATE = 2) (hq : s.unacked = u :: rest)
    (hlate : u.beat + s.get O_MIRROR_LAG_LIMIT < s.beat) :
    exec .mirrorLag s
      = .next (ended s (s.raiseLog O_TWIN_FLAGS 3 0xFB 0 8 0 0xFFFF (s.get O_PARTNER_NODE))) := by
  have lags : (s.coreUp && s.paired && s.beat > u.beat + s.get O_MIRROR_LAG_LIMIT) = true := by
    simp [hup, State.paired_of_twinState hst, hlate]
  show execMirrorLag s = _
  simp only [execMirrorLag, finish_next, hq, lags, if_true]

end Mirror

/-! ### Heartbeats and the probe (R468, R469) -/

/-- The partner's heartbeat is noted, with its progress words. -/
def State.heardPartner (s : State) (words : List Nat) : State :=
  { s with lastHeart := s.beat, heartMissed := 0, partnerWords := s.noteWords words }

/-- The partner is told of words that stand still. -/
def State.tellAlarms (s : State) (words : List ((Nat × Nat) × Nat)) : State :=
  words.foldl (fun s p => s.emit (.alarm p.2)) s

theorem State.tellAlarms_shape (s : State) (words : List ((Nat × Nat) × Nat)) :
    ∃ e, s.tellAlarms words = { s with out := e } := by
  unfold State.tellAlarms
  induction words generalizing s with
  | nil => exact ⟨s.out, rfl⟩
  | cons p rest ih =>
    obtain ⟨e, h⟩ := ih (s.emit (.alarm p.2))
    exact ⟨e, h⟩

/-- The partner is taken to live on its own: both engines are UNPAIRED. -/
def State.partnerLives (s : State) : State :=
  let s := s.raiseLog O_TWIN_FLAGS 1 0xF9 4 8 0 0xFFFF (s.get O_PARTNER_NODE)
  ({ s with probing := none }.put O_TWIN_STATE 0).dropShadows

/-- What the mirror's end leaves of the probe and of the twin's objects. -/
theorem State.partnerLives_reads (s : State) :
    s.partnerLives.probing = none ∧ s.partnerLives.get O_TWIN_STATE = 0 ∧ bitSet s.partnerLives O_TWIN_FLAGS 1 := by
  unfold State.partnerLives
  extract_lets logged
  have flagged : bitSet logged O_TWIN_FLAGS 1 := s.bitSet_raiseLog _ _ _ _ _ _ 1 (by decide)
  clear_value logged
  have kept := EngineKept.dropShadows ({ logged with probing := none }.put O_TWIN_STATE 0)
  refine ⟨kept.probing, ?_, ?_⟩
  · exact (kept.objs _ (by decide) (by decide) (by decide)).trans (State.get_put_same _ _ 0)
  · unfold bitSet
    rw [kept.objs _ (by decide) (by decide) (by decide), State.get_put_ne _ 0 (by decide)]
    exact flagged

section Partner

variable {s : State} (hup : s.coreUp = true)

include hup

theorem exec_probe (node : Nat) : exec (.probe node) s = .next (ended s (s.emit (.probeAnswer node))) := by
  show execProbe node s = _
  rw [execProbe, if_pos hup, finish_next]

variable (hst : s.get O_TWIN_STATE = 2)

include hst

theorem exec_heartbeat {beat : Nat} (words : List Nat) (hbeat : beat ≤ s.beat + 1) :
    ∃ l, exec (.heartbeat beat words) s = .next (ended s ((s.heardPartner words).tellAlarms l)) := by
  have heard : (s.coreUp && (s.paired || s.get O_TWIN_STATE == 1) && decide (beat ≤ s.beat + 1)) = true := by
    simp [hup, State.paired_of_twinState hst, hbeat]
  show ∃ l, execHeartbeat beat words s = _
  rw [execHeartbeat, if_pos heard, finish_next]
  exact ⟨_, rfl⟩

theorem exec_heartbeatLoss (hmissed : 8 ≤ s.heartMissed) (hprobe : s.probing = none) (htake : s.taking = none)
    (hby : s.get O_PARTNER_NODE ∉ s.bypassed) :
    exec .heartbeatLoss s
      = .next (ended s ({ s with probing := some s.beat }.emit (.probe (s.get O_PARTNER_NODE)))) := by
  have silent : (s.coreUp && s.paired && decide (s.heartMissed ≥ 8) && s.probing.isNone && s.taking.isNone) = true := by
    simp [hup, State.paired_of_twinState hst, hmissed, hprobe, htake]
  have reachable : ¬ s.bypassed.contains (s.get O_PARTNER_NODE) = true := by simpa using hby
  show execHeartbeatLoss s = _
  rw [execHeartbeatLoss, if_pos silent, if_neg reachable, finish_next]

theorem exec_probeAnswer {b : Nat} (hprobe : s.probing = some b) :
    exec .probeAnswer s = .next (ended s s.partnerLives) := by
  have awaited : (s.coreUp && s.paired && s.probing.isSome) = true := by
    simp [hup, State.paired_of_twinState hst, hprobe]
  show execProbeAnswer s = _
  rw [execProbeAnswer, if_pos awaited, finish_next]
  rfl

theorem exec_probeTimeout {b : Nat} (hprobe : s.probing = some b) (hlate : b + 16 ≤ s.beat) :
    exec .probeTimeout s = .next (ended s s.partnerLost) := by
  have unanswered : (s.coreUp && s.paired && decide (s.beat ≥ b + 16)) = true := by
    simp [hup, State.paired_of_twinState hst, hlate]
  show execProbeTimeout s = _
  simp only [execProbeTimeout, finish_next, hprobe, unanswered, if_true]

theorem exec_yieldMessage (htake : s.taking = none) : exec .yieldMessage s = .next (ended s s.partnerLost) := by
  have stands : (s.coreUp && s.paired && s.taking.isNone) = true := by
    simp [hup, State.paired_of_twinState hst, htake]
  show execYieldMessage s = _
  rw [execYieldMessage, if_pos stands, finish_next]

end Partner

/-! ### Takeover and redirects (R469, R471) -/

/-- A takeover ends: no shadow is left, and TWIN_STATE reads SOLO. -/
def State.takenOver (s : State) (lost dropped : Nat) : State :=
  let s := { s with
    shadows := []
    takeoverLast := leBytes 2 lost ++ leBytes 2 (min 0xFFFF (s.beat - s.lastHeart)) ++ leBytes 8 s.beat
      ++ leBytes 4 dropped }.genUp O_TAKEOVER_LAST
  ((s.put O_TWIN_STATE 3).bumpW 32 O_TAKEOVERS 1).raiseLog O_TWIN_FLAGS 2 0xFA 4 8 0 0xFFFF lost

theorem State.takenOver_reads (s : State) (lost dropped : Nat) :
    (s.takenOver lost dropped).taking = s.taking ∧ (s.takenOver lost dropped).shadows = [] ∧
      (s.takenOver lost dropped).get O_TWIN_STATE = 3 ∧ bitSet (s.takenOver lost dropped) O_TWIN_FLAGS 2 := by
  refine ⟨rfl, rfl, ?_, State.bitSet_raiseLog _ _ _ _ _ _ _ 2 (by decide)⟩
  unfold State.takenOver
  rw [State.get_raiseLog _ _ _ _ _ _ _ 2 (by decide) (by decide)]
  exact (State.get_put_ne _ _ (by decide)).trans (State.get_put_same _ _ 3)

theorem exec_takeoverComplete {s : State} {n : Nat} (hup : s.coreUp = true) (htake : s.taking = some n) :
    ∃ u : State, u.taking = none ∧
      exec .takeoverComplete s = .next (ended s (u.takenOver (s.get O_PARTNER_NODE) n)) := by
  show ∃ u : State, u.taking = none ∧ execTakeoverComplete s = _
  simp only [execTakeoverComplete, finish_next, htake, hup, Bool.not_true, Bool.false_eq_true, if_false]
  refine ⟨_, ?_, rfl⟩
  exact (TwinKept.foldl (fun u c => TwinKept.assume u c _ _) _ _).taking

/-- A redirect joins the table, of which the last 16 are kept, and is announced. -/
def State.redirect (s : State) (lost serving : Nat) : State :=
  let l := s.redirects.filter (fun r => r.1 != lost) ++ [(lost, serving)]
  ({ s with redirects := l.drop (l.length - 16) }.genUp O_REDIRECTS).emit (.takeover lost serving)

/-- The last one is among those kept. -/
theorem State.mem_redirect (s : State) (lost serving : Nat) : (lost, serving) ∈ (s.redirect lost serving).redirects := by
  show (lost, serving) ∈ (_ ++ [(lost, serving)]).drop _
  rw [List.drop_append_of_le_length (by simp)]
  exact List.mem_append_right _ List.mem_cons_self

section Announcement

variable {s : State} (hup : s.coreUp = true)

include hup

theorem exec_takeoverAnnouncement_other {lost serving : Nat} (hother : lost ≠ s.node)
    (hnew : (lost, serving) ∉ s.redirects) :
    exec (.takeoverAnnouncement lost serving) s
      = .next (ended s ((s.redirect lost serving).claimed.foldl State.pump (s.redirect lost serving))) := by
  have unknown : ¬ s.redirects.contains (lost, serving) = true := by simpa using hnew
  show execTakeoverAnnouncement lost serving s = _
  rw [execTakeoverAnnouncement, if_neg (by simp [hup]), if_neg (by simpa using hother), if_neg unknown, finish_next]
  rfl

/-- An engine that reads itself as lost. -/
theorem exec_takeoverAnnouncement_self (serving : Nat) :
    exec (.takeoverAnnouncement s.node serving) s = .next (ended s s.quarantineEngine) := by
  show execTakeoverAnnouncement s.node serving s = _
  rw [execTakeoverAnnouncement, if_neg (by simp [hup]), if_pos (beq_self_eq_true _), finish_next]

end Announcement

/-! ### Handback (R473) -/

/-- A context whose objects are all at their defaults is FREE. -/
theorem State.cstate_clearCtx (s : State) {c : Nat} (hc : c < 1024) : (s.clearCtx c).cstate c = 0 := by
  have own : isCtxKey c (ctxKey c O_CTX_STATE) = true := by
    have low : 0x800000 + c * 4096 ≤ ctxKey c O_CTX_STATE := by unfold ctxKey O_CTX_STATE; omega
    have high : ctxKey c O_CTX_STATE < 0x801000 + c * 4096 := by unfold ctxKey O_CTX_STATE; omega
    simp [isCtxKey, low, high]
  rw [← objDefault_ctxState hc]
  exact State.get_filter_dropped (s := s) (p := fun k => !isCtxKey c k) rfl (by simp [own])

theorem State.get_foldl_genUp (s : State) (c : Nat) (l : List Nat) (k : Nat) :
    (l.foldl (fun s d => s.genUp (ctxKey c d)) s).get k = s.get k := by
  induction l generalizing s with
  | nil => rfl
  | cons d l ih => exact ih _

/-- The context leaves for the partner, and its shadow stays behind. -/
def State.leaveShadow (s : State) (c : Nat) : State :=
  let x := s.ctx c
  let nums := [s.cstate c, s.cget c O_STEP, x.seqNext, s.cget c O_PRIOR_STATE]
  let sh : Shadow := ⟨s.recordVals c, s.recordImages c, nums ++ [x.settled],
    [s.cget c O_CONSUMER, s.cget c O_COMPLETED], [], x.crumbs, x.ledgers⟩
  let s := s.mirror .handback c nums
  let s := ((s.releaseReserve c).dropGroups c).dropPools c
  let s := ctxDomains.foldl (fun s k => s.genUp (ctxKey c k)) (s.clearCtx c)
  let s := (s.modShadow c fun _ => sh)
  { s with
    handing := none
    heldHalf := s.heldHalf.filter (· != c)
    partnerPages := s.partnerPages ++ x.lsPages.map fun u => (u, c)
    partnerExtents := s.partnerExtents ++ x.hbmExtents.map fun u => (u, c) }.ownersUp

/-- The last context of the lost node takes the redirect with it. -/
def State.handBack (s : State) (c : Nat) : State :=
  let s := s.leaveShadow c
  if s.heldHalf.isEmpty then
    let lost := s.get O_PARTNER_NODE
    ({ s with redirects := s.redirects.filter fun r => r.1 != lost }.genUp O_REDIRECTS).emit (.returned lost)
  else s

theorem exec_handbackTransfer {s : State} {c : Nat} (hup : s.coreUp = true) (hst : s.get O_TWIN_STATE = 2)
    (hhand : s.handing = some c) : exec .handbackTransfer s = .next (ended s (s.handBack c)) := by
  have works : ¬ (!s.coreUp || !s.paired) = true := by simp [hup, State.paired_of_twinState hst]
  show execHandbackTransfer s = _
  unfold execHandbackTransfer
  rw [hhand]
  show finish s (if !s.coreUp || !s.paired then { s with handing := none } else s.handBack c) = _
  rw [if_neg works, finish_next]

theorem State.leaveShadow_reads (s : State) {c : Nat} (hc : c < 1024) :
    (s.leaveShadow c).handing = none ∧ (s.leaveShadow c).cstate c = 0 ∧ c ∉ (s.leaveShadow c).heldHalf := by
  unfold State.leaveShadow
  extract_lets x nums sh mirrored dropped cleared shadowed
  have free : cleared.cstate c = 0 :=
    (State.get_foldl_genUp (dropped.clearCtx c) c ctxDomains _).trans (dropped.cstate_clearCtx hc)
  clear_value cleared
  refine ⟨rfl, free, ?_⟩
  · show c ∉ shadowed.heldHalf.filter (· != c)
    simp

theorem State.handBack_reads (s : State) {c : Nat} (hc : c < 1024) :
    (s.handBack c).handing = none ∧ (s.handBack c).cstate c = 0 ∧ c ∉ (s.handBack c).heldHalf := by
  have left := s.leaveShadow_reads hc
  unfold State.handBack
  generalize s.leaveShadow c = t at left ⊢
  dsimp only
  split
  · exact left
  · exact left

/-- Settles O18: one lemma for each command; what it leaves is read past the end of the command. -/
theorem twinEventsComplete : Obligations.TwinEventsComplete := by
  refine ⟨fun s hup hst hall => ?pairingComplete, fun _ _ hup => exec_mirrorRecord hup,
    fun _ seq hup _ => exec_mirrorAcknowledgement hup seq, fun s u rest hup hst hq hlate => ?mirrorLag,
    fun s beat words hup hst hbeat => ?heartbeat, fun s hup hst hmissed hprobe htake hby => ?heartbeatLoss,
    fun _ node hup => exec_probe hup node, fun s b hup hst hprobe => ?probeAnswer,
    fun _ _ hup hst => exec_probeTimeout hup hst, fun _ hup hst => exec_yieldMessage hup hst,
    fun s n hup htake => ?takeoverComplete, fun s lost serving hup hother hnew => ?takeoverAnnouncement,
    fun _ serving hup => exec_takeoverAnnouncement_self hup serving, fun s c hup hst hhand hc => ?handbackTransfer⟩
  case pairingComplete =>
    refine ⟨_, exec_pairingComplete hup hst hall, ?_,
      bitSet_ended (by decide) (by decide) (by decide) (State.bitSet_raiseLog _ _ _ _ _ _ _ 0 (by decide)),
      ended_lastHeart _ _⟩
    rw [ended_get_engine _ _ (by decide) (by decide) (by decide)]
    exact (State.get_raiseLog _ _ _ _ _ _ _ 0 (by decide) (by decide)).trans (s.get_put_same _ 2)
  case mirrorLag =>
    exact ⟨_, exec_mirrorLag hup hst hq hlate,
      bitSet_ended (by decide) (by decide) (by decide) (State.bitSet_raiseLog _ _ _ _ _ _ _ 3 (by decide))⟩
  case heartbeat =>
    obtain ⟨l, hexec⟩ := exec_heartbeat hup hst words hbeat
    obtain ⟨_, told⟩ := (s.heardPartner words).tellAlarms_shape l
    rw [told] at hexec
    exact ⟨_, hexec, ended_lastHeart _ _, ended_heartMissed _ _⟩
  case heartbeatLoss =>
    exact ⟨_, exec_heartbeatLoss hup hst hmissed hprobe htake hby, ended_probing _ _, mem_out_ended_emit _ _ _⟩
  case probeAnswer =>
    obtain ⟨stopped, unpaired, flagged⟩ := s.partnerLives_reads
    exact ⟨_, exec_probeAnswer hup hst hprobe, (ended_probing _ _).trans stopped,
      (ended_get_engine _ _ (by decide) (by decide) (by decide)).trans unpaired,
      bitSet_ended (by decide) (by decide) (by decide) flagged⟩
  case takeoverComplete =>
    obtain ⟨u, htaken, hexec⟩ := exec_takeoverComplete hup htake
    obtain ⟨stopped, none_left, solo, flagged⟩ := u.takenOver_reads (s.get O_PARTNER_NODE) n
    exact ⟨_, hexec, (ended_taking _ _).trans (stopped.trans htaken), (ended_shadows _ _).trans none_left,
      (ended_get_engine _ _ (by decide) (by decide) (by decide)).trans solo,
      bitSet_ended (by decide) (by decide) (by decide) flagged⟩
  case takeoverAnnouncement =>
    refine ⟨_, exec_takeoverAnnouncement_other hup hother hnew, ?_⟩
    rw [ended_redirects, (TwinKept.foldl (f := State.pump) TwinKept.pump _ _).redirects]
    exact s.mem_redirect lost serving
  case handbackTransfer =>
    obtain ⟨handed, free, gone⟩ := s.handBack_reads hc
    exact ⟨_, exec_handbackTransfer hup hst hhand, (ended_handing _ _).trans handed,
      (ended_cstate s (by rw [free]; decide)).trans free, by rwa [ended_heldHalf]⟩

end Sys2Proof.Machine
end
